-- ==== Sys2Proof/Word.lean ====
section
/-! DEFINITION. The octet and the fixed-size table the C412's records are made of. -/

namespace Sys2Proof

/-- One octet of a port frame, a telegram or a loop character (R191). -/
abbrev Byte := BitVec 8

/-- A table of fixed size, indexed from 0 (R1: the line, cell, permit, location, pattern and station tables). -/
abbrev Table (α : Type) (n : Nat) := Vector α n

/-- A timer: stopped, or running with the time in milliseconds it was started at (log 5). -/
abbrev Timer := Option Nat

end Sys2Proof
end

