-- ==== Sys2Proof/Config.lean ====
section
/-! DEFINITION. Capacities the manual fixes for the part, and the one free value the model needs. -/

namespace Sys2Proof

/-- R98: the route plan holds at most 12 entries. -/
def Config.planCapacity : Nat := 12

/-- R117: the cancel list holds at most 4 CANCELs. -/
def Config.cancelCapacity : Nat := 4

/-- R92: the pending action list holds at most 8 actions. -/
def Config.actionCapacity : Nat := 8

/-- R162: the sound list holds at most 12 requests. -/
def Config.soundCapacity : Nat := 12

/-- R109, R131, R141, R175: the counts that saturate do so at 255. -/
def Config.countTop : Nat := 255

/-- R82: the distance since beacon saturates at 65535. -/
def Config.distanceTop : Nat := 65535

/-- R56: the miss count saturates at 8. -/
def Config.missTop : Nat := 8

/-- R59, R73: the LINK entry's value, in STARTING and LOST. -/
def Config.linkCeiling : Int := -60

/-- R59: the LOCKDOWN entry's value. -/
def Config.lockdownCeiling : Int := -100

/-- FREE VALUE (log 5): the time remaining of a running timer, as the `n`th read of one finds it. The
model keeps no elapsed time, so nothing is known of it; a reader of a timer bounds it by the time the
timer was started at. -/
opaque Config.timeRemaining : Nat → Nat

end Sys2Proof
end

