-- ==== Sys2Proof/Syntax.lean ====
section
/-! DEFINITION. The names the manual gives to ports, records, states and causes, and the commands of
the block: one constructor of `Instr` for each row of spec/opcode_table.json. -/

namespace Sys2Proof

/-! ### Ports, desks and records -/

/-- One of the two driving desks. -/
inductive Desk where
  | a | b
deriving DecidableEq, Repr

/-- A master port (chapter 11). -/
inductive Port where
  | deskA | deskB | supervisor
deriving DecidableEq, Repr

/-- The record catalogue of R1, in the order of the record codes of R191. -/
inductive Record where
  | desk | demandA | demandB | ceilings | tractionStatus | plan | stops | stations | sound | fault
  | notices | vehicle | lines | cells | permits | locations | patterns | settings | mode
deriving DecidableEq, Repr

/-- The authority state of the vehicle (R21): NO_DESK, ACTIVE_x and RELEASING_x. -/
inductive DeskState where
  | noDesk
  | active (d : Desk)
  | releasing (d : Desk)
deriving DecidableEq, Repr

/-- What caused the most recent DESK_CHANGE notice (R21). -/
inductive LastChange where
  | none | claimed | released | forceReleased | keyRemovedAtStandstill | keyRemovedMoving
  | releaseCompleted | keyConflict
deriving DecidableEq, Repr

/-- The orientation value (Conventions; R21). -/
inductive LeadingEnd where
  | aLeading | bLeading | none
deriving DecidableEq, Repr

inductive Motion where
  | moving | standstill
deriving DecidableEq, Repr

inductive Mode where
  | configuring | service
deriving DecidableEq, Repr

/-- The lockdown state, and a unit's view of it. -/
inductive LockState where
  | clear | held
deriving DecidableEq, Repr

/-! ### Lines and matrix (chapter 3) -/

/-- The sounders, in the order of R37 and R162. -/
inductive Sounder where
  | bell | horn | buzzerA | buzzerB | chime
deriving DecidableEq, Repr

/-- The conditions, in the order of R45. -/
inductive Condition where
  | standstill | deskAActive | deskBActive | lockdown | serviceMode | guardActive | stopLatched
deriving DecidableEq, Repr

/-- The permits, in the order of R49. -/
inductive Permit where
  | keyA | keyB | vigilanceA | vigilanceB | tractionPermit | atStop | hornDirect | bellDirect
  | emergencyStop
deriving DecidableEq, Repr

/-- The two permits the sound unit takes (R51). -/
inductive DirectSound where
  | horn | bell
deriving DecidableEq, Repr

/-! ### Units that take an event handed on to several -/

/-- The units that take a motion report (R85). -/
inductive MotionTaker where
  | dau | tdu | lmu | fnu
deriving DecidableEq, Repr

/-- The units that take a share of the teardown (R32). -/
inductive TeardownTaker where
  | tdu | rtu | sru | sdu | lcu
deriving DecidableEq, Repr

/-- The units that take a change of the lockdown state (R176). -/
inductive LockTaker where
  | tdu | lmu | tlu | sdu
deriving DecidableEq, Repr

/-! ### Faults and notices (chapter 10) -/

/-- The source unit of a capture, in the order of R174. -/
inductive UnitName where
  | none | rst | dau | lmu | tdu | lcu | rtu | sru | sdu | fnu
deriving DecidableEq, Repr

/-- The kinds of severe fault, in the order of R173. -/
inductive FaultKind where
  | tractionLinkLost | locationOverflow | pointRunThrough | storeParity | emergencyStop
deriving DecidableEq, Repr

/-- The context of a severe fault (R173): none, a junction or a record. -/
inductive FaultContext where
  | none
  | junction (j : Nat)
  | record (r : Record)
deriving DecidableEq, Repr

/-- The sixteen notice causes, in the priority order of R180. -/
inductive Cause where
  | faultCaptured | lockdownChange | deskChange | linkChange | vigilance | routeChange
  | pointStateStray | stopDecision | stopRequest | stationHealth | telegramDiscarded | soundDropped
  | locationEvent | trackRxError | demandStale | propulsionFault
deriving DecidableEq, Repr

/-! ### Sound (chapter 9) -/

/-- The sources of sound requests, in the order of R162. -/
inductive SoundSource where
  | deskA | deskB | supervisor | vigilance | pointGuard | stopUnit | location | matrix | lockdown
deriving DecidableEq, Repr

/-! ### Port transactions (chapters 1 and 11) -/

/-- What a transaction clocks in at a port (R185): its octets, and whether it ends while the engine is serving
another port (R17, log 30). -/
structure PortFrame where
  octets : List Byte
  within : Bool
deriving DecidableEq, Repr

/-! ### The commands -/

/-- The commands of the block: one constructor for each row of spec/opcode_table.json, in its order.
The rows the engine serves carry the port, the conditional flag, the target or index octet where the row
leaves it open, and the payload octets of the request (R191). The rows of the two receivers carry the line at
its successive sample points, 16 to a bit period: for the track loop true is carrier (R128, log 17), for
the stop loop true is a line away from its idle level (R142, log 18). -/
inductive Instr where
  | powerOn
  | portTransaction (p : Port) (frame : PortFrame)
  | nullRequest (p : Port)
  | readReserve (p : Port) (target index : Byte)
  | noticesRead (p : Port) (index : Byte)
  | recordWrite (p : Port) (cond : Bool) (target index : Byte) (contents : List Byte)
  | demandWrite (p : Port) (cond : Bool) (d : Desk) (index : Byte) (contents : List Byte)
  | linesWrite (p : Port) (cond : Bool) (index : Byte) (contents : List Byte)
  | cellsWrite (p : Port) (cond : Bool) (index : Byte) (contents : List Byte)
  | permitsWrite (p : Port) (cond : Bool) (index : Byte) (contents : List Byte)
  | locationsWrite (p : Port) (cond : Bool) (index : Byte) (contents : List Byte)
  | patternsWrite (p : Port) (cond : Bool) (index : Byte) (contents : List Byte)
  | deskClaim (p : Port) (cond : Bool) (args : List Byte)
  | deskRelease (p : Port) (cond : Bool) (args : List Byte)
  | deskForceRelease (p : Port) (cond : Bool) (args : List Byte)
  | supervisorCeiling (p : Port) (cond : Bool) (args : List Byte)
  | routeInsert (p : Port) (cond : Bool) (args : List Byte)
  | routeSetCode (p : Port) (cond : Bool) (args : List Byte)
  | routeCancel (p : Port) (cond : Bool) (args : List Byte)
  | routeOverride (p : Port) (cond : Bool) (args : List Byte)
  | planSync (p : Port) (cond : Bool) (args : List Byte)
  | stopSet (p : Port) (cond : Bool) (args : List Byte)
  | stopClear (p : Port) (cond : Bool) (args : List Byte)
  | soundStart (p : Port) (cond : Bool) (args : List Byte)
  | soundStop (p : Port) (cond : Bool) (args : List Byte)
  | faultAck (p : Port) (cond : Bool) (args : List Byte)
  | lockdownRelease (p : Port) (cond : Bool) (args : List Byte)
  | noticeClear (p : Port) (cond : Bool) (args : List Byte)
  | noticeEnable (p : Port) (cond : Bool) (args : List Byte)
  | configCommit (p : Port) (cond : Bool) (args : List Byte)
  | reconfigure (p : Port) (cond : Bool) (args : List Byte)
  | structuralChangeReport (r : Record)
  | rawLevelChange (line : Fin 32) (level : Bool)
  | debounceTimerExpiry (line : Fin 32)
  | onDelayTimerExpiry (cell : Fin 16)
  | conditionChange (c : Condition) (value : Bool)
  | keyPermitEvent (d : Desk) (value : Bool)
  | vigilancePedalEvent (d : Desk) (value : Bool)
  | tractionPermitEvent (value : Bool)
  | atStopEvent (value : Bool)
  | directSoundPermitEvent (k : DirectSound) (value : Bool)
  | emergencyStopEvent (value : Bool)
  | tachPulse
  | standstillTimerExpiry
  | movingReport (u : MotionTaker)
  | standstillReport (u : MotionTaker)
  | deskStateChange (new : DeskState)
  | noDeskTeardown (u : TeardownTaker) (former : Desk) (byCommand : Bool)
  | leadingEndPublished (e : LeadingEnd)
  | frameTimerExpiry
  | statusFrame (octets : List Byte)
  | staleTimerExpiry
  | graceTimerExpiry
  | pointGuardEntryChange (active : Bool) (value : Int)
  | beaconTelegram (heard : List Bool)
  | pointStateTelegram (heard : List Bool)
  | trackRxError (heard : List Bool)
  | armRoute (junction : Nat)
  | clearance (junction : Nat)
  | stopZoneEnter (platform : Nat) (mandatory : Bool)
  | stopZoneLeave (platform : Nat)
  | notifyAction (entry : Nat) (beacon : Nat)
  | windowOpen
  | windowClose
  | guardTimerExpiry (junction : Nat)
  | lateDecisionReport (platform : Nat)
  | owedReport
  | telegramEnd
  | gapTimerExpiry
  | pollEnd
  | goodReply (heard : List Bool)
  | badReply (heard : List Bool)
  | unsolicitedCharacter
  | hardwareSoundAdd (src : SoundSource) (snd : Sounder) (pattern : Fin 16)
  | hardwareSoundRemove (src : SoundSource) (snd : Sounder)
  | phaseTimerExpiry (snd : Sounder)
  | strikeEnd
  | severeFault (kind : FaultKind) (source : UnitName) (context : FaultContext) (recoverable : Bool)
      (effort : Option Int)
  | lockdownViewChange (u : LockTaker) (view : LockState)
  | noticeRaise (c : Cause)
  | receiverRecoveringBit (carrier : Bool)
deriving DecidableEq, Repr

end Sys2Proof
end

