-- ==== Sys2Proof/Decode.lean ====
section
/-! DEFINITION. The commands that a word of spec/opcode_table.json spells. No row of the table gives
bits (its rows carry neither "fixed" nor "fields"), so no word spells a command. -/

namespace Sys2Proof

/-- The command an `nbits`-bit word spells: none, for the table gives no row bits (log 27). -/
def decodeTableWord (_nbits _w : Nat) : Option Instr := none

end Sys2Proof
end

