-- ==== Sys2Proof/Machine/State.lean ====
section
/-! DEFINITION. The whole state of the C412 as plain data: what each unit holds (the state tables of
R21, R56, R82, R98, R99, R126, R141, R158, R162 and R172), the port interface, the record store, the
settings, the events handed on between units, and the queue of commands. -/

namespace Sys2Proof.Machine

/-! ### One value for each port, one for each desk -/

/-- One value for each master port. -/
structure PerPort (α : Type) where
  deskA : α
  deskB : α
  supervisor : α
deriving DecidableEq, Repr

def PerPort.get {α : Type} (t : PerPort α) : Port → α
  | .deskA => t.deskA
  | .deskB => t.deskB
  | .supervisor => t.supervisor

def PerPort.set {α : Type} (t : PerPort α) (p : Port) (x : α) : PerPort α :=
  match p with
  | .deskA => { t with deskA := x }
  | .deskB => { t with deskB := x }
  | .supervisor => { t with supervisor := x }

def PerPort.map {α β : Type} (f : α → β) (t : PerPort α) : PerPort β :=
  ⟨f t.deskA, f t.deskB, f t.supervisor⟩

/-- One value for each desk. -/
structure PerDesk (α : Type) where
  a : α
  b : α
deriving DecidableEq, Repr

def PerDesk.get {α : Type} (t : PerDesk α) : Desk → α
  | .a => t.a
  | .b => t.b

def PerDesk.set {α : Type} (t : PerDesk α) (d : Desk) (x : α) : PerDesk α :=
  match d with
  | .a => { t with a := x }
  | .b => { t with b := x }

/-! ### Requests and responses (R2, R3, R185) -/

/-- A checked request: the five kinds of R2. The conditional flag is kept only where it has an effect,
and the index only where the kind uses it (R2, R191). -/
inductive Request where
  | null
  | read (target index : Byte)
  | readReserve (target index : Byte)
  | write (cond : Bool) (target index : Byte) (contents : List Byte)
  | command (cond : Bool) (code : Byte) (args : List Byte)
deriving DecidableEq, Repr

/-- The statuses of R3 and R185 to R187, in the order of R191. -/
inductive Status where
  | done | retry | refused | badFrame | portBusy
deriving DecidableEq, Repr

/-- The reasons of a refusal, in the order of R191. -/
inductive Reason where
  | none | notAuthorised | noReservation | outOfRange | listFull | duplicate | wrongState
  | configLocked | configLoop | unknownTarget | storeError | badPattern | configIncomplete
deriving DecidableEq, Repr

structure Response where
  status  : Status
  reason  : Reason
  payload : List Byte
deriving DecidableEq, Repr

/-- R185: one port's request slot (`none` is EMPTY) and response slot, and the frame last clocked out
to its master. -/
structure PortSlots where
  waiting  : Option Request
  response : Response
  returned : Option (List Byte)
deriving DecidableEq, Repr

/-! ### Record store -/

/-- R1: the VEHICLE record. -/
structure Vehicle where
  line : Nat
  run  : Nat
deriving DecidableEq, Repr

/-- The record store's own state (R9, R17, R188, R1). `served` is the port of the service last made, until a
Supervisor request that arrived within that service has been counted (R17, log 30). -/
structure Rst where
  slots    : PerPort (Option Record)
  passOver : Nat
  mode     : Mode
  vehicle  : Vehicle
  served   : Option Port
deriving DecidableEq, Repr

/-! ### Desk authority unit (R21) -/

/-- R21's record; the active desk field is computed from the state (`DeskState.holder`), with which it
always agrees. `motion` is the motion last reported to the unit (log 10). -/
structure Dau where
  state      : DeskState
  leading    : LeadingEnd
  keySeen    : PerDesk Bool
  lastChange : LastChange
  motion     : Motion
deriving DecidableEq, Repr

/-! ### Line and matrix unit (chapter 3) -/

/-- R37. -/
inductive LineGroup where
  | unused | plainInput | tachInput | cellOutput | sounderOutput | stateOutput
deriving DecidableEq, Repr

inductive StateFunction where
  | emergencyBrake | deskALamp | deskBLamp | stopIndicator | guardIndicator | lockdownLamp
deriving DecidableEq, Repr

inductive LockdownDrive where
  | follow | off | on
deriving DecidableEq, Repr

/-- R37: an entry of the line table. -/
structure LineEntry where
  group    : LineGroup
  debounce : Nat
  cell     : Fin 16
  sounder  : Sounder
  stateFn  : StateFunction
  drive    : LockdownDrive
deriving DecidableEq, Repr

/-- R41. -/
inductive CellKind where
  | off | and | or | xor | nand | nor | latch | onDelay
deriving DecidableEq, Repr

inductive CellSource where
  | line (n : Fin 32)
  | cell (n : Fin 16)
  | constantTrue
  | condition (c : Condition)
deriving DecidableEq, Repr

/-- R41: an entry of the cell table. -/
structure CellEntry where
  kind    : CellKind
  a       : CellSource
  aInvert : Bool
  b       : CellSource
  bInvert : Bool
  delay   : Nat
deriving DecidableEq, Repr

/-- R49. -/
inductive PermitSource where
  | line (n : Fin 32)
  | cell (n : Fin 16)
  | fixedFalse
  | fixedTrue
deriving DecidableEq, Repr

structure PermitEntry where
  source : PermitSource
  invert : Bool
deriving DecidableEq, Repr

/-- R36: one copy of the three configuration tables of the matrix. -/
structure MatrixTables where
  lines   : Table LineEntry 32
  cells   : Table CellEntry 16
  permits : Table PermitEntry 9
deriving DecidableEq, Repr

/-- The LMU: both copies of its tables, the lines, the cells, the conditions and the permits. A LATCH
cell's state is its output (R43). -/
structure Lmu where
  written    : MatrixTables
  active     : MatrixTables
  raw        : Table Bool 32
  taken      : Table Bool 32
  debounce   : Table Timer 32
  output     : Table Bool 16
  delay      : Table Timer 16
  conditions : Table Bool 7
  delivered  : Table Bool 9
deriving DecidableEq, Repr

/-! ### Traction demand unit (R56) -/

inductive Selector where
  | forward | neutral | reverse
deriving DecidableEq, Repr

inductive Direction where
  | forward | reverse
deriving DecidableEq, Repr

/-- A demand record (R57). -/
structure Demand where
  lever    : Int
  selector : Selector
deriving DecidableEq, Repr

/-- R1, R59: the entries of the ceiling table, in index order. -/
inductive CeilingSource where
  | desk | direction | matrix | pointGuard | vigilance | link | stale | supervisor | lockdown
deriving DecidableEq, Repr

structure CeilingEntry where
  active : Bool
  value  : Int
deriving DecidableEq, Repr

/-- R68, in the order of R191's traction frame. -/
inductive FrameMode where
  | coast | drive | brake | emergency
deriving DecidableEq, Repr

structure TractionFrame where
  mode    : FrameMode
  effort  : Int
  leading : LeadingEnd
  seq     : BitVec 4
deriving DecidableEq, Repr

/-- R72. -/
structure StatusReport where
  echo            : BitVec 4
  applied         : Int
  propulsionFault : Bool
deriving DecidableEq, Repr

inductive LinkState where
  | starting | up | lost
deriving DecidableEq, Repr

inductive Vigilance where
  | off | held | warning | penalty
deriving DecidableEq, Repr

/-- R56. The lowest ceiling is computed from the table (R60). `recent` holds the sequence numbers of the
last four frames sent, newest first (R66, R72). -/
structure Tdu where
  demand         : PerDesk Demand
  staleTimer     : Timer
  ceilings       : Table CeilingEntry 9
  lock           : Bool
  taken          : Option Direction
  lastEffort     : Int
  lastFrame      : Option TractionFrame
  nextSeq        : BitVec 4
  recent         : List (BitVec 4)
  link           : LinkState
  misses         : Nat
  statusSeen     : Bool
  lastStatus     : Option StatusReport
  vigilance      : Vigilance
  graceTimer     : Timer
  pedals         : PerDesk Bool
  tractionPermit : Bool
  motion         : Motion
  lockView       : LockState
  frameTimer     : Timer
deriving DecidableEq, Repr

/-! ### Location unit (R82) -/

inductive Orientation where
  | aLeading | bLeading | either
deriving DecidableEq, Repr

inductive LocationAction where
  | armRoute | clearance | stopZoneEnter | stopZoneLeave | bell | notify
deriving DecidableEq, Repr

/-- An action of the location table with its argument fields (R89). -/
structure ActionSpec where
  action    : LocationAction
  junction  : Nat
  platform  : Nat
  mandatory : Bool
  pattern   : Fin 16
deriving DecidableEq, Repr

/-- R89: an entry of the location table. -/
structure LocationEntry where
  enabled     : Bool
  matchValue  : BitVec 12
  mask        : BitVec 12
  orientation : Orientation
  offset      : Nat
  act         : ActionSpec
deriving DecidableEq, Repr

/-- R92: a pending action. -/
structure PendingAction where
  entry     : Nat
  beacon    : BitVec 12
  act       : ActionSpec
  remaining : Nat
deriving DecidableEq, Repr

inductive LocationEventKind where
  | notify | overflow
deriving DecidableEq, Repr

structure LocationEvent where
  kind   : LocationEventKind
  entry  : Nat
  beacon : Nat
  action : LocationAction
deriving DecidableEq, Repr

/-- R82. The window is open while `window` is above 0. -/
structure Lcu where
  motion          : Motion
  firstPulse      : Bool
  standstillTimer : Timer
  pulses          : Nat
  distance        : Nat
  lastBeacon      : Option (BitVec 12)
  window          : Nat
  leading         : LeadingEnd
  table           : Table LocationEntry 16
  actions         : List PendingAction
  lastEvent       : Option LocationEvent
deriving DecidableEq, Repr

/-! ### Route unit (R98, R99) -/

inductive EntryState where
  | queued | armed | sent | confirmed | refused | faulted | overridden
deriving DecidableEq, Repr

/-- R109, in the order of R191's POINT_STATE telegram. -/
inductive PointReport where
  | setting | locked | refused | fault
deriving DecidableEq, Repr

structure PointState where
  state : PointReport
  code  : Nat
deriving DecidableEq, Repr

/-- R98: the fields of a plan entry, and its guard timer. -/
structure PlanEntry where
  junction      : Nat
  code          : Nat
  platform      : Option Nat
  priority      : Nat
  origin        : Port
  state         : EntryState
  requestsOwed  : Nat
  updateOwed    : Bool
  transmissions : Nat
  lastPoint     : Option PointState
  guard         : Timer
deriving DecidableEq, Repr

/-- R117. -/
structure Cancel where
  junction : Nat
  code     : Nat
deriving DecidableEq, Repr

inductive TelegramKind where
  | request | update | cancel
deriving DecidableEq, Repr

/-- R99's in-flight field, with whether the telegram's subject has stayed in the plan or the list since
its selection (R115, log 24). -/
structure InFlight where
  kind     : TelegramKind
  junction : Nat
  present  : Bool
deriving DecidableEq, Repr

inductive PlanException where
  | noRoute | unplannedClearance | strayPointState | telegramDiscarded | lateStopUnreported
deriving DecidableEq, Repr

/-- R98, R99, R117. The header's window remaining is the location unit's; `windowOpen` is the header's window
open, which changes as the unit takes the opening and the close (R88, R119, R124). -/
structure Rtu where
  plan       : List PlanEntry
  cancels    : List Cancel
  inFlight   : Option InFlight
  exception  : Option (PlanException × Nat)
  otherRun   : Nat
  windowOpen : Bool
deriving DecidableEq, Repr

/-! ### Track link unit (R126) -/

inductive TransmitterState where
  | idle | sending | gap
deriving DecidableEq, Repr

inductive ReceiverState where
  | hunting | receiving | recovering
deriving DecidableEq, Repr

/-- R132: a telegram as composed. -/
structure OutTelegram where
  kind     : TelegramKind
  junction : Nat
  code     : Nat
  stopping : Bool
  priority : Nat
  line     : Nat
  run      : Nat
deriving DecidableEq, Repr

/-- R126. The last three fields are the receiver's place in the bits and sample points of R128: `bits`, the
bit periods of the telegram being received, true for carrier at the mid-sample, the start burst first;
`wait`, the sample points up to and with the next mid-sample, or to the end of the silent bit period of a telegram
that is whole; `run`, how many of the last two sample points
had carrier without a break up to now. -/
structure Tlu where
  transmitter : TransmitterState
  inFlight    : Option OutTelegram
  gapTimer    : Timer
  lastRequest : Option Nat
  windowOpen  : Bool
  lockView    : LockState
  modeView    : Mode
  receiver    : ReceiverState
  silent      : Nat
  checkCount  : Nat
  framingCount : Nat
  lengthCount : Nat
  bits        : List Bool
  wait        : Nat
  run         : Nat
deriving DecidableEq, Repr

/-! ### Stop request unit (R141, R145, R147) -/

inductive PollState where
  | stopped | sending | awaiting | receiving
deriving DecidableEq, Repr

inductive Health where
  | present | suspect | absent
deriving DecidableEq, Repr

structure Station where
  health : Health
  misses : Nat
  fault  : Bool
  ackDue : Bool
deriving DecidableEq, Repr

inductive StopKind where
  | stop | wheelchair
deriving DecidableEq, Repr

structure StopEntry where
  station : Nat
  kind    : StopKind
deriving DecidableEq, Repr

structure Zone where
  platform  : Nat
  mandatory : Bool
deriving DecidableEq, Repr

inductive Decision where
  | none | stopAhead | passAhead
deriving DecidableEq, Repr

inductive HealthEvent where
  | absent | recovered | faultSet | faultCleared
deriving DecidableEq, Repr

inductive StopEventKind where
  | latched | wheelchairAtStop | decided | late | missed
deriving DecidableEq, Repr

inductive LampCommand where
  | off | stop | stopWheelchair
deriving DecidableEq, Repr

/-- R143: a poll frame. -/
structure Poll where
  address : Nat
  ack     : Bool
  lamp    : LampCommand
deriving DecidableEq, Repr

/-- R142: the receiver of the stop loop. `away` is 0, or one more than the sample points passed since the
departure from the idle level that is a candidate start bit; `bits` holds, while a character is received, its
bits read so far, true for a level away from idle; `wait` is the sample points up to and with the next
mid-sample of that character. -/
structure LineReceiver where
  away : Nat
  bits : Option (List Bool)
  wait : Nat
deriving DecidableEq, Repr

/-- R141, R147. The latch is computed: it is set exactly when the list is non-empty. `driven` is the line bits
of the polls on the line, each to be completed (R142, R143): the first is being sent, and a second one follows only
where RECONFIGURE overtook the first; empty when none is; `line` is the receiver, `ours` says that the character it
receives began as part of the reply awaited, `quiet` counts the sample points since that reply's last
character, and `got` holds the reply's characters so far (R143, R144). -/
structure Sru where
  pollState     : PollState
  address       : Nat
  poll          : Option Poll
  replyTimer    : Timer
  stations      : Table Station 24
  unsolicited   : Nat
  lastHealth    : Option (Nat × HealthEvent)
  list          : List StopEntry
  zone          : Option Zone
  decision      : Decision
  stoppedInZone : Bool
  lastStop      : Option (StopEventKind × Nat)
  atStop        : Bool
  driven        : List (List Bool)
  line          : LineReceiver
  ours          : Bool
  quiet         : Nat
  got           : List Byte
deriving DecidableEq, Repr

/-! ### Sound unit (R158, R159, R162) -/

/-- R159: a step, its times in milliseconds. -/
structure SoundStep where
  on  : Nat
  off : Nat
deriving DecidableEq, Repr

/-- R159: a pattern; default repeats 0 is continuous. -/
structure Pattern where
  steps   : List SoundStep
  repeats : Nat
deriving DecidableEq, Repr

/-- R162: a request of the sound list; its age is its place in the list, its state is PLAYING exactly
when its sounder's player plays it. `repeats = none` is continuous. -/
structure SoundRequest where
  source   : SoundSource
  sounder  : Sounder
  pattern  : Fin 16
  priority : Nat
  repeats  : Option Nat
deriving DecidableEq, Repr

inductive Phase where
  | on | off
deriving DecidableEq, Repr

/-- R158. `playing` names the request by its source: the list holds at most one per source and sounder
(R162). `strike` runs while a bell strike is in progress (R161). -/
structure Player where
  playing    : Option SoundSource
  step       : Nat
  phase      : Phase
  timer      : Timer
  lastSource : Option SoundSource
  strike     : Timer
deriving DecidableEq, Repr

inductive SoundEventKind where
  | evicted | dropped | emptyPattern
deriving DecidableEq, Repr

structure SoundEvent where
  kind    : SoundEventKind
  source  : SoundSource
  sounder : Sounder
deriving DecidableEq, Repr

/-- R158, R159, R162, R169. -/
structure Sdu where
  patterns   : Table Pattern 16
  requests   : List SoundRequest
  players    : Table Player 5
  lastEvent  : Option SoundEvent
  hornDirect : Bool
  bellDirect : Bool
  lockView   : LockState
deriving DecidableEq, Repr

/-! ### Fault and notice unit (R172, R174) -/

/-- R174: the capture record; `kind = none` is the power-on value NONE. -/
structure Capture where
  kind         : Option FaultKind
  second       : Option FaultKind
  source       : UnitName
  context      : FaultContext
  motion       : Motion
  desk         : DeskState
  effort       : Int
  recoverable  : Bool
  acknowledged : Bool
  count        : Nat
deriving DecidableEq, Repr

/-- R172: one port's notice sets; bit n-1 stands for the cause of priority n (R191). -/
structure NoticeSets where
  pending : BitVec 16
  enabled : BitVec 16
  seen    : BitVec 16
deriving DecidableEq, Repr

/-- R172. -/
structure Fnu where
  capture       : Capture
  armed         : Bool
  lock          : LockState
  emergencyStop : Bool
  motion        : Motion
  notices       : PerPort NoticeSets
deriving DecidableEq, Repr

/-! ### Settings -/

inductive TieMode where
  | oldestFirst | rotate
deriving DecidableEq, Repr

/-- R171: the pattern assigned to each use, in the order of the table. -/
structure PatternUses where
  vigilance  : Fin 16
  guardAlert : Fin 16
  stopChime  : Fin 16
  stopAhead  : Fin 16
  lateStop   : Fin 16
  wheelchair : Fin 16
  lockdown   : Fin 16
  hornDirect : Fin 16
  bellDirect : Fin 16
deriving DecidableEq, Repr

/-- The SETTINGS record, in the order of R191: R1; R23; R80; R96; R125; R139; R157; R171. -/
structure Settings where
  promotion        : Nat
  releasingCeiling : Int
  noDeskCeiling    : Int
  framePeriod      : Nat
  ramp             : Nat
  staleTime        : Nat
  graceTime        : Nat
  penaltyCeiling   : Int
  linkLoss         : Nat
  pulsesPerMetre   : Nat
  standstillWindow : Nat
  windowLength     : Nat
  repeats          : Nat
  guardTime        : Nat
  creep            : Int
  gap              : Nat
  stationCount     : Nat
  replyTimeout     : Nat
  strikeWidth      : Nat
  tieModes         : Table TieMode 5
  uses             : PatternUses
deriving DecidableEq, Repr

/-! ### Store parity -/

/-- A stored word of a record (R19, R20), as the model tells words apart (log 7): field `n` of a record or
header, field `k` of entry `i` of a table (of PLAN, by junction), the same of an active table of the matrix
(R55), field `k` of a CANCEL or of a sound request, or one of a port's notice sets. Fields count from 0 in the
order of the owning rule. -/
inductive StoreWord where
  | field (r : Record) (n : Nat)
  | entry (r : Record) (i k : Nat)
  | active (r : Record) (i k : Nat)
  | cancel (junction k : Nat)
  | request (src : SoundSource) (snd : Sounder) (k : Nat)
  | notice (p : Port) (n : Nat)
deriving DecidableEq, Repr

/-! ### The whole state -/

/-- The state of the C412. `bad` names the stored words whose parity does not agree with their contents
(R19). `handed` holds, oldest first, the events one unit has handed on to another and that are not yet
taken, each as its row's command (log 1). `draws` counts the free values read so far (log 5).
`pending` is the queue of commands. -/
structure State where
  pif      : PerPort PortSlots
  rst      : Rst
  dau      : Dau
  lmu      : Lmu
  tdu      : Tdu
  lcu      : Lcu
  rtu      : Rtu
  tlu      : Tlu
  sru      : Sru
  sdu      : Sdu
  fnu      : Fnu
  settings : Settings
  bad      : List StoreWord
  handed   : List Instr
  draws    : Nat
  pending  : List Instr
deriving DecidableEq, Repr

/-- The device has no stop of its own: every event the manual names is followed by a next state, and a
request that cannot be taken is answered, not halted. Raised by nobody; with no constructor it is safe,
for no claim can rest on a fault. -/
inductive Fault
deriving DecidableEq, Repr

/-- A command without a meaning. -/
inductive Refusal where
  /-- Raised by `exec` for a row whose meaning is not written; safe, for the model stops there. -/
  | notModelled (mnemonic : String)
deriving DecidableEq, Repr

/-! ### Power-on values -/

/-- R185: every request slot EMPTY, every response slot as though a NULL had been served. -/
def PortSlots.reset : PortSlots :=
  { waiting := none, response := ⟨.done, .none, []⟩, returned := none }

/-- R37. -/
def LineEntry.reset : LineEntry := ⟨.unused, 20, 0, .bell, .emergencyBrake, .follow⟩

/-- R41. -/
def CellEntry.reset : CellEntry := ⟨.off, .constantTrue, false, .constantTrue, false, 0⟩

/-- R36, R49. -/
def MatrixTables.reset : MatrixTables :=
  { lines := Vector.replicate 32 LineEntry.reset
    cells := Vector.replicate 16 CellEntry.reset
    permits := Vector.replicate 9 ⟨.fixedFalse, false⟩ }

/-- R38, R43, R44, R45, R50. -/
def Lmu.reset : Lmu :=
  { written := MatrixTables.reset
    active := MatrixTables.reset
    raw := Vector.replicate 32 false
    taken := Vector.replicate 32 false
    debounce := Vector.replicate 32 none
    output := Vector.replicate 16 false
    delay := Vector.replicate 16 none
    conditions := #v[true, false, false, false, false, false, false]
    delivered := Vector.replicate 9 false }

/-- R59: the ceiling table after power-on. -/
def Tdu.resetCeilings : Table CeilingEntry 9 :=
  #v[⟨true, -40⟩, ⟨true, 0⟩, ⟨true, 0⟩, ⟨false, 0⟩, ⟨false, 0⟩, ⟨true, -60⟩, ⟨false, 0⟩, ⟨false, 0⟩,
    ⟨false, 0⟩]

/-- R56. -/
def Tdu.reset : Tdu :=
  { demand := ⟨⟨0, .neutral⟩, ⟨0, .neutral⟩⟩
    staleTimer := none
    ceilings := Tdu.resetCeilings
    lock := false
    taken := none
    lastEffort := 0
    lastFrame := none
    nextSeq := 0
    recent := []
    link := .starting
    misses := 0
    statusSeen := false
    lastStatus := none
    vigilance := .off
    graceTimer := none
    pedals := ⟨false, false⟩
    tractionPermit := false
    motion := .standstill
    lockView := .clear
    frameTimer := some 20 }

/-- R89. -/
def LocationEntry.reset : LocationEntry :=
  ⟨false, 0, 4095, .either, 0, ⟨.notify, 1, 1, false, 1⟩⟩

/-- R82. -/
def Lcu.reset : Lcu :=
  { motion := .standstill
    firstPulse := false
    standstillTimer := none
    pulses := 0
    distance := 0
    lastBeacon := none
    window := 0
    leading := .none
    table := Vector.replicate 16 LocationEntry.reset
    actions := []
    lastEvent := none }

/-- R126. -/
def Tlu.reset : Tlu :=
  { transmitter := .idle
    inFlight := none
    gapTimer := none
    lastRequest := none
    windowOpen := false
    lockView := .clear
    modeView := .configuring
    receiver := .recovering
    silent := 0
    checkCount := 0
    framingCount := 0
    lengthCount := 0
    bits := []
    wait := 2
    run := 0 }

/-- R141. -/
def Sru.reset : Sru :=
  { pollState := .stopped
    address := 1
    poll := none
    replyTimer := none
    stations := Vector.replicate 24 ⟨.absent, 3, false, false⟩
    unsolicited := 0
    lastHealth := none
    list := []
    zone := none
    decision := .none
    stoppedInZone := false
    lastStop := none
    atStop := false
    driven := []
    line := ⟨0, none, 0⟩
    ours := false
    quiet := 0
    got := [] }

/-- R159. -/
def Sdu.resetPatterns : Table Pattern 16 :=
  #v[⟨[⟨2550, 0⟩], 0⟩, ⟨[⟨250, 0⟩, ⟨250, 600⟩], 1⟩, ⟨[⟨400, 100⟩, ⟨600, 0⟩], 1⟩, ⟨[⟨500, 500⟩], 0⟩,
    ⟨[⟨150, 150⟩], 0⟩, ⟨[⟨100, 200⟩], 2⟩, ⟨[], 1⟩, ⟨[], 1⟩, ⟨[], 1⟩, ⟨[], 1⟩, ⟨[], 1⟩, ⟨[], 1⟩,
    ⟨[], 1⟩, ⟨[], 1⟩, ⟨[], 1⟩, ⟨[], 1⟩]

/-- R158. -/
def Player.reset : Player := ⟨none, 1, .off, none, none, none⟩

/-- R158, R162, R169. -/
def Sdu.reset : Sdu :=
  { patterns := Sdu.resetPatterns
    requests := []
    players := Vector.replicate 5 Player.reset
    lastEvent := none
    hornDirect := false
    bellDirect := false
    lockView := .clear }

/-- R172. -/
def Fnu.reset : Fnu :=
  { capture := ⟨none, none, .none, .none, .standstill, .noDesk, 0, true, true, 0⟩
    armed := true
    lock := .clear
    emergencyStop := false
    motion := .standstill
    notices := ⟨⟨0, 0, 0⟩, ⟨0, 0, 0⟩, ⟨0, 0, 0⟩⟩ }

/-- The default of each setting: R1, R23, R80, R96, R125, R139, R157, R171. -/
def Settings.reset : Settings :=
  { promotion := 2
    releasingCeiling := -60
    noDeskCeiling := -40
    framePeriod := 20
    ramp := 5
    staleTime := 500
    graceTime := 2500
    penaltyCeiling := -60
    linkLoss := 3
    pulsesPerMetre := 8
    standstillWindow := 1500
    windowLength := 15
    repeats := 3
    guardTime := 6000
    creep := 20
    gap := 20
    stationCount := 0
    replyTimeout := 4
    strikeWidth := 40
    tieModes := Vector.replicate 5 .oldestFirst
    uses := ⟨3, 4, 2, 5, 5, 5, 4, 0, 1⟩ }

/-- R188: the state after power-on, with nothing commanded. -/
def State.reset : State :=
  { pif := ⟨PortSlots.reset, PortSlots.reset, PortSlots.reset⟩
    rst := ⟨⟨none, none, none⟩, 0, .configuring, ⟨1, 1⟩, none⟩
    dau := ⟨.noDesk, .none, ⟨false, false⟩, .none, .standstill⟩
    lmu := Lmu.reset
    tdu := Tdu.reset
    lcu := Lcu.reset
    rtu := ⟨[], [], none, none, 0, false⟩
    tlu := Tlu.reset
    sru := Sru.reset
    sdu := Sdu.reset
    fnu := Fnu.reset
    settings := Settings.reset
    bad := []
    handed := []
    draws := 0
    pending := [] }

end Sys2Proof.Machine
end

