-- ==== Sys2Proof/Machine/Ops.lean ====
section
/-! DEFINITION. The operations every unit shares: places in the tables, the event list between units,
replacing one unit's state, store parity, reservation slots and the CRC-8 of R191. -/

namespace Sys2Proof.Machine

/-! ### Places in the fixed tables -/

/-- R45's order. -/
def conditionIndex : Condition → Fin 7
  | .standstill => 0
  | .deskAActive => 1
  | .deskBActive => 2
  | .lockdown => 3
  | .serviceMode => 4
  | .guardActive => 5
  | .stopLatched => 6

/-- R49's order. -/
def permitIndex : Permit → Fin 9
  | .keyA => 0
  | .keyB => 1
  | .vigilanceA => 2
  | .vigilanceB => 3
  | .tractionPermit => 4
  | .atStop => 5
  | .hornDirect => 6
  | .bellDirect => 7
  | .emergencyStop => 8

/-- The permits in index order. -/
def allPermits : List Permit :=
  [.keyA, .keyB, .vigilanceA, .vigilanceB, .tractionPermit, .atStop, .hornDirect, .bellDirect,
    .emergencyStop]

/-- R37's order of the sounders. -/
def sounderIndex : Sounder → Fin 5
  | .bell => 0
  | .horn => 1
  | .buzzerA => 2
  | .buzzerB => 3
  | .chime => 4

def allSounders : List Sounder := [.bell, .horn, .buzzerA, .buzzerB, .chime]

/-- R59's indices. -/
def ceilingIndex : CeilingSource → Fin 9
  | .desk => 0
  | .direction => 1
  | .matrix => 2
  | .pointGuard => 3
  | .vigilance => 4
  | .link => 5
  | .stale => 6
  | .supervisor => 7
  | .lockdown => 8

/-- R180: the priority of a cause, 1 being the highest. -/
def causePriority : Cause → Nat
  | .faultCaptured => 1
  | .lockdownChange => 2
  | .deskChange => 3
  | .linkChange => 4
  | .vigilance => 5
  | .routeChange => 6
  | .pointStateStray => 7
  | .stopDecision => 8
  | .stopRequest => 9
  | .stationHealth => 10
  | .telegramDiscarded => 11
  | .soundDropped => 12
  | .locationEvent => 13
  | .trackRxError => 14
  | .demandStale => 15
  | .propulsionFault => 16

/-- R191: the bit of value 2^(n-1) stands for the cause of priority n. -/
def causeBit (c : Cause) : BitVec 16 := 1#16 <<< (causePriority c - 1)

/-! ### Desks and ports -/

/-- R21, R22: the desk that holds authority, in its ACTIVE and in its RELEASING state. -/
def deskHolder : DeskState → Option Desk
  | .noDesk => none
  | .active d => some d
  | .releasing d => some d

def otherDesk : Desk → Desk
  | .a => .b
  | .b => .a

def deskPort : Desk → Port
  | .a => .deskA
  | .b => .deskB

/-- The desk of a desk port. -/
def portDesk : Port → Option Desk
  | .deskA => some .a
  | .deskB => some .b
  | .supervisor => none

/-- R71, R113, R155: BUZZER_A when the desk is A, BUZZER_B when it is B. -/
def deskBuzzer : Desk → Sounder
  | .a => .buzzerA
  | .b => .buzzerB

/-- R164: the source of a port's sound request. -/
def portSource : Port → SoundSource
  | .deskA => .deskA
  | .deskB => .deskB
  | .supervisor => .supervisor

def demandRecord : Desk → Record
  | .a => .demandA
  | .b => .demandB

/-- R65: the leading end of the active desk and the taken direction. -/
def leadingEndOf (holder : Option Desk) (taken : Option Direction) : LeadingEnd :=
  match holder, taken with
  | some .a, some .forward => .aLeading
  | some .b, some .reverse => .aLeading
  | some .b, some .forward => .bLeading
  | some .a, some .reverse => .bLeading
  | _, none => .none
  | none, _ => .none

/-- R131, R141, R175: counts that stay at 255. -/
def bump (n : Nat) : Nat := min Config.countTop (n + 1)

/-! ### Reservable records (R1) -/

def reservable : Record → Bool
  | .tractionStatus => false
  | .stations => false
  | .notices => false
  | .mode => false
  | .desk => true
  | .demandA => true
  | .demandB => true
  | .ceilings => true
  | .plan => true
  | .stops => true
  | .sound => true
  | .fault => true
  | .vehicle => true
  | .lines => true
  | .cells => true
  | .permits => true
  | .locations => true
  | .patterns => true
  | .settings => true

/-- R13, R12: empty every slot that names the record. -/
def emptySlots (r : Record) (slots : PerPort (Option Record)) : PerPort (Option Record) :=
  slots.map fun o => if o = some r then none else o

/-- R12: empty every other port's slot that names the record. -/
def emptyOtherSlots (p : Port) (r : Record) (slots : PerPort (Option Record)) :
    PerPort (Option Record) :=
  (emptySlots r slots).set p (slots.get p)

/-- R13: the state with every slot naming the record emptied. -/
def State.emptySlotsNaming (s : State) (r : Record) : State :=
  { s with rst := { s.rst with slots := emptySlots r s.rst.slots } }

/-! ### Events handed on between units (log 1) -/

/-- Hand events on, in this order. -/
def State.hand (s : State) (out : List Instr) : State := { s with handed := s.handed ++ out }

/-- Take an event: the oldest one handed on that is this event is outstanding no more. -/
def State.take (s : State) (c : Instr) : State := { s with handed := s.handed.erase c }

/-! ### Store parity (R19, R20) -/

/-- The record a word is stored in. -/
def wordRecord : StoreWord → Record
  | .field r _ => r
  | .entry r _ _ => r
  | .active r _ _ => r
  | .cancel _ _ => .plan
  | .request _ _ _ => .sound
  | .notice _ _ => .notices

/-- The words of SETTINGS, in the order of R191. -/
inductive SettingName where
  | promotion | releasingCeiling | noDeskCeiling | framePeriod | ramp | staleTime | graceTime
  | penaltyCeiling | linkLoss | pulsesPerMetre | standstillWindow | windowLength | repeats | guardTime
  | creep | gap | stationCount | replyTimeout | strikeWidth | tieMode (snd : Sounder)
  | vigilanceUse | guardAlertUse | stopChimeUse | stopAheadUse | lateStopUse | wheelchairUse
  | lockdownUse | hornDirectUse | bellDirectUse
deriving DecidableEq, Repr

/-- The place of a setting among the fields of SETTINGS. -/
def settingPlace : SettingName → Nat
  | .promotion => 0
  | .releasingCeiling => 1
  | .noDeskCeiling => 2
  | .framePeriod => 3
  | .ramp => 4
  | .staleTime => 5
  | .graceTime => 6
  | .penaltyCeiling => 7
  | .linkLoss => 8
  | .pulsesPerMetre => 9
  | .standstillWindow => 10
  | .windowLength => 11
  | .repeats => 12
  | .guardTime => 13
  | .creep => 14
  | .gap => 15
  | .stationCount => 16
  | .replyTimeout => 17
  | .strikeWidth => 18
  | .tieMode snd => 19 + (sounderIndex snd).val
  | .vigilanceUse => 24
  | .guardAlertUse => 25
  | .stopChimeUse => 26
  | .stopAheadUse => 27
  | .lateStopUse => 28
  | .wheelchairUse => 29
  | .lockdownUse => 30
  | .hornDirectUse => 31
  | .bellDirectUse => 32

/-- The words of these settings. -/
def settingWords (l : List SettingName) (w : StoreWord) : Bool :=
  l.any fun x => w == .field .settings (settingPlace x)

/-- The fields of a record with these places. -/
def fieldWords (r : Record) (l : List Nat) (w : StoreWord) : Bool := l.any fun n => w == .field r n

/-- The word of MODE (R188). -/
def modeWord (w : StoreWord) : Bool := w == .field .mode 0

/-- The fields of an entry with these places. -/
def entryWords (r : Record) (i : Nat) (l : List Nat) (w : StoreWord) : Bool :=
  l.any fun k => w == .entry r i k

/-- R20: the severe faults a unit raises for the bad words among those its work reads. -/
def parityFaults (s : State) (u : UnitName) (reads : StoreWord → Bool) (effort : Option Int) :
    List Instr :=
  (s.bad.filter reads).map fun w => .severeFault .storeParity u (.record (wordRecord w)) false effort

/-- Some word of those read is bad. -/
def meetsBad (s : State) (reads : StoreWord → Bool) : Bool := s.bad.any reads

/-- A word that is written is stored with good parity (R19). -/
def State.rewrite (s : State) (written : StoreWord → Bool) : State :=
  { s with bad := s.bad.filter fun w => !written w }

/-! #### Which words a change of a unit's state rewrites (log 8) -/

/-- R24: a change of the desk state writes the state and the last change. -/
def Dau.rewrote (x y : Dau) : StoreWord → Bool
  | .field .desk 0 => x.state != y.state
  | .field .desk 1 => deskHolder x.state != deskHolder y.state
  | .field .desk 2 => x.leading != y.leading
  | .field .desk 3 => x.keySeen.a != y.keySeen.a
  | .field .desk 4 => x.keySeen.b != y.keySeen.b
  | .field .desk 5 => x.state != y.state || x.lastChange != y.lastChange
  | _ => false

/-- The field of a ceiling entry at a place differs. -/
def ceilingDiffers (k : Nat) (x y : CeilingEntry) : Bool :=
  match k with
  | 0 => x.active != y.active
  | 1 => x.value != y.value
  | _ => false

/-- R66: a frame sent writes the last frame and the last effort, whatever they were; each frame sent takes
the next sequence number. -/
def Tdu.rewrote (x y : Tdu) : StoreWord → Bool
  | .field .demandA 0 => x.demand.a.lever != y.demand.a.lever
  | .field .demandA 1 => x.demand.a.selector != y.demand.a.selector
  | .field .demandB 0 => x.demand.b.lever != y.demand.b.lever
  | .field .demandB 1 => x.demand.b.selector != y.demand.b.selector
  | .entry .ceilings i k => if h : i < 9 then ceilingDiffers k x.ceilings[i] y.ceilings[i] else false
  | .field .ceilings 0 => x.ceilings != y.ceilings
  | .field .ceilings 1 => x.lock != y.lock
  | .field .tractionStatus 0 => x.link != y.link
  | .field .tractionStatus 1 => x.nextSeq != y.nextSeq
  | .field .tractionStatus 2 => x.lastStatus != y.lastStatus
  | .field .tractionStatus 3 => x.vigilance != y.vigilance
  | .field .tractionStatus 4 => x.nextSeq != y.nextSeq
  | _ => false

/-- The entry of the plan for a junction. -/
def findEntry (plan : List PlanEntry) (j : Nat) : Option PlanEntry :=
  plan.find? fun e => e.junction == j

/-- The field of a plan entry at a place, in the order of R98, differs. -/
def planDiffers (k : Nat) : Option PlanEntry → Option PlanEntry → Bool
  | some x, some y =>
    match k with
    | 1 => x.code != y.code
    | 2 => x.platform != y.platform
    | 3 => x.priority != y.priority
    | 4 => x.origin != y.origin
    | 5 => x.state != y.state
    | 6 => x.requestsOwed != y.requestsOwed
    | 7 => x.updateOwed != y.updateOwed
    | 8 => x.transmissions != y.transmissions
    | 9 => x.lastPoint != y.lastPoint
    | _ => false
  | none, none => false
  | some _, none => true
  | none, some _ => true

/-- R99: the in-flight field as PLAN returns it; whether the subject has stayed is no part of it. -/
def flightFields (f : Option InFlight) : Option (TelegramKind × Nat) := f.map fun x => (x.kind, x.junction)

def findCancel (l : List Cancel) (j : Nat) : Option Cancel := l.find? fun c => c.junction == j

/-- R106, R122: where only the subject of the telegram in flight leaves, the in-flight field is kept and its word is
taken as not written: the model's reading (log 24). -/
def Rtu.rewrote (x y : Rtu) : StoreWord → Bool
  | .entry .plan j k => planDiffers k (findEntry x.plan j) (findEntry y.plan j)
  | .cancel j _ => findCancel x.cancels j != findCancel y.cancels j
  | .field .plan 0 => x.plan.length != y.plan.length
  | .field .plan 1 => flightFields x.inFlight != flightFields y.inFlight
  | .field .plan 2 => x.exception != y.exception
  | .field .plan 3 => x.otherRun != y.otherRun
  | .field .plan 4 => x.windowOpen != y.windowOpen
  | _ => false

/-- The field of a station's entry at a place differs. -/
def stationDiffers (k : Nat) (x y : Station) : Bool :=
  match k with
  | 0 => x.health != y.health
  | 1 => x.misses != y.misses
  | 2 => x.fault != y.fault
  | 3 => x.ackDue != y.ackDue
  | _ => false

/-- R141, R157: the words of STATIONS are those of the station table and the last health event; the poll state, the
polled address and the unsolicited count, which a whole read also returns, are taken as working state without
parity: the model's choice (log 7). -/
def Sru.rewrote (x y : Sru) : StoreWord → Bool
  | .field .stops 0 => x.list != y.list
  | .field .stops 1 => x.zone != y.zone
  | .field .stops 2 => x.decision != y.decision
  | .field .stops 3 => x.stoppedInZone != y.stoppedInZone
  | .field .stops 4 => x.lastStop != y.lastStop
  | .entry .stations i k => if h : i < 24 then stationDiffers k x.stations[i] y.stations[i] else false
  | .field .stations 0 => x.lastHealth != y.lastHealth
  | _ => false

/-- The request of a source on a sounder. -/
def findRequest (l : List SoundRequest) (src : SoundSource) (snd : Sounder) : Option SoundRequest :=
  l.find? fun q => q.source == src && q.sounder == snd

/-- The field of a source's request on a sounder at a place, in the order of R162, differs. -/
def requestDiffers (k : Nat) (src : SoundSource) (snd : Sounder) (x y : Sdu) : Bool :=
  match findRequest x.requests src snd, findRequest y.requests src snd with
  | some p, some q =>
    match k with
    | 2 => p.pattern != q.pattern
    | 3 => p.priority != q.priority
    | 4 => p.repeats != q.repeats
    | 5 => x.requests.idxOf p != y.requests.idxOf q
    | 6 => (x.players[sounderIndex snd].playing == some src)
        != (y.players[sounderIndex snd].playing == some src)
    | _ => false
  | none, none => false
  | some _, none => true
  | none, some _ => true

/-- R158: the fields of a player; the strike of R161 is none of them. -/
def playerFields (p : Player) : Player := { p with strike := none }

/-- R158, R161: the strike is taken as no part of the stored player, so its end writes no word: the model's choice
(log 7). -/
def Sdu.rewrote (x y : Sdu) : StoreWord → Bool
  | .request src snd k => requestDiffers k src snd x y
  | .field .sound 5 => x.lastEvent != y.lastEvent
  | .field .sound i => if h : i < 5 then playerFields x.players[i] != playerFields y.players[i] else false
  | _ => false

def Fnu.rewrote (x y : Fnu) : StoreWord → Bool
  | .field .fault 0 => x.capture.kind != y.capture.kind
  | .field .fault 1 => x.capture.second != y.capture.second
  | .field .fault 2 => x.capture.source != y.capture.source
  | .field .fault 3 => x.capture.context != y.capture.context
  | .field .fault 4 => x.capture.motion != y.capture.motion
  | .field .fault 5 => x.capture.desk != y.capture.desk
  | .field .fault 6 => x.capture.effort != y.capture.effort
  | .field .fault 7 => x.capture.recoverable != y.capture.recoverable
  | .field .fault 8 => x.capture.acknowledged != y.capture.acknowledged
  | .field .fault 9 => x.capture.count != y.capture.count
  | .field .fault 10 => x.armed != y.armed
  | .field .fault 11 => x.lock != y.lock
  | .notice p 0 => (x.notices.get p).pending != (y.notices.get p).pending
  | .notice p 1 => (x.notices.get p).enabled != (y.notices.get p).enabled
  | .notice p 2 => (x.notices.get p).seen != (y.notices.get p).seen
  | _ => false

/-- The word of the last change, exception or event that is stored with each raise of this cause by its unit
(R24, R30, R98, R147, R146, R162). -/
def lastEventWord : Cause → Option StoreWord
  | .deskChange => some (.field .desk 5)
  | .locationEvent => some (.field .plan 2)
  | .pointStateStray => some (.field .plan 2)
  | .telegramDiscarded => some (.field .plan 2)
  | .stopRequest => some (.field .stops 4)
  | .stopDecision => some (.field .stops 4)
  | .stationHealth => some (.field .stations 0)
  | .soundDropped => some (.field .sound 5)
  | .faultCaptured => none
  | .lockdownChange => none
  | .linkChange => none
  | .vigilance => none
  | .routeChange => none
  | .trackRxError => none
  | .demandStale => none
  | .propulsionFault => none

/-- R19, R106, R157, R171: an event that a unit notes writes the word that holds its last event, whatever stood
there. -/
def notedWords (out : List Instr) (w : StoreWord) : Bool :=
  out.any fun c => match c with
    | .noticeRaise cause => lastEventWord cause == some w
    | _ => false

/-! ### Replacing one unit's state -/

/-- The state after an event at the DAU: its new state, and what it hands on. -/
def State.putDau (s : State) (x : Dau) (out : List Instr) : State :=
  { s with
    dau := x
    bad := s.bad.filter fun w => !(s.dau.rewrote x w || notedWords out w)
    handed := s.handed ++ out }

def State.putLmu (s : State) (x : Lmu) (out : List Instr) : State :=
  { s with lmu := x, handed := s.handed ++ out }

def State.putTdu (s : State) (x : Tdu) (out : List Instr) : State :=
  { s with tdu := x, bad := s.bad.filter fun w => !s.tdu.rewrote x w, handed := s.handed ++ out }

def State.putLcu (s : State) (x : Lcu) (out : List Instr) : State :=
  { s with lcu := x, handed := s.handed ++ out }

def State.putRtu (s : State) (x : Rtu) (out : List Instr) : State :=
  { s with
    rtu := x
    bad := s.bad.filter fun w => !(s.rtu.rewrote x w || notedWords out w)
    handed := s.handed ++ out }

def State.putTlu (s : State) (x : Tlu) (out : List Instr) : State :=
  { s with tlu := x, handed := s.handed ++ out }

def State.putSru (s : State) (x : Sru) (out : List Instr) : State :=
  { s with
    sru := x
    bad := s.bad.filter fun w => !(s.sru.rewrote x w || notedWords out w)
    handed := s.handed ++ out }

def State.putSdu (s : State) (x : Sdu) (out : List Instr) : State :=
  { s with
    sdu := x
    bad := s.bad.filter fun w => !(s.sdu.rewrote x w || notedWords out w)
    handed := s.handed ++ out }

def State.putFnu (s : State) (x : Fnu) (out : List Instr) : State :=
  { s with fnu := x, bad := s.bad.filter fun w => !s.fnu.rewrote x w, handed := s.handed ++ out }

/-! ### Answers to port requests (R3, R6) -/

/-- What an owner decides of a request: DONE with a payload, RETRY, or REFUSED with a reason. -/
inductive Verdict where
  | done (payload : List Byte)
  | retry
  | refused (why : Reason)
deriving DecidableEq, Repr

/-- R6 step 6: the owner's answer, and whether the contents of the target record changed. -/
structure Answer where
  state   : State
  verdict : Verdict
  changed : Bool
deriving DecidableEq, Repr

/-- A refusal changes nothing. -/
def Answer.refuse (s : State) (why : Reason) : Answer := ⟨s, .refused why, false⟩

/-- R20: a command that meets a bad word is refused with STORE_ERROR, and the owner raises the fault. -/
def Answer.storeError (s : State) (u : UnitName) (reads : StoreWord → Bool) : Answer :=
  ⟨s.hand (parityFaults s u reads none), .refused .storeError, false⟩

/-! ### CRC-8 (R191) -/

/-- One bit of the CRC-8 with the polynomial x^8 + x^2 + x + 1. -/
def crcBit (c : Byte) : Byte := if c.msb then (c <<< 1) ^^^ 0x07#8 else c <<< 1

/-- One octet, most significant bit first. -/
def crcOctet (c b : Byte) : Byte :=
  crcBit (crcBit (crcBit (crcBit (crcBit (crcBit (crcBit (crcBit (c ^^^ b))))))))

/-- R191: from 0, not inverted at the end. -/
def crc8 (l : List Byte) : Byte := l.foldl crcOctet 0

end Sys2Proof.Machine
end

