-- ==== Sys2Proof/Machine/Flags.lean ====
section
/-! DEFINITION. What the manual gives as a function of other state: the lowest ceiling, the latch and
the lamp command, the POINT_GUARD contribution, the drives of the output lines, the notice lines. -/

namespace Sys2Proof.Machine

/-! ### Ceilings (R60, R112) -/

/-- R60: the least value over the active entries, or +100 when none is active. -/
def lowestOf (entries : List CeilingEntry) : Int :=
  entries.foldr (fun e m => if e.active then min e.value m else m) 100

def lowestCeiling (t : Table CeilingEntry 9) : Int := lowestOf t.toList

/-- R100: an entry in this state holds the guard at 0. -/
def holdsAtZero : EntryState → Bool
  | .refused => true
  | .faulted => true
  | .queued => false
  | .armed => false
  | .sent => false
  | .confirmed => false
  | .overridden => false

/-- R100: an entry in this state contributes to the POINT_GUARD ceiling. -/
def contributes : EntryState → Bool
  | .armed => true
  | .sent => true
  | .overridden => true
  | .refused => true
  | .faulted => true
  | .queued => false
  | .confirmed => false

/-- R112: some entry is REFUSED or FAULTED. -/
def anyHeld (plan : List PlanEntry) : Bool := plan.any fun e => holdsAtZero e.state

/-- R112: the POINT_GUARD ceiling over the plan. -/
def guardEntry (creep : Int) (plan : List PlanEntry) : CeilingEntry :=
  { active := plan.any fun e => contributes e.state
    value := if anyHeld plan then 0 else creep }

/-! ### Windows, latches and lamps -/

/-- R82: the window is open while the window remaining is above 0. -/
def windowIsOpen (l : Lcu) : Bool := decide (0 < l.window)

/-- R147: the stop latch is set exactly when the stop list is non-empty. -/
def latchSet (r : Sru) : Bool := !r.list.isEmpty

def holdsWheelchair (l : List StopEntry) : Bool := l.any fun e => e.kind == .wheelchair

/-- R143: the lamp command of a poll composed from this stop record. -/
def lampCommand (l : List StopEntry) : LampCommand :=
  if l.isEmpty then .off else if holdsWheelchair l then .stopWheelchair else .stop

/-- R114: the stopping attribute of a REQUEST or UPDATE for an entry naming this platform. -/
def stoppingFlag (r : Sru) (platform : Option Nat) : Bool :=
  match platform with
  | none => false
  | some p =>
    latchSet r ||
      (match r.zone with
       | some z => z.platform == p && r.decision == .stopAhead
       | none => false)

/-! ### Sounders (R158 to R162) -/

/-- R158, R160, R161: whether a sounder's player drives it on. -/
def sounderDrive (u : Sdu) (snd : Sounder) : Bool :=
  let p := u.players[sounderIndex snd]
  match snd with
  | .bell => p.strike.isSome
  | .horn => p.playing.isSome && p.phase == .on
  | .buzzerA => p.playing.isSome && p.phase == .on
  | .buzzerB => p.playing.isSome && p.phase == .on
  | .chime => p.playing.isSome && p.phase == .on

/-- R162: a request is PLAYING when its sounder's player plays it. -/
def isPlaying (u : Sdu) (q : SoundRequest) : Bool :=
  u.players[sounderIndex q.sounder].playing == some q.source

/-! ### Lines (R36, R53, R54) -/

/-- R41, R49: a line read by a source gives the taken level of a PLAIN_INPUT line, and false otherwise. -/
def lineValue (l : Lmu) (n : Fin 32) : Bool :=
  l.active.lines[n].group == .plainInput && l.taken[n]

def conditionValue (l : Lmu) (c : Condition) : Bool := l.conditions[conditionIndex c]

/-- R53: the normal source of an output line. -/
def normalSource (l : Lmu) (u : Sdu) (e : LineEntry) : Bool :=
  match e.group with
  | .cellOutput => l.output[e.cell]
  | .sounderOutput => sounderDrive u e.sounder
  | .stateOutput =>
    match e.stateFn with
    | .emergencyBrake => false
    | .deskALamp => conditionValue l .deskAActive
    | .deskBLamp => conditionValue l .deskBActive
    | .stopIndicator => conditionValue l .stopLatched
    | .guardIndicator => conditionValue l .guardActive
    | .lockdownLamp => conditionValue l .lockdown
  | .unused => false
  | .plainInput => false
  | .tachInput => false

/-- R54: the drive of an output line in either mode and either lockdown state, as the LMU holds the two
conditions. -/
def lineDrive (l : Lmu) (u : Sdu) (n : Fin 32) : Bool :=
  let e := l.active.lines[n]
  if e.group == .stateOutput && e.stateFn == .emergencyBrake then conditionValue l .lockdown
  else if !conditionValue l .serviceMode then false
  else if conditionValue l .lockdown then
    match e.drive with
    | .follow => normalSource l u e
    | .off => false
    | .on => e.group == .cellOutput || e.group == .sounderOutput || e.group == .stateOutput
  else normalSource l u e

/-- R36: the present level LINES returns. -/
def presentLevel (l : Lmu) (u : Sdu) (n : Fin 32) : Bool :=
  match l.active.lines[n].group with
  | .plainInput => l.taken[n]
  | .unused => false
  | .tachInput => false
  | .cellOutput => lineDrive l u n
  | .sounderOutput => lineDrive l u n
  | .stateOutput => lineDrive l u n

/-! ### Notices (R181, R183) -/

/-- R183: a port's notice line is asserted exactly when it has a pending cause that is enabled. -/
def noticeLine (n : NoticeSets) : Bool := (n.pending &&& n.enabled) != 0

/-- R181: the priority of the highest-priority pending cause, 0 for NONE. -/
def highestPending (pending : BitVec 16) : Nat :=
  match (List.range 16).find? fun i => pending.getLsbD i with
  | some i => i + 1
  | none => 0

end Sys2Proof.Machine
end

