-- ==== Sys2Proof/Machine/Dau.lean ====
section
/-! DEFINITION. The desk authority unit (chapter 2): the changes of the desk record, what each hands on,
and the meanings of the rows that are the unit's own events. -/

namespace Sys2Proof.Machine

/-- The words of the DESK record. -/
def deskWords (w : StoreWord) : Bool := wordRecord w == .desk

def holdsDesk (st : DeskState) (d : Desk) : Bool := deskHolder st == some d

/-- R24: each of the two desk conditions that changes value is published. -/
def deskConditions (old new : DeskState) : List Instr :=
  (if holdsDesk old .a = holdsDesk new .a then []
    else [.conditionChange .deskAActive (holdsDesk new .a)])
  ++ (if holdsDesk old .b = holdsDesk new .b then []
    else [.conditionChange .deskBActive (holdsDesk new .b)])

/-- R32: the NO_DESK event, handed to each unit that has a share of the teardown. -/
def teardownEvents (former : Desk) (byCommand : Bool) : List Instr :=
  [.noDeskTeardown .tdu former byCommand, .noDeskTeardown .rtu former byCommand,
    .noDeskTeardown .sru former byCommand, .noDeskTeardown .sdu former byCommand,
    .noDeskTeardown .lcu former byCommand]

/-- R23, R24, R32: the new state, handed on: the teardown on entering NO_DESK, and otherwise the change
itself. -/
def deskHandOn (old new : DeskState) (byCommand : Bool) : List Instr :=
  match new with
  | .noDesk =>
    match deskHolder old with
    | some d => teardownEvents d byCommand
    | none => []
  | .active d => [.deskStateChange (.active d)]
  | .releasing d => [.deskStateChange (.releasing d)]

/-- R24: a change of the desk state with its cause. Made by a port's command it is that port's own change
of DESK (R12); otherwise it is reported as a structural change (R13). -/
def Dau.change (x : Dau) (new : DeskState) (cause : LastChange) (byCommand : Bool) :
    Dau × List Instr :=
  ({ x with state := new, lastChange := cause },
    [.noticeRaise .deskChange]
      ++ (if byCommand then [] else [.structuralChangeReport .desk])
      ++ deskConditions x.state new ++ deskHandOn x.state new byCommand)

/-- R28, R30: a KEY_A or KEY_B permit event. -/
def Dau.keyEvent (x : Dau) (d : Desk) (value : Bool) : Dau × List Instr :=
  let x' := { x with keySeen := x.keySeen.set d value }
  match x.state with
  | .active h =>
    if h = d then
      if value then (x', [])
      else match x.motion with
        | .standstill => x'.change .noDesk .keyRemovedAtStandstill false
        | .moving => x'.change (.releasing d) .keyRemovedMoving false
    else if value then ({ x' with lastChange := .keyConflict }, [.noticeRaise .deskChange])
    else (x', [])
  | .releasing _ => (x', [])
  | .noDesk => (x', [])

/-- R29: a standstill report; it ends RELEASING_x. -/
def Dau.standstill (x : Dau) : Dau × List Instr :=
  let x' := { x with motion := .standstill }
  match x.state with
  | .releasing _ => x'.change .noDesk .releaseCompleted false
  | .active _ => (x', [])
  | .noDesk => (x', [])

/-- R29: a moving report leaves the desk record unchanged. -/
def Dau.moving (x : Dau) : Dau := { x with motion := .moving }

/-- R25: the four conditions of a claim by desk `d`. -/
def Dau.mayClaim (x : Dau) (d : Desk) : Bool :=
  x.state == .noDesk && x.keySeen.get d && !x.keySeen.get (otherDesk d) && x.motion == .standstill

/-- R26: the three conditions of a release by desk `d`, whose lever stands at `lever`. -/
def Dau.mayRelease (x : Dau) (d : Desk) (lever : Int) : Bool :=
  deskHolder x.state == some d && x.motion == .standstill && decide (lever ≤ 0)

/-- R27: the conditions of a forced release. -/
def Dau.mayForce (x : Dau) : Bool := (deskHolder x.state).isSome && x.motion == .standstill

/-- An event of the DAU at the state: its parity faults (R20) before what it hands on. -/
def State.dauEvent (s : State) (r : Dau × List Instr) : State :=
  s.putDau r.1 (parityFaults s .dau deskWords none ++ r.2)

/-- The word of the key seen of a desk. -/
def seenWord (d : Desk) : StoreWord → Bool := fieldWords .desk [if d = .a then 3 else 4]

/-- KEY_PERMIT_EVENT (R28, R30); the key seen is written at each. -/
def execKeyPermitEvent (d : Desk) (value : Bool) (s : State) : Host.Outcome State Fault Refusal :=
  let s := s.take (.keyPermitEvent d value)
  .next ((s.dauEvent (s.dau.keyEvent d value)).rewrite (seenWord d))

/-- LEADING_END_PUBLISHED (R31, R65): the DAU stores the value in DESK, the LCU keeps it for matching. -/
def execLeadingEndPublished (e : LeadingEnd) (s : State) : Host.Outcome State Fault Refusal :=
  let s := s.take (.leadingEndPublished e)
  let s := (s.putDau { s.dau with leading := e } []).rewrite (fieldWords .desk [2])
  .next (s.putLcu { s.lcu with leading := e } [])

end Sys2Proof.Machine
end

