-- ==== Sys2Proof/Machine/Operands.lean ====
section
/-! DEFINITION. The layouts of R191: the codes of enumerations, the octets of payloads, the port frames,
the track telegrams, the traction and status frames, and the stop-loop frames. -/

namespace Sys2Proof.Machine

/-! ### Enumerations: coded by their place in the owning rule's list (R191) -/

def codeIn {α : Type} [DecidableEq α] (all : List α) (x : α) : Byte := BitVec.ofNat 8 (all.idxOf x)

def ofCodeIn {α : Type} (all : List α) (b : Byte) : Option α := all[b.toNat]?

def deskStateList : List DeskState := [.noDesk, .active .a, .active .b, .releasing .a, .releasing .b]
def holderList : List (Option Desk) := [some .a, some .b, none]
def leadingList : List LeadingEnd := [.aLeading, .bLeading, .none]
def lastChangeList : List LastChange :=
  [.none, .claimed, .released, .forceReleased, .keyRemovedAtStandstill, .keyRemovedMoving,
    .releaseCompleted, .keyConflict]
def selectorList : List Selector := [.forward, .neutral, .reverse]
def groupList : List LineGroup :=
  [.unused, .plainInput, .tachInput, .cellOutput, .sounderOutput, .stateOutput]
def stateFnList : List StateFunction :=
  [.emergencyBrake, .deskALamp, .deskBLamp, .stopIndicator, .guardIndicator, .lockdownLamp]
def driveList : List LockdownDrive := [.follow, .off, .on]
def cellKindList : List CellKind := [.off, .and, .or, .xor, .nand, .nor, .latch, .onDelay]
def conditionList : List Condition :=
  [.standstill, .deskAActive, .deskBActive, .lockdown, .serviceMode, .guardActive, .stopLatched]
def ceilingList : List CeilingSource :=
  [.desk, .direction, .matrix, .pointGuard, .vigilance, .link, .stale, .supervisor, .lockdown]
def linkList : List LinkState := [.starting, .up, .lost]
def frameModeList : List FrameMode := [.coast, .drive, .brake, .emergency]
def vigilanceList : List Vigilance := [.off, .held, .warning, .penalty]
def motionList : List Motion := [.moving, .standstill]
def orientationList : List Orientation := [.aLeading, .bLeading, .either]
def actionList : List LocationAction :=
  [.armRoute, .clearance, .stopZoneEnter, .stopZoneLeave, .bell, .notify]
def locationEventList : List LocationEventKind := [.notify, .overflow]
def portList : List Port := [.deskA, .deskB, .supervisor]
def entryStateList : List EntryState :=
  [.queued, .armed, .sent, .confirmed, .refused, .faulted, .overridden]
def pointReportList : List PointReport := [.setting, .locked, .refused, .fault]
def telegramKindList : List TelegramKind := [.request, .update, .cancel]
def planExceptionList : List PlanException :=
  [.noRoute, .unplannedClearance, .strayPointState, .telegramDiscarded, .lateStopUnreported]
def transmitterList : List TransmitterState := [.idle, .sending, .gap]
def pollStateList : List PollState := [.stopped, .sending, .awaiting, .receiving]
def healthList : List Health := [.present, .suspect, .absent]
def healthEventList : List HealthEvent := [.absent, .recovered, .faultSet, .faultCleared]
def stopKindList : List StopKind := [.stop, .wheelchair]
def decisionList : List Decision := [.none, .stopAhead, .passAhead]
def stopEventList : List StopEventKind := [.latched, .wheelchairAtStop, .decided, .late, .missed]
def sourceList : List SoundSource :=
  [.deskA, .deskB, .supervisor, .vigilance, .pointGuard, .stopUnit, .location, .matrix, .lockdown]
def soundEventList : List SoundEventKind := [.evicted, .dropped, .emptyPattern]
def tieModeList : List TieMode := [.oldestFirst, .rotate]
def unitList : List UnitName := [.none, .rst, .dau, .lmu, .tdu, .lcu, .rtu, .sru, .sdu, .fnu]
def lockList : List LockState := [.clear, .held]
def modeList : List Mode := [.configuring, .service]
def phaseList : List Phase := [.on, .off]
/-- R172's NONE, then the kinds of R173 (log 13). -/
def faultKindList : List (Option FaultKind) :=
  [none, some .tractionLinkLost, some .locationOverflow, some .pointRunThrough, some .storeParity,
    some .emergencyStop]

/-- R191: the record codes 1 to 19. -/
def recordList : List Record :=
  [.desk, .demandA, .demandB, .ceilings, .tractionStatus, .plan, .stops, .stations, .sound, .fault,
    .notices, .vehicle, .lines, .cells, .permits, .locations, .patterns, .settings, .mode]

def recordCode (r : Record) : Byte := BitVec.ofNat 8 (recordList.idxOf r + 1)

def recordOfCode (b : Byte) : Option Record :=
  if b.toNat = 0 then none else recordList[b.toNat - 1]?

/-! ### Putting fields into octets -/

/-- R191: a number whose range fits one octet. -/
def putNat8 (n : Nat) : List Byte := [BitVec.ofNat 8 n]

/-- R191: a number of two octets, most significant first. -/
def putNat16 (n : Nat) : List Byte := [BitVec.ofNat 8 (n / 256), BitVec.ofNat 8 n]

/-- R191: an effort or a signed setting, as eight-bit two's complement. -/
def putInt8 (z : Int) : List Byte := [BitVec.ofInt 8 z]

def putFlag (b : Bool) : List Byte := [if b then 1 else 0]

def putEnum {α : Type} [DecidableEq α] (all : List α) (x : α) : List Byte := [codeIn all x]

/-- R191: a presence octet, and the field's own octets when it is present. -/
def putOpt {α : Type} (f : α → List Byte) : Option α → List Byte
  | none => [0]
  | some x => 1 :: f x

/-- R191: a list is preceded by a count octet. -/
def putList {α : Type} (f : α → List Byte) (l : List α) : List Byte := putNat8 l.length ++ l.flatMap f

/-! ### Taking fields out of octets -/

/-- Read one field; `none` where the octets do not match the layout or the field is out of its range,
which R7 and R191 both answer with OUT_OF_RANGE. -/
abbrev Reader (α : Type) := List Byte → Option (α × List Byte)

def getOctet : Reader Byte
  | [] => none
  | b :: r => some (b, r)

def getNat8 (lo hi : Nat) : Reader Nat := fun l => do
  let (b, l) ← getOctet l
  if lo ≤ b.toNat ∧ b.toNat ≤ hi then some (b.toNat, l) else none

def getNat16 (lo hi : Nat) : Reader Nat := fun l => do
  let (h, l) ← getOctet l
  let (b, l) ← getOctet l
  let n := h.toNat * 256 + b.toNat
  if lo ≤ n ∧ n ≤ hi then some (n, l) else none

def getInt8 (lo hi : Int) : Reader Int := fun l => do
  let (b, l) ← getOctet l
  if lo ≤ b.toInt ∧ b.toInt ≤ hi then some (b.toInt, l) else none

/-- R191: a flag octet other than 0 or 1 does not match the layout. -/
def getFlag : Reader Bool := fun l => do
  let (b, l) ← getOctet l
  if b = 0 then some (false, l) else if b = 1 then some (true, l) else none

def getEnum {α : Type} (all : List α) : Reader α := fun l => do
  let (b, l) ← getOctet l
  let x ← ofCodeIn all b
  some (x, l)

def getFin (n : Nat) : Reader (Fin n) := fun l => do
  let (b, l) ← getOctet l
  if h : b.toNat < n then some (⟨b.toNat, h⟩, l) else none

def getOpt {α : Type} (f : Reader α) : Reader (Option α) := fun l => do
  let (here, l) ← getFlag l
  if here then
    let (x, l) ← f l
    some (some x, l)
  else some (none, l)

/-- Read `n` items one after another. -/
def getMany {α : Type} (f : Reader α) : Nat → Reader (List α)
  | 0 => fun l => some ([], l)
  | n + 1 => fun l => do
    let (x, l) ← f l
    let (xs, l) ← getMany f n l
    some (x :: xs, l)

/-- R191: the padding of a payload is fewer than eight zero octets. -/
def isPadding (l : List Byte) : Bool := decide (l.length < 8) && l.all fun b => b == 0

/-- A whole payload: the layout, and nothing after it but padding. -/
def readAll {α : Type} (f : Reader α) (l : List Byte) : Option α := do
  let (x, rest) ← f l
  if isPadding rest then some x else none

/-- A table of `n` entries read from a list. -/
def toTable {α : Type} (n : Nat) (l : List α) : Option (Table α n) :=
  if h : l.length = n then some ⟨l.toArray, by simpa using h⟩ else none

def getTable {α : Type} (f : Reader α) (n : Nat) : Reader (Table α n) := fun l => do
  let (xs, l) ← getMany f n l
  let t ← toTable n xs
  some (t, l)

/-! ### Configuration entries -/

def putCellSource : CellSource → List Byte
  | .line n => [0, BitVec.ofNat 8 n.val]
  | .cell n => [1, BitVec.ofNat 8 n.val]
  | .constantTrue => [2, 0]
  | .condition c => [3, codeIn conditionList c]

/-- R191: a class octet and an index octet, 0 where the class has none. -/
def getCellSource : Reader CellSource := fun l => do
  let (c, l) ← getOctet l
  if c = 0 then
    let (n, l) ← getFin 32 l
    some (.line n, l)
  else if c = 1 then
    let (n, l) ← getFin 16 l
    some (.cell n, l)
  else if c = 2 then
    let (z, l) ← getOctet l
    if z = 0 then some (.constantTrue, l) else none
  else if c = 3 then
    let (k, l) ← getEnum conditionList l
    some (.condition k, l)
  else none

def putPermitSource : PermitSource → List Byte
  | .line n => [0, BitVec.ofNat 8 n.val]
  | .cell n => [1, BitVec.ofNat 8 n.val]
  | .fixedFalse => [2, 0]
  | .fixedTrue => [3, 0]

def getPermitSource : Reader PermitSource := fun l => do
  let (c, l) ← getOctet l
  if c = 0 then
    let (n, l) ← getFin 32 l
    some (.line n, l)
  else if c = 1 then
    let (n, l) ← getFin 16 l
    some (.cell n, l)
  else if c = 2 then
    let (z, l) ← getOctet l
    if z = 0 then some (.fixedFalse, l) else none
  else if c = 3 then
    let (z, l) ← getOctet l
    if z = 0 then some (.fixedTrue, l) else none
  else none

/-- R37's fields, in the order of its table. -/
def putLine (e : LineEntry) : List Byte :=
  putEnum groupList e.group ++ putNat8 e.debounce ++ putNat8 e.cell.val ++ putEnum allSounders e.sounder
    ++ putEnum stateFnList e.stateFn ++ putEnum driveList e.drive

def getLine : Reader LineEntry := fun l => do
  let (group, l) ← getEnum groupList l
  let (debounce, l) ← getNat8 0 100 l
  let (cell, l) ← getFin 16 l
  let (sounder, l) ← getEnum allSounders l
  let (stateFn, l) ← getEnum stateFnList l
  let (drive, l) ← getEnum driveList l
  some (⟨group, debounce, cell, sounder, stateFn, drive⟩, l)

/-- R41's fields. -/
def putCell (e : CellEntry) : List Byte :=
  putEnum cellKindList e.kind ++ putCellSource e.a ++ putFlag e.aInvert ++ putCellSource e.b
    ++ putFlag e.bInvert ++ putNat16 e.delay

def getCell : Reader CellEntry := fun l => do
  let (kind, l) ← getEnum cellKindList l
  let (a, l) ← getCellSource l
  let (aInvert, l) ← getFlag l
  let (b, l) ← getCellSource l
  let (bInvert, l) ← getFlag l
  let (delay, l) ← getNat16 0 10000 l
  some (⟨kind, a, aInvert, b, bInvert, delay⟩, l)

/-- R49's fields. -/
def putPermit (e : PermitEntry) : List Byte := putPermitSource e.source ++ putFlag e.invert

def getPermit : Reader PermitEntry := fun l => do
  let (source, l) ← getPermitSource l
  let (invert, l) ← getFlag l
  some (⟨source, invert⟩, l)

def putAction (a : ActionSpec) : List Byte :=
  putEnum actionList a.action ++ putNat16 a.junction ++ putNat8 a.platform ++ putFlag a.mandatory
    ++ putNat8 a.pattern.val

def getAction : Reader ActionSpec := fun l => do
  let (action, l) ← getEnum actionList l
  let (junction, l) ← getNat16 1 4095 l
  let (platform, l) ← getNat8 1 255 l
  let (mandatory, l) ← getFlag l
  let (pattern, l) ← getFin 16 l
  some (⟨action, junction, platform, mandatory, pattern⟩, l)

/-- R89's fields. -/
def putLocation (e : LocationEntry) : List Byte :=
  putFlag e.enabled ++ putNat16 e.matchValue.toNat ++ putNat16 e.mask.toNat
    ++ putEnum orientationList e.orientation ++ putNat8 e.offset ++ putAction e.act

def getLocation : Reader LocationEntry := fun l => do
  let (enabled, l) ← getFlag l
  let (matchValue, l) ← getNat16 0 4095 l
  let (mask, l) ← getNat16 0 4095 l
  let (orientation, l) ← getEnum orientationList l
  let (offset, l) ← getNat8 0 255 l
  let (act, l) ← getAction l
  some (⟨enabled, BitVec.ofNat 12 matchValue, BitVec.ofNat 12 mask, orientation, offset, act⟩, l)

/-- R159: times are carried in units of 10 ms. -/
def putStep (t : SoundStep) : List Byte := putNat8 (t.on / 10) ++ putNat8 (t.off / 10)

def getStep : Reader SoundStep := fun l => do
  let (on, l) ← getNat8 0 255 l
  let (off, l) ← getNat8 0 255 l
  some (⟨on * 10, off * 10⟩, l)

def putPattern (p : Pattern) : List Byte := putList putStep p.steps ++ putNat8 p.repeats

def getPattern : Reader Pattern := fun l => do
  let (n, l) ← getNat8 0 8 l
  let (steps, l) ← getMany getStep n l
  let (repeats, l) ← getNat8 0 15 l
  some (⟨steps, repeats⟩, l)

/-- R57: a demand record's contents. -/
def putDemand (d : Demand) : List Byte := putInt8 d.lever ++ putEnum selectorList d.selector

def getDemand : Reader Demand := fun l => do
  let (lever, l) ← getInt8 (-100) 100 l
  let (selector, l) ← getEnum selectorList l
  some (⟨lever, selector⟩, l)

/-- R1: VEHICLE. -/
def putVehicle (v : Vehicle) : List Byte := putNat16 v.line ++ putNat8 v.run

def getVehicle : Reader Vehicle := fun l => do
  let (line, l) ← getNat16 1 999 l
  let (run, l) ← getNat8 1 99 l
  some (⟨line, run⟩, l)

def putUses (u : PatternUses) : List Byte :=
  putNat8 u.vigilance.val ++ putNat8 u.guardAlert.val ++ putNat8 u.stopChime.val
    ++ putNat8 u.stopAhead.val ++ putNat8 u.lateStop.val ++ putNat8 u.wheelchair.val
    ++ putNat8 u.lockdown.val ++ putNat8 u.hornDirect.val ++ putNat8 u.bellDirect.val

def getUses : Reader PatternUses := fun l => do
  let (vigilance, l) ← getFin 16 l
  let (guardAlert, l) ← getFin 16 l
  let (stopChime, l) ← getFin 16 l
  let (stopAhead, l) ← getFin 16 l
  let (lateStop, l) ← getFin 16 l
  let (wheelchair, l) ← getFin 16 l
  let (lockdown, l) ← getFin 16 l
  let (hornDirect, l) ← getFin 16 l
  let (bellDirect, l) ← getFin 16 l
  some (⟨vigilance, guardAlert, stopChime, stopAhead, lateStop, wheelchair, lockdown, hornDirect,
    bellDirect⟩, l)

/-- R191: the settings of chapters 1, 2, 4, 5, 6, 7, 8 and 9, each chapter's in the order of its table. -/
def putSettings (c : Settings) : List Byte :=
  putNat8 c.promotion ++ putInt8 c.releasingCeiling ++ putInt8 c.noDeskCeiling
    ++ putNat8 c.framePeriod ++ putNat8 c.ramp ++ putNat16 c.staleTime ++ putNat16 c.graceTime
    ++ putInt8 c.penaltyCeiling ++ putNat8 c.linkLoss
    ++ putNat8 c.pulsesPerMetre ++ putNat16 c.standstillWindow ++ putNat8 c.windowLength
    ++ putNat8 c.repeats ++ putNat16 c.guardTime ++ putInt8 c.creep
    ++ putNat8 c.gap ++ putNat8 c.stationCount ++ putNat8 c.replyTimeout
    ++ putNat8 c.strikeWidth ++ c.tieModes.toList.flatMap (putEnum tieModeList) ++ putUses c.uses

/-- The ranges of R1, R23, R80, R96, R125, R139, R157 and R171. -/
def getSettings : Reader Settings := fun l => do
  let (promotion, l) ← getNat8 1 4 l
  let (releasingCeiling, l) ← getInt8 (-100) 0 l
  let (noDeskCeiling, l) ← getInt8 (-100) 0 l
  let (framePeriod, l) ← getNat8 10 50 l
  let (ramp, l) ← getNat8 1 20 l
  let (staleTime, l) ← getNat16 200 2000 l
  let (graceTime, l) ← getNat16 1000 5000 l
  let (penaltyCeiling, l) ← getInt8 (-100) 0 l
  let (linkLoss, l) ← getNat8 2 8 l
  let (pulsesPerMetre, l) ← getNat8 1 64 l
  let (standstillWindow, l) ← getNat16 200 5000 l
  let (windowLength, l) ← getNat8 2 60 l
  let (repeats, l) ← getNat8 1 4 l
  let (guardTime, l) ← getNat16 1000 20000 l
  let (creep, l) ← getInt8 5 40 l
  let (gap, l) ← getNat8 5 100 l
  let (stationCount, l) ← getNat8 0 24 l
  let (replyTimeout, l) ← getNat8 2 20 l
  let (strikeWidth, l) ← getNat8 20 80 l
  let (tieModes, l) ← getTable (getEnum tieModeList) 5 l
  let (uses, l) ← getUses l
  some ({ promotion, releasingCeiling, noDeskCeiling, framePeriod, ramp, staleTime, graceTime,
          penaltyCeiling, linkLoss, pulsesPerMetre, standstillWindow, windowLength, repeats, guardTime,
          creep, gap, stationCount, replyTimeout, strikeWidth, tieModes, uses }, l)

/-! ### Command arguments (11.2) -/

/-- A command that takes no argument. -/
def getNothing : Reader Unit := fun l => some ((), l)

/-- SUPERVISOR_CEILING: active flag, value. -/
def getCeilingArgs : Reader (Bool × Int) := fun l => do
  let (active, l) ← getFlag l
  let (value, l) ← getInt8 (-100) 100 l
  some ((active, value), l)

/-- The arguments of ROUTE_INSERT. -/
structure InsertArgs where
  position : Nat
  junction : Nat
  code     : Nat
  platform : Option Nat
  priority : Nat
deriving DecidableEq, Repr

def getInsertArgs : Reader InsertArgs := fun l => do
  let (position, l) ← getNat8 0 12 l
  let (junction, l) ← getNat16 1 4095 l
  let (code, l) ← getNat8 0 7 l
  let (platform, l) ← getOpt (getNat8 1 255) l
  let (priority, l) ← getNat8 0 3 l
  some (⟨position, junction, code, platform, priority⟩, l)

def getJunction : Reader Nat := getNat16 1 4095

/-- ROUTE_SET_CODE: junction, route code. -/
def getCodeArgs : Reader (Nat × Nat) := fun l => do
  let (junction, l) ← getNat16 1 4095 l
  let (code, l) ← getNat8 0 7 l
  some ((junction, code), l)

/-- The arguments of SOUND_START. -/
structure StartArgs where
  sounder  : Sounder
  pattern  : Fin 16
  priority : Nat
  repeats  : Nat
deriving DecidableEq, Repr

def getStartArgs : Reader StartArgs := fun l => do
  let (sounder, l) ← getEnum allSounders l
  let (pattern, l) ← getFin 16 l
  let (priority, l) ← getNat8 0 7 l
  let (repeats, l) ← getNat8 0 15 l
  some (⟨sounder, pattern, priority, repeats⟩, l)

/-- NOTICE_CLEAR and NOTICE_ENABLE: a set of causes of two octets. -/
def getCauses : Reader (BitVec 16) := fun l => do
  let (n, l) ← getNat16 0 65535 l
  some (BitVec.ofNat 16 n, l)

/-! ### Port frames (R186, R191) -/

/-- R186's checks; a frame that passes is the request it carries. -/
def parseFrame (l : List Byte) : Option Request :=
  match l with
  | kind :: flags :: target :: index :: len :: rest =>
    if l.length = 6 + 8 * len.toNat ∧ len.toNat ≤ 64 ∧ kind.toNat ≤ 4
        ∧ crc8 l.dropLast = l.getLastD 0 then
      let payload := rest.dropLast
      let cond := flags.getLsbD 0
      match kind.toNat with
      | 0 => some .null
      | 1 => some (.read target index)
      | 2 => some (.readReserve target index)
      | 3 => some (.write cond target index payload)
      | _ => some (.command cond target payload)
    else none
  | _ => none

def statusList : List Status := [.done, .retry, .refused, .badFrame, .portBusy]

def reasonList : List Reason :=
  [.none, .notAuthorised, .noReservation, .outOfRange, .listFull, .duplicate, .wrongState,
    .configLocked, .configLoop, .unknownTarget, .storeError, .badPattern, .configIncomplete]

/-- R191: the number of blocks of eight octets a payload takes. -/
def blocks (payload : List Byte) : Nat := (payload.length + 7) / 8

/-- R191: zero octets up to a whole number of blocks. -/
def padded (payload : List Byte) : List Byte :=
  payload ++ List.replicate (8 * blocks payload - payload.length) 0

/-- R191: the response frame clocked out to the master. -/
def responseFrame (r : Response) : List Byte :=
  let body := codeIn statusList r.status :: codeIn reasonList r.reason
    :: BitVec.ofNat 8 (blocks r.payload) :: padded r.payload
  body ++ [crc8 body]

/-! ### Track telegrams (R128 to R131, R191) -/

/-- The error kinds of R131. -/
inductive RxError where
  | framing | length | check
deriving DecidableEq, Repr

/-- What the receiver makes of what it hears, from the first sample of carrier on (R128, R129). -/
inductive Reception where
  | noise
  | beacon (identity : BitVec 12)
  | pointState (junction code : Nat) (state : PointReport) (run : Nat)
  | error (kind : RxError)
deriving DecidableEq, Repr

/-- Carrier at the mid-sample of bit period `i`; after the last heard there is silence (R129). -/
def carrierAt (heard : List Bool) (i : Nat) : Bool := heard.getD i false

/-- Octet `k` after the two bits of the start marker, most significant bit first; a burst is a zero bit. -/
def telegramOctet (heard : List Bool) (k : Nat) : Byte :=
  (List.range 8).foldl (fun b i => (b <<< 1) ||| (if carrierAt heard (2 + 8 * k + i) then 0 else 1)) 0

/-- R129: the tests after the kind octet has fixed the telegram's `n` octets, stop marker first. -/
def closeTelegram (heard : List Bool) (n : Nat) (whole : List Byte → Reception) : Reception :=
  let octets := (List.range n).map (telegramOctet heard)
  if !carrierAt heard (2 + 8 * n) then .error .framing
  else if carrierAt heard (2 + 8 * n + 1) then .error .length
  else if crc8 octets.dropLast = octets.getLastD 0 then whole octets
  else .error .check

/-- R191: BEACON. -/
def beaconFields (o : List Byte) : Reception :=
  .beacon (BitVec.ofNat 12 ((o.getD 1 0).toNat * 256 + (o.getD 2 0).toNat))

/-- R191: POINT_STATE. -/
def pointFields (o : List Byte) : Reception :=
  let w := (o.getD 1 0).toNat * 256 + (o.getD 2 0).toNat
  .pointState (w / 16) (w / 2 % 8)
    ((pointReportList[(o.getD 3 0).toNat % 4]?).getD .setting) ((o.getD 4 0).toNat % 128)

/-- R129, R131: what a telegram comes to whose bit periods, true for carrier at the mid-sample, are these. -/
def receive (heard : List Bool) : Reception :=
  if !carrierAt heard 0 then .noise
  else if !carrierAt heard 1 then .error .framing
  else
    let kind := telegramOctet heard 0
    if kind = 0x41 then closeTelegram heard 4 beaconFields
    else if kind = 0x42 then closeTelegram heard 6 pointFields
    else .error .length

/-- R129: the octets of the two kinds that travel toward the vehicle, the kind and the check included. -/
def kindLength (kind : Byte) : Option Nat :=
  if kind = 0x41 then some 4 else if kind = 0x42 then some 6 else none

/-- R129, R131: what a telegram whose bit periods so far are these has come to with the last of them; `none`
while it goes on. -/
def received (bits : List Bool) : Option Reception :=
  if bits.length = 2 then (if carrierAt bits 1 then none else some (.error .framing))
  else match kindLength (telegramOctet bits 0) with
  | none => if bits.length = 10 then some (.error .length) else none
  | some n =>
    if bits.length = 3 + 8 * n then
      if carrierAt bits (2 + 8 * n) then none else some (.error .framing)
    else if bits.length = 4 + 8 * n then some (receive bits)
    else none

def telegramKindCode : TelegramKind → Byte
  | .request => 0x21
  | .update => 0x22
  | .cancel => 0x23

/-- R191, R132: the octets of an outgoing telegram, check included. -/
def telegramOctets (t : OutTelegram) : List Byte :=
  let body := [telegramKindCode t.kind]
    ++ putNat16 (t.junction * 16 + t.code * 2 + (if t.stopping then 1 else 0))
    ++ putNat8 t.priority ++ putNat16 t.line ++ putNat8 t.run
  body ++ [crc8 body]

/-- An octet's eight bits, most significant first. -/
def octetBits (b : Byte) : List Bool := (List.range 8).map fun i => b.getLsbD (7 - i)

/-- R127, R129: the carrier of each bit period of a telegram with these octets: start marker, octets,
stop marker, and the silent bit period; a zero bit is a burst. -/
def telegramCarrier (octets : List Byte) : List Bool :=
  [true, true] ++ (octets.flatMap octetBits).map (fun b => !b) ++ [true, false]

/-- R127, R128: one bit period at its 16 sample points; a burst covers the first three. -/
def bitSamples (burst : Bool) : List Bool := List.replicate 3 burst ++ List.replicate 13 false

/-- R127, R128: a telegram at the sample points of its bit periods, as a sender in step with them sends it. -/
def telegramSamples (octets : List Byte) : List Bool := (telegramCarrier octets).flatMap bitSamples

/-- R191: a BEACON's octets, as a trackside loop sends them. -/
def beaconOctets (identity : BitVec 12) : List Byte :=
  let body := [0x41] ++ putNat16 identity.toNat
  body ++ [crc8 body]

/-- R191: a POINT_STATE's octets, as a point controller sends them. -/
def pointStateOctets (junction code : Nat) (state : PointReport) (run : Nat) : List Byte :=
  let body := [0x42] ++ putNat16 (junction * 16 + code * 2) ++ putEnum pointReportList state
    ++ putNat8 run
  body ++ [crc8 body]

/-! ### Traction and status frames (R72, R191) -/

def leadingCode : LeadingEnd → Byte
  | .none => 0
  | .aLeading => 1
  | .bLeading => 2

/-- R191: the traction frame's octets. -/
def tractionOctets (f : TractionFrame) : List Byte :=
  let head : Byte := (codeIn frameModeList f.mode <<< 6) ||| (leadingCode f.leading <<< 4)
    ||| f.seq.setWidth 8
  let body := head :: putInt8 f.effort
  body ++ [crc8 body]

/-- R72, R191: the fields of a status frame of the right length with a good check. -/
def parseStatus (l : List Byte) : Option StatusReport :=
  match l with
  | [h, e, c] =>
    if crc8 [h, e] = c then some ⟨h.setWidth 4, e.toInt, h.msb⟩ else none
  | _ => none

/-! ### Stop-loop frames (R142, R144, R191) -/

def lampCode : LampCommand → Byte
  | .off => 0
  | .stop => 1
  | .stopWheelchair => 2

/-- R191: the characters of a poll. -/
def pollOctets (p : Poll) : List Byte :=
  let body := putNat8 p.address ++ [(if p.ack then 0x80#8 else 0#8) ||| lampCode p.lamp]
  body ++ [crc8 body]

/-- R142: an octet's bits with the parity bit that makes the nine even. -/
def evenParity (b : Byte) : Bool := (octetBits b).foldl xor false

/-- R142, R191: the 11 bit periods of a character, true for a level away from idle: the start bit, the data
bits most significant first, the parity bit and the stop bit; a one bit is the idle level (log 18). -/
def charLine (b : Byte) : List Bool :=
  true :: (octetBits b).map (fun x => !x) ++ [!evenParity b, false]

/-- R142, R143: a poll frame on the line. -/
def pollLine (p : Poll) : List Bool := (pollOctets p).flatMap charLine

/-- The octet of a character's first eight bits after the start bit, as levels away from idle. -/
def lineOctet (bits : List Bool) : Byte :=
  (bits.take 8).foldl (fun b away => (b <<< 1) ||| (if away then 0 else 1)) 0

/-- R142: the nine bits are even and the stop bit is at the idle level. -/
def lineIntact (bits : List Bool) : Bool :=
  (!bits.getD 8 false) == evenParity (lineOctet bits) && !bits.getD 9 false

/-- The three flags of a good reply. -/
structure Reply where
  stop       : Bool
  wheelchair : Bool
  fault      : Bool
deriving DecidableEq, Repr

/-- R191: the flags of a reply's character 1. -/
def replyFlags (c : Byte) : Reply := ⟨c.getLsbD 0, c.getLsbD 1, c.getLsbD 2⟩

/-- R144: the reply of the polled station whose characters so far are these, the last of them whole or not,
fails at its last character. -/
def replyFails (polled : Nat) (got : List Byte) (intact : Bool) : Bool :=
  !intact || (got.getD 0 0).toNat != polled
    || (got.length == 3 && got.getD 2 0 != crc8 [got.getD 0 0, got.getD 1 0])

/-! ### Records as a READ returns them (R1, R4, R36) -/

def putTimerLeft (draw : Nat) (t : Timer) : List Byte :=
  putOpt (fun ms => putNat16 (min ms (Config.timeRemaining draw))) t

def putContext : FaultContext → List Byte
  | .none => [0, 0, 0]
  | .junction j => 1 :: putNat16 j
  | .record r => 2 :: putNat16 (recordCode r).toNat

/-- R36: the sub-function of an active line entry. -/
def putSubFunction (e : LineEntry) : List Byte :=
  match e.group with
  | .cellOutput => putNat8 e.cell.val
  | .sounderOutput => putEnum allSounders e.sounder
  | .stateOutput => putEnum stateFnList e.stateFn
  | .unused => [0]
  | .plainInput => [0]
  | .tachInput => [0]

def lineView (s : State) (i : Fin 32) : List Byte :=
  putLine s.lmu.written.lines[i] ++ putEnum groupList s.lmu.active.lines[i].group
    ++ putSubFunction s.lmu.active.lines[i] ++ putFlag (presentLevel s.lmu s.sdu i)

def cellView (s : State) (i : Fin 16) : List Byte :=
  putCell s.lmu.written.cells[i] ++ putEnum cellKindList s.lmu.active.cells[i].kind
    ++ putFlag s.lmu.output[i]

def permitView (s : State) (i : Fin 9) : List Byte :=
  putPermit s.lmu.written.permits[i] ++ putPermit s.lmu.active.permits[i] ++ putFlag s.lmu.delivered[i]

def ceilingView (s : State) (i : Fin 9) : List Byte :=
  putNat8 i.val ++ putFlag s.tdu.ceilings[i].active ++ putInt8 s.tdu.ceilings[i].value

def planEntryView (e : PlanEntry) : List Byte :=
  putNat16 e.junction ++ putNat8 e.code ++ putOpt putNat8 e.platform ++ putNat8 e.priority
    ++ putEnum portList e.origin ++ putEnum entryStateList e.state ++ putNat8 e.requestsOwed
    ++ putFlag e.updateOwed ++ putNat8 e.transmissions
    ++ putOpt (fun p => putEnum pointReportList p.state ++ putNat8 p.code) e.lastPoint

/-- R99: the header of PLAN. -/
def planHeaderView (s : State) : List Byte :=
  putNat8 s.rtu.plan.length ++ putFlag s.rtu.windowOpen ++ putNat8 s.lcu.window
    ++ putList (fun c => putNat16 c.junction ++ putNat8 c.code) s.rtu.cancels
    ++ putOpt (fun f => putEnum telegramKindList f.kind ++ putNat16 f.junction) s.rtu.inFlight
    ++ putOpt (fun x => putEnum planExceptionList x.1 ++ putNat16 x.2) s.rtu.exception
    ++ putNat8 s.rtu.otherRun

/-- R139: the track link status. -/
def trackStatusView (s : State) : List Byte :=
  putEnum transmitterList s.tlu.transmitter
    ++ putOpt (fun t => putEnum telegramKindList t.kind ++ putNat16 t.junction) s.tlu.inFlight
    ++ putOpt putNat16 s.tlu.lastRequest ++ putNat8 s.tlu.checkCount ++ putNat8 s.tlu.framingCount
    ++ putNat8 s.tlu.lengthCount

def stationView (t : Station) : List Byte :=
  putEnum healthList t.health ++ putNat8 t.misses ++ putFlag t.fault ++ putFlag t.ackDue

/-- R162: a request of the sound list, with its place in the age order and its state. -/
def requestView (u : Sdu) (age : Nat) (q : SoundRequest) : List Byte :=
  putEnum sourceList q.source ++ putEnum allSounders q.sounder ++ putNat8 q.pattern.val
    ++ putNat8 q.priority ++ putNat8 (q.repeats.getD 0) ++ putNat8 age ++ putFlag (isPlaying u q)

/-- R158: a player, with the request it plays. -/
def playerView (s : State) (snd : Sounder) : List Byte :=
  let p := s.sdu.players[sounderIndex snd]
  putOpt (fun src =>
      match findRequest s.sdu.requests src snd with
      | some q => requestView s.sdu (s.sdu.requests.idxOf q) q
      | none => []) p.playing
    ++ putNat8 p.step ++ putEnum phaseList p.phase
    ++ putTimerLeft (s.draws + (sounderIndex snd).val) p.timer
    ++ putOpt (putEnum sourceList) p.lastSource
    ++ putEnum tieModeList s.settings.tieModes[sounderIndex snd]

def pendingActionView (a : PendingAction) : List Byte :=
  putNat8 a.entry ++ putNat16 a.beacon.toNat ++ putAction a.act ++ putNat8 a.remaining

def locationStatusView (l : Lcu) : List Byte :=
  putEnum motionList l.motion ++ putNat16 l.distance ++ putOpt (fun b => putNat16 b.toNat) l.lastBeacon
    ++ putNat8 l.window ++ putList pendingActionView l.actions
    ++ putOpt (fun v => putEnum locationEventList v.kind ++ putNat8 v.entry ++ putNat16 v.beacon
        ++ putEnum actionList v.action) l.lastEvent

def frameView (f : TractionFrame) : List Byte :=
  putEnum frameModeList f.mode ++ putInt8 f.effort ++ putEnum leadingList f.leading
    ++ putNat8 f.seq.toNat

def captureView (f : Fnu) : List Byte :=
  putEnum faultKindList f.capture.kind
    ++ putOpt (fun k => putEnum faultKindList (some k)) f.capture.second
    ++ putEnum unitList f.capture.source ++ putContext f.capture.context
    ++ putEnum motionList f.capture.motion ++ putEnum deskStateList f.capture.desk
    ++ putInt8 f.capture.effort ++ putFlag f.capture.recoverable ++ putFlag f.capture.acknowledged
    ++ putNat8 f.capture.count ++ putFlag f.armed ++ putEnum lockList f.lock

/-- R181: the sets of the requesting port and its highest-priority pending cause, as its priority 1 to 16, or 0
for NONE (log 13). -/
def noticesView (n : NoticeSets) : List Byte :=
  putNat16 n.pending.toNat ++ putNat16 n.enabled.toNat ++ putNat16 n.seen.toNat
    ++ putNat8 (highestPending n.pending)

/-- R4: the payload of a whole read of a record by a port. The zone of STOPS is sent as an optional field of a
platform and a flag (log 13); the station count of STATIONS is the setting as it stands, from a SETTINGS write
on (log 31). -/
def wholeView (s : State) (p : Port) : Record → List Byte
  | .desk => putEnum deskStateList s.dau.state ++ putEnum holderList (deskHolder s.dau.state)
      ++ putEnum leadingList s.dau.leading ++ putFlag s.dau.keySeen.a ++ putFlag s.dau.keySeen.b
      ++ putEnum lastChangeList s.dau.lastChange
  | .demandA => putDemand s.tdu.demand.a
  | .demandB => putDemand s.tdu.demand.b
  | .ceilings => (List.finRange 9).flatMap (ceilingView s) ++ putInt8 (lowestCeiling s.tdu.ceilings)
      ++ putFlag s.tdu.lock
  | .tractionStatus => putEnum linkList s.tdu.link ++ putOpt frameView s.tdu.lastFrame
      ++ putOpt (fun r => putNat8 r.echo.toNat ++ putInt8 r.applied ++ putFlag r.propulsionFault)
          s.tdu.lastStatus
      ++ putEnum vigilanceList s.tdu.vigilance
  | .plan => planHeaderView s ++ putList planEntryView s.rtu.plan ++ trackStatusView s
  | .stops => putFlag (latchSet s.sru)
      ++ putList (fun e => putNat8 e.station ++ putEnum stopKindList e.kind) s.sru.list
      ++ putOpt (fun z => putNat8 z.platform ++ putFlag z.mandatory) s.sru.zone
      ++ putEnum decisionList s.sru.decision ++ putFlag s.sru.stoppedInZone
      ++ putOpt (fun v => putEnum stopEventList v.1 ++ putNat8 v.2) s.sru.lastStop
  | .stations => s.sru.stations.toList.flatMap stationView ++ putNat8 s.settings.stationCount
      ++ putEnum pollStateList s.sru.pollState ++ putNat8 s.sru.address ++ putNat8 s.sru.unsolicited
      ++ putOpt (fun v => putNat8 v.1 ++ putEnum healthEventList v.2) s.sru.lastHealth
  | .sound => putNat8 s.sdu.requests.length
      ++ (s.sdu.requests.zipIdx.flatMap fun q => requestView s.sdu q.2 q.1)
      ++ allSounders.flatMap (playerView s)
      ++ putOpt (fun v => putEnum soundEventList v.kind ++ putEnum sourceList v.source
          ++ putEnum allSounders v.sounder) s.sdu.lastEvent
  | .fault => captureView s.fnu
  | .notices => noticesView (s.fnu.notices.get p)
  | .vehicle => putVehicle s.rst.vehicle
  | .lines => (List.finRange 32).flatMap (lineView s)
  | .cells => (List.finRange 16).flatMap (cellView s)
  | .permits => (List.finRange 9).flatMap (permitView s)
  | .locations => s.lcu.table.toList.flatMap putLocation ++ locationStatusView s.lcu
  | .patterns => s.sdu.patterns.toList.flatMap putPattern
  | .settings => putSettings s.settings
  | .mode => putEnum modeList s.rst.mode

/-- R4: the payload of a read of one entry; `none` where the index lies beyond the record's range. -/
def entryView (s : State) (i : Nat) : Record → Option (List Byte)
  | .ceilings => if h : i < 9 then some (ceilingView s ⟨i, h⟩) else none
  | .plan => s.rtu.plan[i]?.map planEntryView
  | .stations => s.sru.stations[i]?.map stationView
  | .sound => s.sdu.requests[i]?.map (requestView s.sdu i)
  | .lines => if h : i < 32 then some (lineView s ⟨i, h⟩) else none
  | .cells => if h : i < 16 then some (cellView s ⟨i, h⟩) else none
  | .permits => if h : i < 9 then some (permitView s ⟨i, h⟩) else none
  | .locations => s.lcu.table[i]?.map putLocation
  | .patterns => s.sdu.patterns[i]?.map putPattern
  | .desk => none
  | .demandA => none
  | .demandB => none
  | .tractionStatus => none
  | .stops => none
  | .fault => none
  | .notices => none
  | .vehicle => none
  | .settings => none
  | .mode => none

/-- R191: index 0xFF stands for whole. -/
def readView (s : State) (p : Port) (r : Record) (index : Byte) : Option (List Byte) :=
  if index = 0xFF then some (wholeView s p r) else entryView s index.toNat r

/-- R158, R157: the settings a whole read returns beside its record's own fields. -/
def readSettings : Record → List SettingName
  | .sound => allSounders.map .tieMode
  | .stations => [.stationCount]
  | _ => []

/-- R19: the words a read returns. The last effort sent, which R56 places in TRACTION_STATUS and whose value the read
carries as the effort of the last frame sent, is taken as one of them: the model's choice (log 40). The words of an active table are taken as none of them, though the
status fields of LINES, CELLS and PERMITS come from there (R36, R55): the model's choice (log 43). -/
def readWords (s : State) (p : Port) (r : Record) (index : Byte) (w : StoreWord) : Bool :=
  if index = 0xFF then
    match w with
    | .active _ _ _ => false
    | .notice q _ => r == .notices && q == p
    | .field x _ => x == r || settingWords (readSettings r) w
    | .entry x _ _ => x == r
    | .cancel _ _ => r == .plan
    | .request _ _ _ => r == .sound
  else
    match w with
    | .entry x i _ =>
      x == r && (if r == .plan then (s.rtu.plan[index.toNat]?.map (·.junction)) == some i
                 else i == index.toNat)
    | .request src snd _ =>
      r == .sound && (s.sdu.requests[index.toNat]?.map fun q => (q.source, q.sounder)) == some (src, snd)
    | .field _ _ => false
    | .active _ _ _ => false
    | .cancel _ _ => false
    | .notice _ _ => false

end Sys2Proof.Machine
end

