-- ==== Sys2Proof/Machine/Fnu.lean ====
section
/-! DEFINITION. The fault and notice unit (chapter 10): notices, severe faults and the capture record,
lockdown, the four port commands, and the meanings of the rows that are the unit's own events. -/

namespace Sys2Proof.Machine

/-! ### Notices (R180 to R182) -/

/-- R180: a cause is pending in a port's sets, and not seen. -/
def raiseIn (c : Cause) (n : NoticeSets) : NoticeSets :=
  { n with pending := n.pending ||| causeBit c, seen := n.seen &&& ~~~causeBit c }

/-- R180: a cause raised, for all three ports. -/
def Fnu.raise (c : Cause) (f : Fnu) : Fnu := { f with notices := f.notices.map (raiseIn c) }

/-- R181: a read of a port's notices copies its pending set into its seen set. -/
def markSeen (n : NoticeSets) : NoticeSets := { n with seen := n.pending }

/-- R182: NOTICE_CLEAR at a port's sets. -/
def clearIn (causes : BitVec 16) (n : NoticeSets) : NoticeSets :=
  { n with
    pending := n.pending &&& ~~~(causes &&& n.seen)
    seen := n.seen &&& ~~~(causes &&& n.seen) }

/-- R182: NOTICE_ENABLE at a port's sets. -/
def enableIn (causes : BitVec 16) (n : NoticeSets) : NoticeSets := { n with enabled := causes }

/-- A change of one port's sets. -/
def Fnu.atPort (p : Port) (g : NoticeSets → NoticeSets) (f : Fnu) : Fnu :=
  { f with notices := f.notices.set p (g (f.notices.get p)) }

/-! ### Lockdown (R176, R178) -/

/-- R176: a change of the lockdown state, handed to the four units. -/
def lockHandOn (view : LockState) : List Instr :=
  [.lockdownViewChange .tdu view, .lockdownViewChange .lmu view, .lockdownViewChange .tlu view,
    .lockdownViewChange .sdu view]

/-- R176: lockdown is entered; where it holds already, nothing changes. -/
def Fnu.enterLockdown (f : Fnu) : Fnu × List Instr :=
  match f.lock with
  | .clear => ({ f with lock := .held }.raise .lockdownChange, lockHandOn .held)
  | .held => (f, [])

/-! ### Severe faults (R173 to R175) -/

/-- R173: the kinds whose reaction is immediate lockdown. -/
def locksAtOnce : FaultKind → Bool
  | .pointRunThrough => true
  | .storeParity => true
  | .emergencyStop => true
  | .tractionLinkLost => false
  | .locationOverflow => false

/-- R174: the capture record, written whole. -/
def captureOf (kind : FaultKind) (source : UnitName) (context : FaultContext) (recoverable : Bool)
    (effort : Int) (desk : DeskState) (motion : Motion) : Capture :=
  { kind := some kind
    second := none
    source := source
    context := context
    motion := motion
    desk := desk
    effort := effort
    recoverable := recoverable
    acknowledged := false
    count := 1 }

/-- R175 steps 1 and 2: a fault with the record not armed. -/
def recount (kind : FaultKind) (c : Capture) : Capture :=
  { c with second := some (c.second.getD kind), count := bump c.count }

/-- R173 to R175: a severe fault. -/
def Fnu.severe (kind : FaultKind) (source : UnitName) (context : FaultContext) (recoverable : Bool)
    (effort : Int) (desk : DeskState) (f : Fnu) : Fnu × List Instr :=
  if f.armed then
    let f' := Fnu.raise .faultCaptured
      { f with
        capture := captureOf kind source context recoverable effort desk f.motion
        armed := false }
    if locksAtOnce kind then f'.enterLockdown else (f', [])
  else { f with capture := recount kind f.capture }.enterLockdown

/-! ### Words (R184) -/

def noticeWords (w : StoreWord) : Bool := wordRecord w == .notices

def portNoticeWords (p : Port) : StoreWord → Bool
  | .notice q _ => q == p
  | .field _ _ => false
  | .entry _ _ _ => false
  | .active _ _ _ => false
  | .cancel _ _ => false
  | .request _ _ _ => false

/-- R180: the words a raise writes: the pending and the seen set of every port. -/
def raisedWords : StoreWord → Bool
  | .notice _ n => n == 0 || n == 2
  | .field _ _ => false
  | .entry _ _ _ => false
  | .active _ _ _ => false
  | .cancel _ _ => false
  | .request _ _ _ => false

/-- R173 to R176: the fault raises a notice: FAULT_CAPTURED with the record armed, LOCKDOWN_CHANGE with
lockdown entered. -/
def faultRaises (f : Fnu) : Bool := f.armed || f.lock == .clear

/-- R184: the fields of FAULT that a severe fault reads: the armed flag; with the record armed, the lockdown
state where the kind locks at once; else the second kind, the count and the lockdown state. -/
def captureFields (kind : FaultKind) (f : Fnu) : List Nat :=
  if f.armed then (if locksAtOnce kind then [10, 11] else [10]) else [1, 9, 10, 11]

/-- R184: the words a severe fault reads; the notice sets where it raises a notice. -/
def captureReads (kind : FaultKind) (f : Fnu) (w : StoreWord) : Bool :=
  fieldWords .fault (captureFields kind f) w || (faultRaises f && noticeWords w)

/-- R184: the words a severe fault writes: the capture record, or with the record not armed its count. -/
def captureWritten (f : Fnu) (w : StoreWord) : Bool :=
  fieldWords .fault (if f.armed then List.range 10 else [9]) w || (faultRaises f && raisedWords w)

/-- R177, R184: the word an acknowledgement reads: the acknowledged field. -/
def ackReads : StoreWord → Bool := fieldWords .fault [8]

/-- R184: the words an acknowledgement sets: acknowledged and armed. -/
def ackWords : StoreWord → Bool := fieldWords .fault [8, 10]

/-- R182, R184: the word NOTICE_ENABLE reads: the port's pending set, which with the new enabled set gives the
line; it stores the enabled set and has no use for the seen set. -/
def enableReads (p : Port) (w : StoreWord) : Bool := w == .notice p 0

/-- R182, R184: the word NOTICE_ENABLE stores. -/
def enableWritten (p : Port) (w : StoreWord) : Bool := w == .notice p 1

/-- R184: a bad word met while the unit takes a fault of its own raises no further fault. -/
def ownParity (kind : FaultKind) (source : UnitName) : Bool := kind == .storeParity && source == .fnu

/-- R173 to R175, R184, R13, R20: a severe fault arrives, and every slot naming FAULT is emptied with it. The
effort is the last sent by the TDU, or the one that came with a fault raised within a frame-timer expiry (R174,
R81, log 12). -/
def State.takeFault (s : State) (kind : FaultKind) (source : UnitName) (context : FaultContext)
    (recoverable : Bool) (effort : Option Int) : State :=
  let faults := if ownParity kind source then [] else parityFaults s .fnu (captureReads kind s.fnu) none
  let r := s.fnu.severe kind source context recoverable (effort.getD s.tdu.lastEffort) s.dau.state
  ((s.putFnu r.1 (r.2 ++ faults)).rewrite (captureWritten s.fnu)).emptySlotsNaming .fault

/-! ### Port commands (R177, R178, R182) -/

/-- FAULT_ACK at the FNU (R177, R184). -/
def faultAckAnswer (args : List Byte) (s : State) : Answer :=
  match readAll getNothing args with
  | none => .refuse s .outOfRange
  | some _ =>
    if meetsBad s ackReads then .storeError s .fnu ackReads
    else if s.fnu.capture.acknowledged then .refuse s .wrongState
    else
      let f := { s.fnu with capture := { s.fnu.capture with acknowledged := true }, armed := true }
      ⟨(s.putFnu f []).rewrite ackWords, .done [], true⟩

/-- R178: the four conditions of a release. -/
def Fnu.mayRelease (f : Fnu) : Bool :=
  f.lock == .held && f.motion == .standstill && f.armed && !f.emergencyStop

/-- R178, R184: the words a release reads: the armed flag and the lockdown state it checks, and where it is taken
the notice sets that its raise reads. -/
def lockReleaseReads (f : Fnu) (w : StoreWord) : Bool :=
  fieldWords .fault [10, 11] w || (f.mayRelease && noticeWords w)

/-- LOCKDOWN_RELEASE at the FNU (R178, R184). -/
def lockdownReleaseAnswer (args : List Byte) (s : State) : Answer :=
  match readAll getNothing args with
  | none => .refuse s .outOfRange
  | some _ =>
    if meetsBad s (lockReleaseReads s.fnu) then .storeError s .fnu (lockReleaseReads s.fnu)
    else if s.fnu.mayRelease then
      ⟨s.putFnu ({ s.fnu with lock := .clear }.raise .lockdownChange) (lockHandOn .clear), .done [], true⟩
    else .refuse s .wrongState

/-- NOTICE_CLEAR at the FNU (R182, R184). -/
def noticeClearAnswer (p : Port) (args : List Byte) (s : State) : Answer :=
  match readAll getCauses args with
  | none => .refuse s .outOfRange
  | some causes =>
    if meetsBad s (portNoticeWords p) then .storeError s .fnu (portNoticeWords p)
    else ⟨s.putFnu (s.fnu.atPort p (clearIn causes)) [], .done [], true⟩

/-- NOTICE_ENABLE at the FNU (R182, R184). -/
def noticeEnableAnswer (p : Port) (args : List Byte) (s : State) : Answer :=
  match readAll getCauses args with
  | none => .refuse s .outOfRange
  | some causes =>
    if meetsBad s (enableReads p) then .storeError s .fnu (enableReads p)
    else ⟨(s.putFnu (s.fnu.atPort p (enableIn causes)) []).rewrite (enableWritten p), .done [], true⟩

/-! ### The unit's rows -/

/-- EMERGENCY_STOP_EVENT (R51): the value is kept, and each delivery of true raises the severe fault. -/
def execEmergencyStopEvent (value : Bool) (s : State) : Host.Outcome State Fault Refusal :=
  let s := s.take (.emergencyStopEvent value)
  .next (s.putFnu { s.fnu with emergencyStop := value }
    (if value then [.severeFault .emergencyStop .lmu .none true none] else []))

/-- R180, R184: a notice cause raised at the unit. -/
def State.takeNotice (s : State) (c : Cause) : State :=
  (s.putFnu (s.fnu.raise c) (parityFaults s .fnu noticeWords none)).rewrite raisedWords

/-- NOTICE_RAISE (R180, R184). -/
def execNoticeRaise (c : Cause) (s : State) : Host.Outcome State Fault Refusal :=
  .next ((s.take (.noticeRaise c)).takeNotice c)

/-- R94: the last location event of a NOTIFY action. One handed on by the location unit has become it as it
fired, in its turn among the actions of that event. -/
def State.notifyEvent (s : State) (entry beacon : Nat) : State :=
  if s.handed.contains (.notifyAction entry beacon) then s
  else s.putLcu { s.lcu with lastEvent := some ⟨.notify, entry, beacon, .notify⟩ } []

/-- NOTIFY_ACTION (R94): the last location event, and the notice LOCATION_EVENT. -/
def execNotifyAction (entry beacon : Nat) (s : State) : Host.Outcome State Fault Refusal :=
  .next (((s.notifyEvent entry beacon).take (.notifyAction entry beacon)).takeNotice .locationEvent)

/-- SEVERE_FAULT (R173 to R175). -/
def execSevereFault (kind : FaultKind) (source : UnitName) (context : FaultContext)
    (recoverable : Bool) (effort : Option Int) (s : State) : Host.Outcome State Fault Refusal :=
  let s := s.take (.severeFault kind source context recoverable effort)
  .next (s.takeFault kind source context recoverable effort)

end Sys2Proof.Machine
end

