-- ==== Sys2Proof/Machine/Lmu.lean ====
section
/-! DEFINITION. The line and matrix unit (chapter 3): debouncing, the cell graph, settling, the delivery
of permits, the commit, and the meanings of the rows that are the unit's own events. -/

namespace Sys2Proof.Machine

/-! ### The cell graph (R46) -/

def sourceCell : CellSource → List (Fin 16)
  | .cell n => [n]
  | .line _ => []
  | .constantTrue => []
  | .condition _ => []

/-- The cells a cell reads, whatever its kind (R46). -/
def cellReads (e : CellEntry) : List (Fin 16) := sourceCell e.a ++ sourceCell e.b

/-- The first cell not yet placed all of whose inputs that name cells are placed. -/
def nextCell (cells : Table CellEntry 16) (placed : List (Fin 16)) : Option (Fin 16) :=
  (List.finRange 16).find? fun c =>
    !placed.contains c && (cellReads cells[c]).all fun m => placed.contains m

def placeCells (cells : Table CellEntry 16) : Nat → List (Fin 16) → List (Fin 16)
  | 0, placed => placed
  | n + 1, placed =>
    match nextCell cells placed with
    | some c => placeCells cells n (placed ++ [c])
    | none => placed

/-- R47: graph order, each cell after every cell it reads. -/
def graphOrder (cells : Table CellEntry 16) : List (Fin 16) := placeCells cells 16 []

/-- R46: the graph has a cycle exactly when some cell can never be placed after all it reads. -/
def hasCycle (cells : Table CellEntry 16) : Bool := decide ((graphOrder cells).length < 16)

/-! ### Cells (R41 to R44) -/

/-- R41: the value of a source. -/
def sourceValue (l : Lmu) : CellSource → Bool
  | .line n => lineValue l n
  | .cell n => l.output[n]
  | .constantTrue => true
  | .condition c => conditionValue l c

def inputA (l : Lmu) (e : CellEntry) : Bool := xor (sourceValue l e.a) e.aInvert
def inputB (l : Lmu) (e : CellEntry) : Bool := xor (sourceValue l e.b) e.bInvert

/-- R42, R43, R44: a cell's output and timer after a settle, from its inputs, its output and its timer. -/
def cellNext (kind : CellKind) (delay : Nat) (a b out : Bool) (timer : Timer) : Bool × Timer :=
  match kind with
  | .off => (false, timer)
  | .and => (a && b, timer)
  | .or => (a || b, timer)
  | .xor => (xor a b, timer)
  | .nand => (!(a && b), timer)
  | .nor => (!(a || b), timer)
  | .latch => (if b then false else if a then true else out, timer)
  | .onDelay =>
    if !a then (false, none)
    else if out then (true, timer)
    else match timer with
      | some t => (false, some t)
      | none => if delay = 0 then (true, none) else (false, some delay)

def Lmu.settleCell (l : Lmu) (c : Fin 16) : Lmu :=
  let e := l.active.cells[c]
  let r := cellNext e.kind e.delay (inputA l e) (inputB l e) l.output[c] l.delay[c]
  { l with output := l.output.set c r.1, delay := l.delay.set c r.2 }

/-- R47: every cell of the active table, in graph order. -/
def Lmu.settleCells (l : Lmu) : Lmu := (graphOrder l.active.cells).foldl Lmu.settleCell l

/-! ### Permits (R48, R49, R51) -/

/-- R49: a permit's value. -/
def permitValue (l : Lmu) (p : Permit) : Bool :=
  let e := l.active.permits[permitIndex p]
  xor (match e.source with
    | .line n => lineValue l n
    | .cell n => l.output[n]
    | .fixedFalse => false
    | .fixedTrue => true) e.invert

/-- R51: the event by which a permit is delivered. -/
def permitEvent (p : Permit) (v : Bool) : Instr :=
  match p with
  | .keyA => .keyPermitEvent .a v
  | .keyB => .keyPermitEvent .b v
  | .vigilanceA => .vigilancePedalEvent .a v
  | .vigilanceB => .vigilancePedalEvent .b v
  | .tractionPermit => .tractionPermitEvent v
  | .atStop => .atStopEvent v
  | .hornDirect => .directSoundPermitEvent .horn v
  | .bellDirect => .directSoundPermitEvent .bell v
  | .emergencyStop => .emergencyStopEvent v

/-- R48: the permits whose computed value differs from the value last delivered. -/
def changedPermits (l : Lmu) : List Permit :=
  allPermits.filter fun p => permitValue l p != l.delivered[permitIndex p]

/-- R48: every changed permit is delivered as one event, and its value becomes the value last delivered. -/
def Lmu.deliver (l : Lmu) : Lmu × List Instr :=
  ({ l with delivered := Vector.ofFn fun i => permitValue l (allPermits[i.val]?.getD .keyA) },
    (changedPermits l).map fun p => permitEvent p (permitValue l p))

/-- R47, R48: one settle. -/
def Lmu.settle (l : Lmu) : Lmu × List Instr := l.settleCells.deliver

/-- R55: the words of the active tables, which a settle reads (log 8). -/
def activeWords : StoreWord → Bool
  | .active _ _ _ => true
  | .field _ _ => false
  | .entry _ _ _ => false
  | .cancel _ _ => false
  | .request _ _ _ => false
  | .notice _ _ => false

/-- A settle as part of an event, from this LMU state on. -/
def State.settleFrom (s : State) (l : Lmu) : State :=
  let r := l.settle
  s.putLmu r.1 (parityFaults s .lmu activeWords none ++ r.2)

/-! ### Lines (R38, R39) and conditions (R45) -/

/-- R45, R47: a condition that takes another value is an input event; a repeated value is no event. -/
def State.takeCondition (s : State) (c : Condition) (v : Bool) : State :=
  if conditionValue s.lmu c = v then s
  else s.settleFrom { s.lmu with conditions := s.lmu.conditions.set (conditionIndex c) v }

/-- R38, R47: the taken level of a line changes, with its timer stopped. -/
def State.takeLevel (s : State) (n : Fin 32) (v : Bool) : State :=
  s.settleFrom { s.lmu with taken := s.lmu.taken.set n v, debounce := s.lmu.debounce.set n none }

/-- R38, R39: a change of the raw level of a line. -/
def State.rawChange (s : State) (n : Fin 32) (v : Bool) : State :=
  if s.lmu.raw[n] = v then s
  else
    let l := { s.lmu with raw := s.lmu.raw.set n v }
    let e := l.active.lines[n]
    match e.group with
    | .plainInput =>
      if v = l.taken[n] then s.putLmu { l with debounce := l.debounce.set n none } []
      else if e.debounce = 0 then (s.putLmu l []).takeLevel n v
      else s.putLmu { l with debounce := l.debounce.set n (some e.debounce) } []
    | .tachInput => s.putLmu l (if v then [.tachPulse] else [])
    | .unused => s.putLmu l []
    | .cellOutput => s.putLmu l []
    | .sounderOutput => s.putLmu l []
    | .stateOutput => s.putLmu l []

/-! ### Commit (R52) -/

/-- R52: the four permits whose source a commit checks. -/
def checkedPermits : List Permit := [.keyA, .keyB, .tractionPermit, .atStop]

/-- R52: a source that a committed configuration may give a checked permit. -/
def sourceCommits (t : MatrixTables) : PermitSource → Bool
  | .line n => t.lines[n].group == .plainInput
  | .cell _ => true
  | .fixedFalse => false
  | .fixedTrue => false

def mayCommit (t : MatrixTables) : Bool :=
  checkedPermits.all fun p => sourceCommits t t.permits[permitIndex p].source

/-- R52 step 2: a line that keeps its group and debounce through the commit. -/
def keepsLevel (old new : LineEntry) : Bool :=
  old.group == .plainInput && new.group == .plainInput && old.debounce == new.debounce

def isPlain (e : LineEntry) : Bool := e.group == .plainInput

/-- R52 steps 1 to 4: the tables are copied, the taken levels and timers set, the cells with state
restarted, and SERVICE_MODE taken true. Every cell's output starts false; the settle that follows
computes those that hold no state. -/
def Lmu.commit (l : Lmu) : Lmu :=
  { l with
    active := l.written
    taken := Vector.ofFn fun n =>
      if keepsLevel l.active.lines[n] l.written.lines[n] then l.taken[n]
      else if isPlain l.written.lines[n] then l.raw[n] else false
    debounce := Vector.ofFn fun n =>
      if keepsLevel l.active.lines[n] l.written.lines[n] then l.debounce[n] else none
    output := Vector.replicate 16 false
    delay := Vector.replicate 16 none
    conditions := l.conditions.set (conditionIndex .serviceMode) true }

/-! ### The unit's rows -/

/-- RAW_LEVEL_CHANGE (R38, R39). -/
def execRawLevelChange (line : Fin 32) (level : Bool) (s : State) :
    Host.Outcome State Fault Refusal :=
  .next ((s.take (.rawLevelChange line level)).rawChange line level)

/-- DEBOUNCE_TIMER_EXPIRY (R38): a timer that is stopped does not expire. -/
def execDebounceTimerExpiry (line : Fin 32) (s : State) : Host.Outcome State Fault Refusal :=
  let s := s.take (.debounceTimerExpiry line)
  match s.lmu.debounce[line] with
  | some _ => .next (s.takeLevel line s.lmu.raw[line])
  | none => .next s

/-- R44: the ON_DELAY timer of a cell expires; with A still true the output becomes true. -/
def Lmu.delayExpiry (l : Lmu) (c : Fin 16) : Lmu :=
  { l with
    output := l.output.set c (inputA l l.active.cells[c])
    delay := l.delay.set c none }

/-- ON_DELAY_TIMER_EXPIRY (R44, R47). -/
def execOnDelayTimerExpiry (cell : Fin 16) (s : State) : Host.Outcome State Fault Refusal :=
  let s := s.take (.onDelayTimerExpiry cell)
  match s.lmu.delay[cell] with
  | some _ => .next (s.settleFrom (s.lmu.delayExpiry cell))
  | none => .next s

/-- CONDITION_CHANGE (R45). -/
def execConditionChange (c : Condition) (value : Bool) (s : State) :
    Host.Outcome State Fault Refusal :=
  .next ((s.take (.conditionChange c value)).takeCondition c value)

end Sys2Proof.Machine
end

