-- ==== Sys2Proof/Machine/Sdu.lean ====
section
/-! DEFINITION. The sound unit (chapter 9): players, the sound list, arbitration at each sounder, the two
port commands, and the meanings of the rows that are the unit's own events. -/

namespace Sys2Proof.Machine

/-! ### Requests of the list (R162) -/

def isRequest (src : SoundSource) (snd : Sounder) (q : SoundRequest) : Bool :=
  q.source == src && q.sounder == snd

def dropRequest (l : List SoundRequest) (src : SoundSource) (snd : Sounder) : List SoundRequest :=
  l.filter fun q => !isRequest src snd q

def player (u : Sdu) (snd : Sounder) : Player := u.players[sounderIndex snd]

def setPlayer (u : Sdu) (snd : Sounder) (p : Player) : Sdu :=
  { u with players := u.players.set (sounderIndex snd) p }

/-- R158: the request the sounder plays. -/
def playingRequest (u : Sdu) (snd : Sounder) : Option SoundRequest :=
  (player u snd).playing.bind fun src => findRequest u.requests src snd

/-- R159: step `k` of a pattern, counted from 1. -/
def patternStep (p : Pattern) (k : Nat) : SoundStep := p.steps[k - 1]?.getD ⟨0, 0⟩

/-! ### Phases (R160, R161) -/

/-- R160: the time of a phase. -/
def phaseTime (t : SoundStep) : Phase → Nat
  | .on => t.on
  | .off => t.off

/-- R161: a strike begins with an ON phase of BELL whose time is above 0; it lasts the strike width, or
the phase when that is shorter. -/
def strikeOf (cfg : Settings) (snd : Sounder) (ph : Phase) (time : Nat) : Timer :=
  match snd, ph with
  | .bell, .on => if time = 0 then none else some (min cfg.strikeWidth time)
  | .bell, .off => none
  | .horn, _ => none
  | .buzzerA, _ => none
  | .buzzerB, _ => none
  | .chime, _ => none

/-- R160: a phase of step `k` begins; one whose time is 0 has no timer. -/
def enterPhase (cfg : Settings) (snd : Sounder) (pat : Pattern) (k : Nat) (ph : Phase) (p : Player) :
    Player :=
  let time := phaseTime (patternStep pat k) ph
  { p with
    step := k
    phase := ph
    timer := if time = 0 then none else some time
    strike := strikeOf cfg snd ph time }

/-- R160, R168: a request becomes PLAYING: it starts at step 1 in phase ON, and is the last source. -/
def Sdu.begin (cfg : Settings) (q : SoundRequest) (u : Sdu) : Sdu :=
  setPlayer u q.sounder
    (enterPhase cfg q.sounder u.patterns[q.pattern] 1 .on
      { player u q.sounder with playing := some q.source, lastSource := some q.source })

/-! ### Choosing (R168) -/

/-- The highest priority among requests. -/
def topPriority (l : List SoundRequest) : Nat := l.foldr (fun q m => max q.priority m) 0

/-- R168: of the requests that wait, oldest first, the one the arbiter takes. -/
def chooseNext (tie : TieMode) (last : Option SoundSource) (l : List SoundRequest) :
    Option SoundRequest :=
  let tied := l.filter fun q => q.priority == topPriority l
  match tie with
  | .oldestFirst => tied.head?
  | .rotate =>
    match tied.find? fun q => some q.source != last with
    | some q => some q
    | none => tied.head?

/-- R158: a player that plays nothing; it keeps its step, its phase and its last source (log 20). -/
def idlePlayer (p : Player) : Player := { p with playing := none, timer := none, strike := none }

/-- R168: the sounder is free; the arbiter takes the next request of the list for it, or it is idle. -/
def Sdu.next (cfg : Settings) (snd : Sounder) (u : Sdu) : Sdu :=
  let u := setPlayer u snd (idlePlayer (player u snd))
  match chooseNext cfg.tieModes[sounderIndex snd] (player u snd).lastSource
      (u.requests.filter fun q => q.sounder == snd) with
  | some q => u.begin cfg q
  | none => u

/-! ### The end of a phase (R160) -/

/-- R160: the repeats remaining of the playing request fall by one. -/
def countRepeat (u : Sdu) (q : SoundRequest) (n : Nat) : Sdu :=
  { u with requests := u.requests.map fun x =>
      if isRequest q.source q.sounder x then { x with repeats := some (n - 1) } else x }

/-- R160: one row of its table: the phase the player stands in ends. -/
def Sdu.endPhase (cfg : Settings) (q : SoundRequest) (u : Sdu) : Sdu × List Instr :=
  let p := player u q.sounder
  let pat := u.patterns[q.pattern]
  let go (u : Sdu) (k : Nat) (ph : Phase) : Sdu × List Instr :=
    (setPlayer u q.sounder (enterPhase cfg q.sounder pat k ph p), [])
  match p.phase with
  | .on => go u p.step .off
  | .off =>
    if p.step < pat.steps.length then go u (p.step + 1) .on
    else match q.repeats with
      | none => go u 1 .on
      | some n =>
        if n ≤ 1 then
          ({ u with requests := dropRequest u.requests q.source q.sounder }.next cfg q.sounder,
            [.structuralChangeReport .sound])
        else go (countRepeat u q n) 1 .on

/-- R160: phases whose time is 0 pass at once. A pattern that has steps has at most 16 phases and one at
least has a time (R159), so 64 passes lead past every run of such phases. -/
def Sdu.passZero (cfg : Settings) (snd : Sounder) : Nat → Sdu → Sdu × List Instr
  | 0, u => (u, [])
  | n + 1, u =>
    match playingRequest u snd with
    | none => (u, [])
    | some q =>
      match (player u snd).timer with
      | some _ => (u, [])
      | none =>
        let r := u.endPhase cfg q
        let t := Sdu.passZero cfg snd n r.1
        (t.1, r.2 ++ t.2)

def Sdu.settlePhase (cfg : Settings) (snd : Sounder) (u : Sdu) : Sdu × List Instr :=
  u.passZero cfg snd 64

/-- R160: the expiry of a phase timer; a timer that is stopped does not expire. -/
def Sdu.phaseExpiry (cfg : Settings) (snd : Sounder) (u : Sdu) : Sdu × List Instr :=
  match (player u snd).timer, playingRequest u snd with
  | some _, some q =>
    let r := u.endPhase cfg q
    let t := r.1.settlePhase cfg snd
    (t.1, r.2 ++ t.2)
  | some _, none => (u, [])
  | none, _ => (u, [])

/-! ### Joining and leaving (R165 to R168) -/

/-- R168: a freed sounder is handed on. -/
def Sdu.free (cfg : Settings) (snd : Sounder) (u : Sdu) : Sdu × List Instr :=
  (u.next cfg snd).settlePhase cfg snd

/-- R168: a request joins as the youngest and competes for its sounder. -/
def Sdu.join (cfg : Settings) (q : SoundRequest) (u : Sdu) : Sdu × List Instr :=
  let u := { u with requests := u.requests ++ [q] }
  match playingRequest u q.sounder with
  | none => (u.begin cfg q).settlePhase cfg q.sounder
  | some p => if p.priority < q.priority then (u.begin cfg q).settlePhase cfg q.sounder else (u, [])

/-- R165, R167: a source's request leaves its sounder, whatever its state. -/
def Sdu.remove (cfg : Settings) (src : SoundSource) (snd : Sounder) (u : Sdu) : Sdu × List Instr :=
  let u' := { u with requests := dropRequest u.requests src snd }
  if (player u snd).playing = some src then u'.free cfg snd else (u', [])

/-- R166 step 1: the new request takes the place of its source's old one, as the youngest. -/
def Sdu.replace (cfg : Settings) (q : SoundRequest) (u : Sdu) : Sdu × List Instr :=
  let l := dropRequest u.requests q.source q.sounder
  if (player u q.sounder).playing = some q.source then
    { u with requests := l ++ [q] }.free cfg q.sounder
  else { u with requests := l }.join cfg q

/-- R166 step 3: the youngest of those of lowest priority among the requests below the new one. -/
def evictee (l : List SoundRequest) (priority : Nat) : Option SoundRequest :=
  let below := l.filter fun q => decide (q.priority < priority)
  let lowest := below.foldr (fun q m => min q.priority m) priority
  (below.filter fun q => q.priority == lowest).getLast?

/-- R166: a request offered to the list; `none` where it finds no room. -/
def Sdu.offer (cfg : Settings) (q : SoundRequest) (u : Sdu) : Option (Sdu × List Instr) :=
  if (findRequest u.requests q.source q.sounder).isSome then some (u.replace cfg q)
  else if u.requests.length < Config.soundCapacity then some (u.join cfg q)
  else match evictee u.requests q.priority with
    | some v =>
      let r := u.remove cfg v.source v.sounder
      let t := { r.1 with lastEvent := some ⟨.evicted, v.source, v.sounder⟩ }.join cfg q
      some (t.1, r.2 ++ t.2 ++ [.noticeRaise .soundDropped])
    | none => none

/-! ### Hardware sources (R163, R167) -/

/-- R163: the fixed priority of a hardware source; a port's source has none. -/
def hardwarePriority : SoundSource → Nat
  | .matrix => 7
  | .lockdown => 7
  | .vigilance => 6
  | .pointGuard => 5
  | .location => 3
  | .stopUnit => 2
  | .deskA => 0
  | .deskB => 0
  | .supervisor => 0

/-- R159, R163: the repeats a count asks for, 0 being continuous. -/
def repeatsOf (n : Nat) : Option Nat := if n = 0 then none else some n

/-- R163: a hardware source's request. -/
def hardwareRequest (u : Sdu) (src : SoundSource) (snd : Sounder) (pattern : Fin 16) : SoundRequest :=
  { source := src
    sounder := snd
    pattern := pattern
    priority := hardwarePriority src
    repeats := if src = .matrix then none else repeatsOf u.patterns[pattern].repeats }

/-- R167: a hardware add; an empty pattern, or no room, keeps it out (log 19). One that joins reports a
structural change of SOUND, at CONFIG_COMMIT too (log 33). -/
def Sdu.hardwareAdd (cfg : Settings) (src : SoundSource) (snd : Sounder) (pattern : Fin 16) (u : Sdu) :
    Sdu × List Instr :=
  if u.patterns[pattern].steps.isEmpty then
    ({ u with lastEvent := some ⟨.emptyPattern, src, snd⟩ }, [.noticeRaise .soundDropped])
  else match u.offer cfg (hardwareRequest u src snd pattern) with
    | some r => (r.1, .structuralChangeReport .sound :: r.2)
    | none =>
      ({ u with lastEvent := some ⟨.dropped, src, snd⟩ },
        [.structuralChangeReport .sound, .noticeRaise .soundDropped])

/-- R167, R13: a hardware removal; one that finds no request changes nothing. -/
def Sdu.hardwareRemove (cfg : Settings) (src : SoundSource) (snd : Sounder) (u : Sdu) :
    Sdu × List Instr :=
  if (findRequest u.requests src snd).isSome then
    let r := u.remove cfg src snd
    (r.1, .structuralChangeReport .sound :: r.2)
  else (u, [])

/-- What a hardware source asks for: its name, a sounder and a pattern. -/
abbrev SoundOffer := SoundSource × Sounder × Fin 16

/-- R167, R169: offers made one after the other, each on the list that those before it leave. -/
def Sdu.addAll (cfg : Settings) : List SoundOffer → Sdu → Sdu × List Instr
  | [], u => (u, [])
  | (src, snd, pattern) :: rest, u =>
    let r := u.hardwareAdd cfg src snd pattern
    let t := Sdu.addAll cfg rest r.1
    (t.1, r.2 ++ t.2)

/-- R167: the two LOCKDOWN requests, BUZZER_A first. -/
def lockdownOffers (cfg : Settings) : List SoundOffer :=
  [(.lockdown, .buzzerA, cfg.uses.lockdown), (.lockdown, .buzzerB, cfg.uses.lockdown)]

def Sdu.removeLockdown (cfg : Settings) (u : Sdu) : Sdu × List Instr :=
  let r := u.hardwareRemove cfg .lockdown .buzzerA
  let t := r.1.hardwareRemove cfg .lockdown .buzzerB
  (t.1, r.2 ++ t.2)

/-- R51, R167, R169: the value of HORN_DIRECT or BELL_DIRECT is recorded. -/
def Sdu.recordDirect (k : DirectSound) (value : Bool) (u : Sdu) : Sdu :=
  match k with
  | .horn => { u with hornDirect := value }
  | .bell => { u with bellDirect := value }

def directSounder : DirectSound → Sounder
  | .horn => .horn
  | .bell => .bell

def directPattern (cfg : Settings) : DirectSound → Fin 16
  | .horn => cfg.uses.hornDirect
  | .bell => cfg.uses.bellDirect

/-- R167: a direct sound permit event outside CONFIGURING. -/
def Sdu.direct (cfg : Settings) (k : DirectSound) (value : Bool) (u : Sdu) : Sdu × List Instr :=
  let u := u.recordDirect k value
  if value then u.hardwareAdd cfg .matrix (directSounder k) (directPattern cfg k)
  else u.hardwareRemove cfg .matrix (directSounder k)

/-! ### Teardown, RECONFIGURE, CONFIG_COMMIT (R169) -/

/-- R169: the requests the teardown of a desk's authority removes. -/
def tornDown (former : Desk) (q : SoundRequest) : Bool :=
  match q.source with
  | .deskA => true
  | .deskB => true
  | .vigilance => q.sounder == deskBuzzer former
  | .pointGuard => q.sounder == deskBuzzer former
  | .stopUnit => q.sounder == deskBuzzer former
  | .supervisor => false
  | .location => false
  | .matrix => false
  | .lockdown => false

/-- R168: each sounder whose playing request has left the list is handed on. -/
def Sdu.freeLost (cfg : Settings) : List Sounder → Sdu → Sdu × List Instr
  | [], u => (u, [])
  | snd :: rest, u =>
    let r := if (player u snd).playing.isSome && (playingRequest u snd).isNone then u.free cfg snd
      else (u, [])
    let t := Sdu.freeLost cfg rest r.1
    (t.1, r.2 ++ t.2)

/-- R169: the NO_DESK event. -/
def Sdu.teardown (cfg : Settings) (former : Desk) (u : Sdu) : Sdu × List Instr :=
  { u with requests := u.requests.filter fun q => !tornDown former q }.freeLost cfg allSounders

/-- R169: RECONFIGURE empties the list and idles every player. -/
def Sdu.reconfigure (u : Sdu) : Sdu :=
  { u with requests := [], players := u.players.map idlePlayer }

/-- R169: what the unit offers at CONFIG_COMMIT, in its order. -/
def commitOffers (cfg : Settings) (u : Sdu) : List SoundOffer :=
  (if u.hornDirect then [(.matrix, .horn, cfg.uses.hornDirect)] else [])
    ++ (if u.bellDirect then [(.matrix, .bell, cfg.uses.bellDirect)] else [])
    ++ (if u.lockView = .held then lockdownOffers cfg else [])

/-- R169: the offers of CONFIG_COMMIT. Each offer is a hardware add, so each that
changes the list reports a structural change of SOUND (R13); R9 and R189 leave the slots as they stand, and the
report empties those naming SOUND in a step after the commit's own (log 33). -/
def Sdu.commit (cfg : Settings) (u : Sdu) : Sdu × List Instr := u.addAll cfg (commitOffers cfg u)

/-- R176, R167, R169: a change of the lockdown state taken outside CONFIGURING. -/
def Sdu.lockdown (cfg : Settings) (view : LockState) (u : Sdu) : Sdu × List Instr :=
  let u := { u with lockView := view }
  match view with
  | .held => u.addAll cfg (lockdownOffers cfg)
  | .clear => u.removeLockdown cfg

/-! ### Words (R20, R171) -/

/-- R162: the words of the sound list. -/
def listWords (w : StoreWord) : Bool :=
  match w with
  | .request _ _ _ => true
  | .field _ _ => false
  | .entry _ _ _ => false
  | .active _ _ _ => false
  | .cancel _ _ => false
  | .notice _ _ => false

/-- R158: the word of a sounder's player. -/
def playerWord (snd : Sounder) (w : StoreWord) : Bool := w == .field .sound (sounderIndex snd).val

/-- R159: the words of a pattern. -/
def patternWords (pattern : Fin 16) (w : StoreWord) : Bool :=
  match w with
  | .entry r i _ => r == .patterns && i == pattern.val
  | .field _ _ => false
  | .active _ _ _ => false
  | .cancel _ _ => false
  | .request _ _ _ => false
  | .notice _ _ => false

/-- R161, R171: the strike width, used where a strike of BELL begins; the unit is as the event at the sounder
leaves it. -/
def strikeReads (after : Sdu) (snd : Sounder) (w : StoreWord) : Bool :=
  snd == .bell && (player after .bell).strike.isSome && settingWords [.strikeWidth] w

/-- R168: the highest priority among the requests for a sounder is shared, so its tie mode decides. -/
def tieDecides (u : Sdu) (snd : Sounder) : Bool :=
  let l := u.requests.filter fun q => q.sounder == snd
  decide (1 < (l.filter fun q => q.priority == topPriority l).length)

/-- R168: the request the arbiter takes at a freed sounder. -/
def nextAt (cfg : Settings) (u : Sdu) (snd : Sounder) : Option SoundRequest :=
  chooseNext cfg.tieModes[sounderIndex snd] (player u snd).lastSource (u.requests.filter fun q => q.sounder == snd)

/-- R168, R171: the words that handing a freed sounder on reads beside the list: its player, its tie mode where that
decides, and the pattern and the strike of the request taken. -/
def freeReads (cfg : Settings) (u : Sdu) (snd : Sounder) (w : StoreWord) : Bool :=
  playerWord snd w || (tieDecides u snd && settingWords [.tieMode snd] w)
    || (nextAt cfg u snd).any (fun q => patternWords q.pattern w) || strikeReads (u.free cfg snd).1 snd w

/-- R168, R171: the words that a joining request reads beside the list and its pattern: the player it competes with,
and the strike it begins. -/
def joinReads (cfg : Settings) (u : Sdu) (q : SoundRequest) (w : StoreWord) : Bool :=
  playerWord q.sounder w
    || (player (u.join cfg q).1 q.sounder).playing == some q.source && strikeReads (u.join cfg q).1 q.sounder w

/-- R165, R167, R171: the words that taking a source's request off a sounder reads: the list, and where the request
was PLAYING what handing the sounder on reads. -/
def removeReads (cfg : Settings) (u : Sdu) (src : SoundSource) (snd : Sounder) (w : StoreWord) : Bool :=
  listWords w || ((findRequest u.requests src snd).isSome && (player u snd).playing == some src
    && freeReads cfg { u with requests := dropRequest u.requests src snd } snd w)

/-- R166, R171: the words that the request's way into the list reads beside the list and its pattern. -/
def roomReads (cfg : Settings) (u : Sdu) (q : SoundRequest) (w : StoreWord) : Bool :=
  if (findRequest u.requests q.source q.sounder).isSome then
    let l := dropRequest u.requests q.source q.sounder
    if (player u q.sounder).playing = some q.source then freeReads cfg { u with requests := l ++ [q] } q.sounder w
    else joinReads cfg { u with requests := l } q w
  else if u.requests.length < Config.soundCapacity then joinReads cfg u q w
  else match evictee u.requests q.priority with
    | some v => removeReads cfg u v.source v.sounder w || joinReads cfg (u.remove cfg v.source v.sounder).1 q w
    | none => false

/-- R164, R166, R171: the words that offering a request reads: its pattern, and where that is not empty the list and
what the request's way into it takes (log 8). -/
def offerReads (cfg : Settings) (u : Sdu) (q : SoundRequest) (w : StoreWord) : Bool :=
  patternWords q.pattern w
    || (!u.patterns[q.pattern].steps.isEmpty && (listWords w || roomReads cfg u q w))

/-- R167, R171: the words a hardware add reads. -/
def addReads (cfg : Settings) (u : Sdu) (src : SoundSource) (snd : Sounder) (pattern : Fin 16) : StoreWord → Bool :=
  offerReads cfg u (hardwareRequest u src snd pattern)

/-- R167, R169, R171: the words that offers made one after the other read, each on the list that those before it
leave. The fault of a bad word that several of them read is raised once: the model's choice (log 8). -/
def offersReads (cfg : Settings) : List SoundOffer → Sdu → StoreWord → Bool
  | [], _, _ => false
  | (src, snd, pattern) :: rest, u, w =>
    addReads cfg u src snd pattern w || offersReads cfg rest (u.hardwareAdd cfg src snd pattern).1 w

def directUse : DirectSound → SettingName
  | .horn => .hornDirectUse
  | .bell => .bellDirectUse

/-- R167, R171: the words a direct sound permit event reads. -/
def directReads (cfg : Settings) (k : DirectSound) (value : Bool) (u : Sdu) (w : StoreWord) : Bool :=
  if value then
    settingWords [directUse k] w || addReads cfg u .matrix (directSounder k) (directPattern cfg k) w
  else removeReads cfg u .matrix (directSounder k) w

/-- R169, R171: the settings a commit's offers use. -/
def commitUses (u : Sdu) : List SettingName :=
  (if u.hornDirect then [.hornDirectUse] else []) ++ (if u.bellDirect then [.bellDirectUse] else [])
    ++ (if u.lockView = .held then [.lockdownUse] else [])

/-- R169, R171: the words a commit's offers read; with nothing to offer none. -/
def commitSoundReads (cfg : Settings) (u : Sdu) (w : StoreWord) : Bool :=
  settingWords (commitUses u) w || offersReads cfg (commitOffers cfg u) u w

/-- R167, R169, R171: the words a change of the lockdown state reads, with the two LOCKDOWN requests. The two adds, or
the two removals, raise the fault of a bad word that both read once: the model's choice (log 8). -/
def lockdownReads (cfg : Settings) (view : LockState) (u : Sdu) (w : StoreWord) : Bool :=
  match view with
  | .held => settingWords [.lockdownUse] w || offersReads cfg (lockdownOffers cfg) u w
  | .clear =>
    removeReads cfg u .lockdown .buzzerA w
      || removeReads cfg (u.hardwareRemove cfg .lockdown .buzzerA).1 .lockdown .buzzerB w

/-- R169, R171: the words the teardown reads: the list, and what handing on the sounders it frees reads. -/
def sduTeardownReads (cfg : Settings) (former : Desk) (u : Sdu) (w : StoreWord) : Bool :=
  listWords w || allSounders.any fun snd => (playingRequest u snd).any (tornDown former)
    && freeReads cfg { u with requests := u.requests.filter fun q => !tornDown former q } snd w

/-- R160: the playing request of the sounder leaves the list as the phase timer expires. -/
def finishes (cfg : Settings) (u : Sdu) (snd : Sounder) (q : SoundRequest) : Bool :=
  (findRequest (u.phaseExpiry cfg snd).1.requests q.source snd).isNone

/-- R160, R168, R171: the words a phase change reads: the list, the player, the pattern it plays, and the strike that
begins; where the request finishes, what handing the sounder on reads. -/
def phaseReads (cfg : Settings) (u : Sdu) (snd : Sounder) (w : StoreWord) : Bool :=
  listWords w || playerWord snd w || (playingRequest u snd).any fun q => patternWords q.pattern w
    || (if finishes cfg u snd q then
          freeReads cfg { u with requests := dropRequest u.requests q.source snd } snd w
        else strikeReads (u.phaseExpiry cfg snd).1 snd w)

/-! ### Words stored anew, whether or not their value changes (R171, log 8) -/

/-- R160, R166, R168: the words that a hardware add stores: the request that joins, and where it begins to play the
sounder's player. -/
def addWritten (cfg : Settings) (u : Sdu) (src : SoundSource) (snd : Sounder) (pattern : Fin 16) (w : StoreWord) :
    Bool :=
  !u.patterns[pattern].steps.isEmpty && (u.offer cfg (hardwareRequest u src snd pattern)).any fun r =>
    (playerWord snd w && (player r.1 snd).playing == some src)
      || match w with
         | .request x y _ => x == src && y == snd
         | .field _ _ => false
         | .entry _ _ _ => false
         | .active _ _ _ => false
         | .cancel _ _ => false
         | .notice _ _ => false

/-- R167, R169: the words that offers made one after the other store. -/
def offersWritten (cfg : Settings) : List SoundOffer → Sdu → StoreWord → Bool
  | [], _, _ => false
  | (src, snd, pattern) :: rest, u, w =>
    addWritten cfg u src snd pattern w || offersWritten cfg rest (u.hardwareAdd cfg src snd pattern).1 w

/-- R167: the words a direct sound permit event stores. -/
def directWritten (cfg : Settings) (k : DirectSound) (value : Bool) (u : Sdu) (w : StoreWord) : Bool :=
  value && addWritten cfg u .matrix (directSounder k) (directPattern cfg k) w

/-- R176: the words a change of the lockdown state stores. -/
def lockdownWritten (cfg : Settings) (view : LockState) (u : Sdu) (w : StoreWord) : Bool :=
  view == .held && offersWritten cfg (lockdownOffers cfg) u w

/-- R160: the player of the sounder enters another phase. -/
def phaseWritten (u : Sdu) (snd : Sounder) (w : StoreWord) : Bool :=
  (playingRequest u snd).isSome && playerWord snd w

/-- R169: the players, each of which RECONFIGURE leaves idle. -/
def playersWritten (w : StoreWord) : Bool := allSounders.any fun snd => playerWord snd w

/-- R53, R55: the words of the active line table that the LMU reads as the sounders' drives change: the
entries of the lines that follow a sounder whose drive changes. -/
def driveReads (s : State) (x : Sdu) : StoreWord → Bool
  | .active r i _ => r == .lines &&
      (match s.lmu.active.lines[i]? with
       | some e =>
         e.group == .sounderOutput && sounderDrive s.sdu e.sounder != sounderDrive x e.sounder
       | none => false)
  | .field _ _ => false
  | .entry _ _ _ => false
  | .cancel _ _ => false
  | .request _ _ _ => false
  | .notice _ _ => false

/-- R55: the faults of the bad words met while lines are driven to a new sounder drive. -/
def driveFaults (s : State) (x : Sdu) : List Instr := parityFaults s .lmu (driveReads s x) none

/-- The sound unit's new state, with what it hands on and the faults of the lines it drives. -/
def State.sound (s : State) (x : Sdu) (out : List Instr) : State := s.putSdu x (out ++ driveFaults s x)

/-- An event of the SDU at the state. -/
def State.sduEvent (s : State) (reads : StoreWord → Bool) (r : Sdu × List Instr) : State :=
  s.sound r.1 (parityFaults s .sdu reads none ++ r.2)

/-! ### SOUND_START and SOUND_STOP (R164, R165) -/

/-- R164 check 2: the port's authority over a sounder. -/
def mayUse (desk : DeskState) (p : Port) (snd : Sounder) : Bool :=
  match portDesk p with
  | none => true
  | some d =>
    snd == deskBuzzer d
      || ((snd == .horn || snd == .bell) && deskHolder desk == some d)

/-- R164: the request a SOUND_START offers; a priority above 5 is taken as 5. -/
def portRequest (p : Port) (a : StartArgs) : SoundRequest :=
  { source := portSource p
    sounder := a.sounder
    pattern := a.pattern
    priority := min a.priority 5
    repeats := repeatsOf a.repeats }

/-- SOUND_START at the SDU (R164, R171). -/
def soundStartAnswer (p : Port) (args : List Byte) (s : State) : Answer :=
  match readAll getStartArgs args with
  | none => .refuse s .outOfRange
  | some a =>
    let reads := offerReads s.settings s.sdu (portRequest p a)
    if !mayUse s.dau.state p a.sounder then .refuse s .notAuthorised
    else if meetsBad s reads then .storeError s .sdu reads
    else if s.sdu.patterns[a.pattern].steps.isEmpty then .refuse s .badPattern
    else match s.sdu.offer s.settings (portRequest p a) with
      | some r => ⟨s.sound r.1 r.2, .done [], true⟩
      | none => .refuse s .listFull

/-- SOUND_STOP at the SDU (R165, R171). -/
def soundStopAnswer (p : Port) (args : List Byte) (s : State) : Answer :=
  match readAll (getEnum allSounders) args with
  | none => .refuse s .outOfRange
  | some snd =>
    let reads := removeReads s.settings s.sdu (portSource p) snd
    if meetsBad s reads then .storeError s .sdu reads
    else if (findRequest s.sdu.requests (portSource p) snd).isSome then
      let r := s.sdu.remove s.settings (portSource p) snd
      ⟨s.sound r.1 r.2, .done [], true⟩
    else ⟨s, .done [], false⟩

/-! ### The unit's rows -/

/-- HARDWARE_SOUND_ADD (R167); disregarded in CONFIGURING (R169). -/
def execHardwareSoundAdd (src : SoundSource) (snd : Sounder) (pattern : Fin 16) (s : State) :
    Host.Outcome State Fault Refusal :=
  let s := s.take (.hardwareSoundAdd src snd pattern)
  match s.rst.mode with
  | .configuring => .next s
  | .service =>
    .next ((s.sduEvent (addReads s.settings s.sdu src snd pattern)
      (s.sdu.hardwareAdd s.settings src snd pattern)).rewrite (addWritten s.settings s.sdu src snd pattern))

/-- HARDWARE_SOUND_REMOVE (R167); disregarded in CONFIGURING (R169). -/
def execHardwareSoundRemove (src : SoundSource) (snd : Sounder) (s : State) :
    Host.Outcome State Fault Refusal :=
  let s := s.take (.hardwareSoundRemove src snd)
  match s.rst.mode with
  | .configuring => .next s
  | .service =>
    .next (s.sduEvent (removeReads s.settings s.sdu src snd) (s.sdu.hardwareRemove s.settings src snd))

/-- DIRECT_SOUND_PERMIT_EVENT (R51, R167): recorded in both modes, acted on in SERVICE (R169). -/
def execDirectSoundPermitEvent (k : DirectSound) (value : Bool) (s : State) :
    Host.Outcome State Fault Refusal :=
  let s := s.take (.directSoundPermitEvent k value)
  match s.rst.mode with
  | .configuring => .next (s.putSdu (s.sdu.recordDirect k value) [])
  | .service =>
    .next ((s.sduEvent (directReads s.settings k value s.sdu) (s.sdu.direct s.settings k value)).rewrite
      (directWritten s.settings k value s.sdu))

/-- PHASE_TIMER_EXPIRY (R160). -/
def execPhaseTimerExpiry (snd : Sounder) (s : State) : Host.Outcome State Fault Refusal :=
  let s := s.take (.phaseTimerExpiry snd)
  match (player s.sdu snd).timer with
  | some _ =>
    .next ((s.sduEvent (phaseReads s.settings s.sdu snd) (s.sdu.phaseExpiry s.settings snd)).rewrite
      (phaseWritten s.sdu snd))
  | none => .next s

/-- R161: the strike width passes. -/
def Sdu.strikeEnd (u : Sdu) : Sdu := setPlayer u .bell { player u .bell with strike := none }

/-- STRIKE_END (R161): BELL is off for the rest of the step. -/
def execStrikeEnd (s : State) : Host.Outcome State Fault Refusal :=
  let s := s.take .strikeEnd
  .next (s.sound s.sdu.strikeEnd [])

end Sys2Proof.Machine
end

