-- ==== Sys2Proof/Machine/Sru.lean ====
section
/-! DEFINITION. The stop request unit (chapter 8): polling, the station table, presses, the stop record
and platform zones, and the meanings of the rows that are the unit's own events. -/

namespace Sys2Proof.Machine

/-! ### The latch (R147) -/

/-- R147: a change of the latch publishes STOP_LATCHED. -/
def latchCondition (old new : Sru) : List Instr :=
  if latchSet old = latchSet new then [] else [.conditionChange .stopLatched (latchSet new)]

/-- R147, R13: a change of the latch made by anything but a port's command is a structural change. -/
def latchReport (old new : Sru) : List Instr :=
  if latchSet old = latchSet new then [] else [.structuralChangeReport .stops]

/-! ### Sounds (R155) -/

/-- R155: a STOP_UNIT request on the active desk's buzzer; with no active desk none is handed on. -/
def stopBuzzer (desk : DeskState) (pattern : Fin 16) : List Instr :=
  match deskHolder desk with
  | some d => [.hardwareSoundAdd .stopUnit (deskBuzzer d) pattern]
  | none => []

/-! ### Presses (R148, R154) -/

/-- R148: the list after a press with AT_STOP false. -/
def pressedList (l : List StopEntry) (station : Nat) (kind : StopKind) : List StopEntry :=
  match l.find? fun e => e.station == station with
  | none => l ++ [⟨station, kind⟩]
  | some e =>
    if e.kind = .stop ∧ kind = .wheelchair then
      l.map fun x => if x.station = station then { x with kind := .wheelchair } else x
    else l

/-- R154: the zone is open with decision PASS_AHEAD, so a press that changes the list makes a late decision
for its platform. -/
def lateZone (u : Sru) : Option Nat :=
  match u.zone with
  | some z => if u.decision = .passAhead then some z.platform else none
  | none => none

/-- R148's steps 1 to 4, after the press has changed the list. -/
def Sru.pressed (desk : DeskState) (cfg : Settings) (station : Nat) (new : List StopEntry) (u : Sru) :
    Sru × List Instr :=
  let latches := u.list.isEmpty
  let firstChair := holdsWheelchair new && !holdsWheelchair u.list
  let u1 := { u with list := new }
  let u2 := if latches then { u1 with lastStop := some (.latched, station) } else u1
  let latchOut : List Instr :=
    if latches then
      [.conditionChange .stopLatched true, .noticeRaise .stopRequest,
        .hardwareSoundAdd .stopUnit .chime cfg.uses.stopChime]
    else []
  match lateZone u with
  | some p =>
    ({ u2 with decision := .stopAhead, lastStop := some (.late, p) },
      latchOut ++ [.noticeRaise .stopDecision, .lateDecisionReport p]
        ++ stopBuzzer desk cfg.uses.lateStop)
  | none =>
    (u2, latchOut ++ (if firstChair then stopBuzzer desk cfg.uses.wheelchair else []))

/-- R155, R171: the settings a press uses: the patterns of the sounds it hands on. -/
def pressUses (desk : DeskState) (station : Nat) (kind : StopKind) (u : Sru) : List SettingName :=
  let new := pressedList u.list station kind
  if u.atStop || new == u.list then []
  else
    (if u.list.isEmpty then [.stopChimeUse] else [])
      ++ (if (deskHolder desk).isNone then []
          else if (lateZone u).isSome then [.lateStopUse]
          else if holdsWheelchair new && !holdsWheelchair u.list then [.wheelchairUse] else [])

/-- R148: a press. -/
def Sru.press (desk : DeskState) (cfg : Settings) (station : Nat) (kind : StopKind) (u : Sru) :
    Sru × List Instr :=
  if u.atStop then
    match kind with
    | .stop => (u, [])
    | .wheelchair =>
      ({ u with lastStop := some (.wheelchairAtStop, station) }, [.noticeRaise .stopRequest])
  else
    let new := pressedList u.list station kind
    if new = u.list then (u, []) else u.pressed desk cfg station new

/-! ### Clearing (R150, R151) -/

/-- R150: the stop record is cleared; an open zone stays open. -/
def Sru.clear (u : Sru) : Sru :=
  match u.zone with
  | some _ => { u with list := [], decision := .none, stoppedInZone := true }
  | none => { u with list := [] }

/-- R151: the stop record is cleared entirely. -/
def Sru.clearAll (u : Sru) : Sru :=
  { u with list := [], zone := none, decision := .none, stoppedInZone := false }

/-! ### Zones (R152, R153) -/

/-- R152. -/
def Sru.zoneEnter (desk : DeskState) (cfg : Settings) (p : Nat) (mandatory : Bool) (u : Sru) :
    Sru × List Instr :=
  let stops := latchSet u || mandatory
  ({ u with
     zone := some ⟨p, mandatory⟩
     stoppedInZone := false
     decision := if stops then .stopAhead else .passAhead
     lastStop := some (.decided, p) },
    .noticeRaise .stopDecision :: (if stops then stopBuzzer desk cfg.uses.stopAhead else []))

/-- R153: the stop was missed. -/
def stopMissed (u : Sru) : Bool := u.decision == .stopAhead && !u.stoppedInZone && latchSet u

/-- R153. -/
def Sru.zoneLeave (p : Nat) (u : Sru) : Sru × List Instr :=
  match u.zone with
  | none => (u, [])
  | some z =>
    if z.platform = p then
      ({ u with
         zone := none
         decision := .none
         stoppedInZone := false
         lastStop := if stopMissed u then some (.missed, p) else u.lastStop },
        if stopMissed u then [.noticeRaise .stopDecision] else [])
    else (u, [])

/-! ### Polling (R143) -/

/-- Station addresses are 1..24; the table's index is the address less one (R1). -/
def stationAt (u : Sru) (address : Nat) : Option Station := u.stations[address - 1]?

def putStation (u : Sru) (address : Nat) (t : Station) : Sru :=
  if h : address - 1 < 24 then { u with stations := u.stations.set (address - 1) t h } else u

/-- R143, R145: the frame of a poll of an address, composed from what stands; the acknowledge due is the station's,
one that a poll overtaken by RECONFIGURE left yes included (log 39). -/
def composePoll (address : Nat) (u : Sru) : Poll :=
  ⟨address, ((stationAt u address).map (·.ackDue)).getD false, lampCommand u.list⟩

/-- R142, R143: the poll of an address begins: its frame is composed, and its characters go on the line, behind those
of a poll that RECONFIGURE overtook and that is still being completed (log 18). -/
def Sru.beginPoll (address : Nat) (u : Sru) : Sru :=
  { u with
    pollState := .sending
    address := address
    replyTimer := none
    poll := some (composePoll address u)
    driven := u.driven ++ [pollLine (composePoll address u)]
    ours := false
    quiet := 0
    got := [] }

/-- R143: polling starts at station 1, where the loop has a station. -/
def Sru.startPolling (cfg : Settings) (u : Sru) : Sru :=
  if cfg.stationCount = 0 then u else u.beginPoll 1

/-- R143: the next address, after the station count 1 again. -/
def addressAfter (cfg : Settings) (u : Sru) : Nat :=
  if cfg.stationCount ≤ u.address then 1 else u.address + 1

/-- R143: the next poll goes to the next address. -/
def Sru.nextPoll (cfg : Settings) (u : Sru) : Sru := u.beginPoll (addressAfter cfg u)

/-- R143, R190: polling stops; a poll being sent is completed, so the line goes on being driven. The station table
is kept, with the acknowledge due of the station whose poll was overtaken (R141, log 39). -/
def Sru.stopPolling (u : Sru) : Sru :=
  { u with pollState := .stopped, replyTimer := none, ours := false, quiet := 0, got := [] }

/-! ### Replies (R144 to R146) -/

/-- R146 steps 1 to 3, at the station's entry. -/
def stationGood (r : Reply) (_t : Station) : Station := ⟨.present, 0, r.fault, true⟩

/-- R146 steps 2 and 3: the health event of a good reply; a fault change shows over a recovery. -/
def goodHealth (r : Reply) (t : Station) : Option HealthEvent :=
  if r.fault = t.fault then (if t.health = .absent then some .recovered else none)
  else some (if r.fault then .faultSet else .faultCleared)

/-- R146: the health of an entry with so many misses. -/
def missedHealth (misses : Nat) : Health := if 3 ≤ misses then .absent else .suspect

/-- R146: a bad reply at the station's entry. -/
def stationBad (t : Station) : Station :=
  ⟨missedHealth (min 3 (t.misses + 1)), min 3 (t.misses + 1), t.fault, false⟩

def badHealth (t : Station) : Option HealthEvent :=
  if (stationBad t).health = .absent ∧ t.health ≠ .absent then some .absent else none

/-- R146: the last health event and the notice STATION_HEALTH, where there is one. -/
def noteHealth (u : Sru) (e : Option HealthEvent) : Sru × List Instr :=
  match e with
  | some h => ({ u with lastHealth := some (u.address, h) }, [.noticeRaise .stationHealth])
  | none => (u, [])

/-- R146 step 4: the press a reply hands on. -/
def replyPress (r : Reply) : Option StopKind :=
  if r.wheelchair then some .wheelchair else if r.stop then some .stop else none

/-- R146: a good reply of the polled station. -/
def Sru.goodReply (desk : DeskState) (cfg : Settings) (r : Reply) (u : Sru) : Sru × List Instr :=
  match stationAt u u.address with
  | none => (u, [])
  | some t =>
    let h := noteHealth (putStation u u.address (stationGood r t)) (goodHealth r t)
    match replyPress r with
    | some k =>
      let q := h.1.press desk cfg u.address k
      (q.1, h.2 ++ latchReport u q.1 ++ q.2)
    | none => h

/-- R146: a bad reply of the polled station. -/
def Sru.badReply (u : Sru) : Sru × List Instr :=
  match stationAt u u.address with
  | none => (u, [])
  | some t => noteHealth (putStation u u.address (stationBad t)) (badHealth t)

/-- R144: characters that find no reply awaited are counted. -/
def Sru.countUnsolicited (n : Nat) (u : Sru) : Sru :=
  { u with unsolicited := min Config.countTop (u.unsolicited + n) }

/-! ### The receiver of the loop (R142 to R144, log 18) -/

/-- R142: what a sample point brings: nothing, a start bit taken, or a character's end with its octet and
whether it came without a parity or framing error. -/
inductive LineEvent where
  | none
  | start
  | char (octet : Byte) (intact : Bool)
deriving DecidableEq, Repr

/-- R142: one sample point. A departure from idle is tested at its mid-sample, point 8 of 16; each bit of a
taken character is read 16 points after the one before. A line still away from idle at the first point after a
character's end is taken as a new departure, with no idle point between: the model's choice (log 18). -/
def LineReceiver.sample (away : Bool) (r : LineReceiver) : LineReceiver × LineEvent :=
  match r.bits with
  | some bits =>
    if 1 < r.wait then ({ r with wait := r.wait - 1 }, .none)
    else
      let read := bits ++ [away]
      if read.length < 10 then ({ r with bits := some read, wait := 16 }, .none)
      else (⟨0, none, 0⟩, .char (lineOctet read) (lineIntact read))
  | none =>
    if r.away = 0 then ({ r with away := if away then 1 else 0 }, .none)
    else if r.away < 8 then ({ r with away := r.away + 1 }, .none)
    else if away then (⟨0, some [], 16⟩, .start)
    else ({ r with away := 0 }, .none)

/-- R144: how the reply awaited ended. -/
inductive ReplyEnd where
  | good (r : Reply)
  | bad
deriving DecidableEq, Repr

/-- R143, R144: a start bit is taken; it begins the reply awaited or goes on with it, or no reply is awaited. -/
def Sru.startTaken (u : Sru) : Sru :=
  match u.pollState with
  | .awaiting => { u with pollState := .receiving, replyTimer := none, ours := true, got := [] }
  | .receiving => { u with ours := true }
  | .stopped => { u with ours := false }
  | .sending => { u with ours := false }

/-- R144: a character has come, for the reply awaited or for none. -/
def Sru.charTaken (octet : Byte) (intact : Bool) (u : Sru) : Sru × Option ReplyEnd :=
  if u.ours && u.pollState == .receiving then
    let got := u.got ++ [octet]
    if replyFails u.address got intact then (u, some .bad)
    else if got.length = 3 then (u, some (.good (replyFlags (got.getD 1 0))))
    else ({ u with got := got, ours := false, quiet := 0 }, none)
  else (u.countUnsolicited 1, none)

/-- R143: the sample points from the mid-sample of a stop bit to the end of one character time after that bit:
the 7 left of the stop bit, and 16 in each of 11 bit periods. -/
def charGap : Nat := 183

/-- R143, R144: a sample point that brings nothing; between the characters of a reply it counts toward the time
in which the next must begin. -/
def Sru.quietPoint (u : Sru) : Sru × Option ReplyEnd :=
  if u.pollState == .receiving && u.line.bits.isNone then
    if u.quiet + 1 < charGap then ({ u with quiet := u.quiet + 1 }, none) else (u, some .bad)
  else (u, none)

/-- R142 to R144: one sample point of the loop at the unit. -/
def Sru.lineSample (away : Bool) (u : Sru) : Sru × Option ReplyEnd :=
  let r := u.line.sample away
  let u := { u with line := r.1 }
  match r.2 with
  | .none => u.quietPoint
  | .start => (u.startTaken, none)
  | .char octet intact => u.charTaken octet intact

/-! ### Words (R20, R157) -/

/-- R147, R157: the words of the stop record; the last stop event, which a whole read of STOPS also returns, is none of
them (R141). -/
def stopWords : StoreWord → Bool := fieldWords .stops [0, 1, 2, 3]

/-- R152, R155: the words a zone entry reads. -/
def zoneReads (desk : DeskState) (mandatory : Bool) (u : Sru) (w : StoreWord) : Bool :=
  stopWords w
    || ((latchSet u || mandatory) && (deskHolder desk).isSome && settingWords [.stopAheadUse] w)

/-- R143: the words the composition of a poll reads: the stop list and the station's acknowledge due. -/
def pollReads (address : Nat) (w : StoreWord) : Bool :=
  fieldWords .stops [0] w || entryWords .stations (address - 1) [3] w

/-- R143, R157: the words the choice and the composition of the next poll read. -/
def nextReads (cfg : Settings) (u : Sru) (w : StoreWord) : Bool :=
  settingWords [.stationCount] w || pollReads (addressAfter cfg u) w

/-- R146: the words of the polled station's entry that the end of a reply writes. A good reply is taken to store the
health and the fault, and a bad one the health, with good parity even where R146 leaves the value as it is: the
model's choice (log 8). -/
def replyWritten (u : Sru) : ReplyEnd → StoreWord → Bool
  | .good _ => entryWords .stations (u.address - 1) [0, 1, 2, 3]
  | .bad => entryWords .stations (u.address - 1) [0, 1, 3]

/-- R146, R148: the words a reply reads of the polled station's entry, and of the stop record for a press. -/
def ownReplyReads (desk : DeskState) (u : Sru) (e : ReplyEnd) (w : StoreWord) : Bool :=
  match e with
  | .bad => entryWords .stations (u.address - 1) [0, 1] w
  | .good r => entryWords .stations (u.address - 1) [0, 2] w
      || (match replyPress r with
          | some k => stopWords w || settingWords (pressUses desk u.address k u) w
          | none => false)

/-- The words the end of a reply reads; those it has just written are good when the next poll reads them. -/
def replyReads (desk : DeskState) (cfg : Settings) (u : Sru) (e : ReplyEnd) (w : StoreWord) : Bool :=
  ownReplyReads desk u e w || (nextReads cfg u w && !replyWritten u e w)

/-- An event of the SRU at the state. -/
def State.sruEvent (s : State) (reads : StoreWord → Bool) (r : Sru × List Instr) : State :=
  s.putSru r.1 (parityFaults s .sru reads none ++ r.2)

/-- R144, R146: the end of a reply at the unit, and the next poll. -/
def Sru.replyEnds (desk : DeskState) (cfg : Settings) (e : ReplyEnd) (u : Sru) : Sru × List Instr :=
  let r := match e with
    | .good g => u.goodReply desk cfg g
    | .bad => u.badReply
  (r.1.nextPoll cfg, r.2)

/-- R144, R146: the end of a reply at the state. -/
def State.endReply (s : State) (e : ReplyEnd) : State :=
  (s.sruEvent (replyReads s.dau.state s.settings s.sru e)
    (s.sru.replyEnds s.dau.state s.settings e)).rewrite (replyWritten s.sru e)

/-- R142 to R146: one sample point of the loop. -/
def State.loopSample (s : State) (away : Bool) : State :=
  let r := s.sru.lineSample away
  match r.2 with
  | none => s.putSru r.1 []
  | some e => (s.putSru r.1 []).endReply e

/-- R142 to R146: successive sample points of the loop (log 18). -/
def State.listen (s : State) (heard : List Bool) : State := heard.foldl State.loopSample s

/-! ### Commands (R149, R150) -/

/-- R147, R12: the request changes STOPS for reservations exactly when the latch changes. -/
def latchChanges (x y : Sru) : Bool := latchSet x != latchSet y

/-- R149, R157: the words a STOP_SET of this kind reads. -/
def stopSetReads (s : State) (k : StopKind) (w : StoreWord) : Bool :=
  stopWords w || (!s.sru.atStop && settingWords (pressUses s.dau.state 0 k s.sru) w)

/-- STOP_SET at the SRU (R149). -/
def stopSetAnswer (args : List Byte) (s : State) : Answer :=
  match readAll (getEnum stopKindList) args with
  | some k =>
    if meetsBad s (stopSetReads s k) then .storeError s .sru (stopSetReads s k)
    else if s.sru.atStop then .refuse s .wrongState
    else
      let r := s.sru.press s.dau.state s.settings 0 k
      ⟨s.putSru r.1 r.2, .done [], latchChanges s.sru r.1⟩
  | none => .refuse s .outOfRange

/-- R150, R151: the words of the stop record that a clear writes; with the zone open also the decision and
stopped-in-zone. -/
def clearWritten (u : Sru) : StoreWord → Bool :=
  fieldWords .stops (if u.zone.isSome then [0, 2, 3] else [0])

/-- STOP_CLEAR at the SRU (R150). -/
def stopClearAnswer (args : List Byte) (s : State) : Answer :=
  match readAll getNothing args with
  | some _ =>
    if meetsBad s stopWords then .storeError s .sru stopWords
    else
      let u := s.sru.clear
      ⟨s.putSru u (latchCondition s.sru u), .done [], latchChanges s.sru u⟩
  | none => .refuse s .outOfRange

/-! ### The unit's rows -/

/-- R150, R51: an AT_STOP permit event; each delivery of true clears the record. -/
def Sru.atStopEvent (value : Bool) (u : Sru) : Sru × List Instr :=
  let u' := { u with atStop := value }
  if value then (u'.clear, latchReport u u'.clear ++ latchCondition u u'.clear) else (u', [])

/-- AT_STOP_EVENT (R51, R150). -/
def execAtStopEvent (value : Bool) (s : State) : Host.Outcome State Fault Refusal :=
  let s := s.take (.atStopEvent value)
  .next ((s.sruEvent (fun w => value && stopWords w) (s.sru.atStopEvent value)).rewrite fun w =>
    value && clearWritten s.sru w)

/-- STOP_ZONE_ENTER (R152); it writes the zone, the decision, stopped-in-zone and the last stop event. -/
def execStopZoneEnter (p : Nat) (mandatory : Bool) (s : State) : Host.Outcome State Fault Refusal :=
  let s := s.take (.stopZoneEnter p mandatory)
  .next ((s.sruEvent (zoneReads s.dau.state mandatory s.sru)
    (s.sru.zoneEnter s.dau.state s.settings p mandatory)).rewrite (fieldWords .stops [1, 2, 3, 4]))

/-- R153: the leave is of the open zone's platform. -/
def leavesZone (u : Sru) (p : Nat) : Bool :=
  match u.zone with
  | some z => z.platform == p
  | none => false

/-- STOP_ZONE_LEAVE (R153). -/
def execStopZoneLeave (p : Nat) (s : State) : Host.Outcome State Fault Refusal :=
  let s := s.take (.stopZoneLeave p)
  .next ((s.sruEvent stopWords (s.sru.zoneLeave p)).rewrite fun w =>
    leavesZone s.sru p && fieldWords .stops [1, 2, 3] w)

/-- R143: the last character of the poll being sent has gone. -/
def Sru.pollGone (u : Sru) : Sru := { u with driven := u.driven.tail }

/-- R143: the poll being sent is the one whose reply is awaited after it, and none that RECONFIGURE overtook. -/
def Sru.sendsOwnPoll (u : Sru) : Bool := u.pollState == .sending && decide (u.driven.length ≤ 1)

/-- POLL_END (R143); a poll that RECONFIGURE overtook is completed, and its reply is not awaited, whether or not the
first poll of a commit follows it on the line. -/
def execPollEnd (s : State) : Host.Outcome State Fault Refusal :=
  let s := s.take .pollEnd
  if s.sru.sendsOwnPoll then
    .next (s.sruEvent (settingWords [.replyTimeout])
      ({ s.sru.pollGone with pollState := .awaiting, replyTimer := some s.settings.replyTimeout }, []))
  else .next (s.putSru s.sru.pollGone [])

/-- GOOD_REPLY (R142 to R146): the loop at the sample points in which the reply comes (log 18). -/
def execGoodReply (heard : List Bool) (s : State) : Host.Outcome State Fault Refusal :=
  .next ((s.take (.goodReply heard)).listen heard)

/-- R144: the reply timer expires; a timer that is stopped does not. -/
def State.replyTimerExpiry (s : State) : State :=
  match s.sru.replyTimer with
  | some _ => s.endReply .bad
  | none => s

/-- BAD_REPLY (R142 to R146): the loop at the sample points in which the reply comes; with none, the reply
timer expires (log 18). -/
def execBadReply (heard : List Bool) (s : State) : Host.Outcome State Fault Refusal :=
  let s := s.take (.badReply heard)
  match heard with
  | [] => .next s.replyTimerExpiry
  | _ :: _ => .next (s.listen heard)

/-- UNSOLICITED_CHARACTER (R144). -/
def execUnsolicitedCharacter (s : State) : Host.Outcome State Fault Refusal :=
  let s := s.take .unsolicitedCharacter
  .next (s.putSru (s.sru.countUnsolicited 1) [])

end Sys2Proof.Machine
end

