-- ==== Sys2Proof/Machine/Tdu.lean ====
section
/-! DEFINITION. The traction demand unit (chapter 4): the ceiling table and the resume lock, direction,
frame composition, vigilance, the traction link, and the meanings of the rows that are the unit's own
events. -/

namespace Sys2Proof.Machine

/-! ### Ceilings and the resume lock (R59 to R63) -/

/-- R62: the active desk's lever is above 0; with no active desk there is no lever to read. -/
def leverPositive (desk : DeskState) (t : Tdu) : Bool :=
  match deskHolder desk with
  | some d => decide (0 < (t.demand.get d).lever)
  | none => false

/-- R62: the changes of an entry that set the lock while the lever is above 0: it becomes active at 0 or
below, or, already active, takes a lower value that is 0 or below. -/
def forcesLock (old new : CeilingEntry) : Bool :=
  new.active && decide (new.value ≤ 0) && (!old.active || decide (new.value < old.value))

/-- R59, R62: an entry of the table is set, with the resume lock rule. -/
def Tdu.setEntry (desk : DeskState) (c : CeilingSource) (new : CeilingEntry) (t : Tdu) : Tdu :=
  { t with
    ceilings := t.ceilings.set (ceilingIndex c) new
    lock := t.lock || (forcesLock t.ceilings[ceilingIndex c] new && leverPositive desk t) }

/-- R59: an entry becomes inactive and keeps the value it last held. -/
def Tdu.dropEntry (c : CeilingSource) (t : Tdu) : Tdu :=
  { t with ceilings := t.ceilings.set (ceilingIndex c) ⟨false, t.ceilings[ceilingIndex c].value⟩ }

/-- R60, R13: a change of the resume lock is a structural change of CEILINGS. -/
def lockReport (old new : Tdu) : List Instr :=
  if old.lock = new.lock then [] else [.structuralChangeReport .ceilings]

/-! ### Direction (R64, R65) -/

def selectorDirection : Selector → Option Direction
  | .forward => some .forward
  | .neutral => none
  | .reverse => some .reverse

/-- R64: the selector of desk `d` is compared with the taken direction. -/
def Tdu.compareDirection (desk : DeskState) (d : Desk) (t : Tdu) : Tdu :=
  match selectorDirection (t.demand.get d).selector with
  | none => t.setEntry desk .direction ⟨true, 0⟩
  | some dir =>
    if t.taken = some dir then t.dropEntry .direction
    else match t.motion with
      | .standstill => { t with taken := some dir }.dropEntry .direction
      | .moving => t.setEntry desk .direction ⟨true, 0⟩

/-- R65: the leading end is published when the taken direction has changed. -/
def publishTaken (desk : DeskState) (old new : Tdu) : List Instr :=
  if old.taken = new.taken then []
  else [.leadingEndPublished (leadingEndOf (deskHolder desk) new.taken)]

/-! ### Demand writes (R57, R58) -/

/-- R57: a taken write of desk `d`'s demand record. Step 5 is the lock rule of `setEntry`, which reads
the lever stored in step 1. -/
def Tdu.demandWrite (desk : DeskState) (cfg : Settings) (d : Desk) (new : Demand) (t : Tdu) : Tdu :=
  let t := { t with demand := t.demand.set d new, staleTimer := some cfg.staleTime }
  let t := t.dropEntry .stale
  let t := if new.lever ≤ 0 then { t with lock := false } else t
  t.compareDirection desk d

/-- R58: the stale timer expires; a timer that is stopped does not. -/
def Tdu.staleExpiry (desk : DeskState) (t : Tdu) : Tdu × List Instr :=
  match t.staleTimer with
  | none => (t, [])
  | some _ =>
    let t' := { t with staleTimer := none }.setEntry desk .stale ⟨true, 0⟩
    (t', .noticeRaise .demandStale :: lockReport t t')

/-- R58: the staleness supervision ends. -/
def Tdu.endStale (t : Tdu) : Tdu := { t with staleTimer := none }.dropEntry .stale

/-! ### Vigilance (R69 to R71) -/

/-- R71: the VIGILANCE request on the buzzer of desk `d`. -/
def addWarning (cfg : Settings) (d : Desk) : Instr :=
  .hardwareSoundAdd .vigilance (deskBuzzer d) cfg.uses.vigilance

def removeWarning (d : Desk) : Instr := .hardwareSoundRemove .vigilance (deskBuzzer d)

/-- R70: OFF and a moving report in ACTIVE_x. -/
def Tdu.moving (desk : DeskState) (cfg : Settings) (t : Tdu) : Tdu × List Instr :=
  let t := { t with motion := .moving }
  match desk with
  | .active d =>
    match t.vigilance with
    | .off =>
      if t.pedals.get d then ({ t with vigilance := .held }, [])
      else ({ t with vigilance := .warning, graceTimer := some cfg.graceTime }, [addWarning cfg d])
    | .held => (t, [])
    | .warning => (t, [])
    | .penalty => (t, [])
  | .releasing _ => (t, [])
  | .noDesk => (t, [])

/-- R70: a standstill report at the vigilance state. -/
def Tdu.standstillVigilance (desk : DeskState) (t : Tdu) : Tdu × List Instr :=
  match t.vigilance with
  | .off => (t, [])
  | .held => ({ t with vigilance := .off }, [])
  | .warning =>
    ({ t with vigilance := .off, graceTimer := none },
      (match deskHolder desk with
       | some d => [removeWarning d]
       | none => []))
  | .penalty => (t, [])

/-- R64, R70: a standstill report. -/
def Tdu.standstill (desk : DeskState) (t : Tdu) : Tdu × List Instr :=
  let r := { t with motion := .standstill }.standstillVigilance desk
  match deskHolder desk with
  | some d =>
    let t' := r.1.compareDirection desk d
    (t', r.2 ++ publishTaken desk t t' ++ lockReport t t')
  | none => (r.1, r.2)

/-- R69, R70: a VIGILANCE_A or VIGILANCE_B permit event. -/
def Tdu.pedal (desk : DeskState) (cfg : Settings) (d : Desk) (value : Bool) (t : Tdu) :
    Tdu × List Instr :=
  let t := { t with pedals := t.pedals.set d value }
  if desk = .active d then
    match t.vigilance with
    | .off => (t, [])
    | .held =>
      if value then (t, [])
      else ({ t with vigilance := .warning, graceTimer := some cfg.graceTime }, [addWarning cfg d])
    | .warning =>
      if value then ({ t with vigilance := .held, graceTimer := none }, [removeWarning d]) else (t, [])
    | .penalty =>
      if value && t.motion == .standstill then
        ({ t with vigilance := .off }.dropEntry .vigilance, [removeWarning d])
      else (t, [])
  else (t, [])

/-- R70: the grace timer expires in WARNING; a timer that is stopped does not. -/
def Tdu.graceExpiry (desk : DeskState) (cfg : Settings) (t : Tdu) : Tdu × List Instr :=
  match t.graceTimer, t.vigilance with
  | some _, .warning =>
    let t' := { t with vigilance := .penalty, graceTimer := none }.setEntry desk .vigilance
      ⟨true, cfg.penaltyCeiling⟩
    (t', .noticeRaise .vigilance :: lockReport t t')
  | some _, .off => (t, [])
  | some _, .held => (t, [])
  | some _, .penalty => (t, [])
  | none, _ => (t, [])

/-- R70's last row: the desk that held authority leaves ACTIVE_x. -/
def Tdu.endVigilance (former : Option Desk) (t : Tdu) : Tdu × List Instr :=
  match t.vigilance with
  | .off => (t, [])
  | .held => endNow
  | .warning => endNow
  | .penalty => endNow
where
  endNow : Tdu × List Instr :=
    ({ t with vigilance := .off, graceTimer := none }.dropEntry .vigilance,
      match former with
      | some d => [removeWarning d]
      | none => [])

/-! ### Changes of desk state (R23, R77, R78) -/

/-- R23, R77: a desk state change handed on by the DAU. -/
def Tdu.deskState (cfg : Settings) (new : DeskState) (t : Tdu) : Tdu × List Instr :=
  match new with
  | .active d =>
    let t' := { (t.dropEntry .desk) with staleTimer := none }
    (t', [.leadingEndPublished (leadingEndOf (some d) t'.taken)])
  | .releasing d =>
    let t1 := (t.setEntry new .desk ⟨true, cfg.releasingCeiling⟩).endStale
    let r := t1.endVigilance (some d)
    (r.1, r.2 ++ lockReport t r.1)
  | .noDesk =>
    let t' := t.setEntry new .desk ⟨true, cfg.noDeskCeiling⟩
    (t', lockReport t t')

/-- R78: the unit's share of the teardown, in its order. The desk state is NO_DESK here: there is no
active desk, so no entry sets the lock. -/
def Tdu.teardown (cfg : Settings) (former : Desk) (t : Tdu) : Tdu × List Instr :=
  let t := { t with demand := ⟨⟨0, .neutral⟩, ⟨0, .neutral⟩⟩ }
  let t := { t with lock := false }
  let t := { t with taken := none }.setEntry .noDesk .direction ⟨true, 0⟩
  let t := t.setEntry .noDesk .desk ⟨true, cfg.noDeskCeiling⟩
  let t := t.endStale
  let r := t.endVigilance (some former)
  (r.1, .leadingEndPublished .none :: r.2)

/-! ### Frames (R66 to R68) and the link (R72 to R76) -/

/-- R67 steps 1 to 3: the target. -/
def frameTarget (desk : DeskState) (t : Tdu) : Int :=
  let lever : Int :=
    match deskHolder desk with
    | some d => if (t.demand.get d).selector = .neutral then 0 else (t.demand.get d).lever
    | none => 0
  let target := if t.lock then min lever 0 else lever
  min target (lowestCeiling t.ceilings)

/-- R67 step 4: the effort, its rise limited by the ramp setting. -/
def frameEffort (desk : DeskState) (cfg : Settings) (t : Tdu) : Int :=
  let target := frameTarget desk t
  if t.lastEffort < target then t.lastEffort + min (cfg.ramp : Int) (target - t.lastEffort) else target

/-- R68: the mode of a frame with this effort. -/
def frameModeOf (view : LockState) (effort : Int) : FrameMode :=
  match view with
  | .held => .emergency
  | .clear => if 0 < effort then .drive else if effort < 0 then .brake else .coast

/-- R67, R68: the frame composed from the state standing. -/
def composeFrame (desk : DeskState) (cfg : Settings) (t : Tdu) : TractionFrame :=
  { mode := frameModeOf t.lockView (frameEffort desk cfg t)
    effort := frameEffort desk cfg t
    leading := leadingEndOf (deskHolder desk) t.taken
    seq := t.nextSeq }

/-- R75: the miss count after the interval since the previous send. -/
def nextMisses (t : Tdu) : Nat :=
  if !t.statusSeen && t.lastFrame.isSome then min Config.missTop (t.misses + 1) else t.misses

/-- R75: the link accounting of the interval that has just ended. The severe fault carries the last effort
sent before this expiry (R174). -/
def Tdu.account (desk : DeskState) (cfg : Settings) (t : Tdu) : Tdu × List Instr :=
  let t' := { t with misses := nextMisses t }
  if t.link = .up ∧ cfg.linkLoss ≤ t'.misses then
    ({ t' with link := .lost }.setEntry desk .link ⟨true, Config.linkCeiling⟩,
      [.noticeRaise .linkChange,
        .severeFault .tractionLinkLost .tdu .none true (some t.lastEffort)])
  else (t', [])

/-- R66 step 3: the frame is sent, stored and its sequence number set aside. -/
def Tdu.send (cfg : Settings) (f : TractionFrame) (t : Tdu) : Tdu :=
  { t with
    lastFrame := some f
    lastEffort := f.effort
    recent := (f.seq :: t.recent).take 4
    nextSeq := t.nextSeq + 1
    statusSeen := false
    frameTimer := some cfg.framePeriod }

/-- R66: a frame-timer expiry. -/
def Tdu.frameExpiry (desk : DeskState) (cfg : Settings) (t : Tdu) : Tdu × List Instr :=
  let r := t.account desk cfg
  (r.1.send cfg (composeFrame desk cfg r.1), r.2 ++ lockReport t r.1)

/-- R76: the propulsion-fault flag is newly reported. -/
def newlyFaulted (last : Option StatusReport) (r : StatusReport) : Bool :=
  r.propulsionFault &&
    (match last with
     | some l => !l.propulsionFault
     | none => true)

/-- R74, R76: a valid status frame. -/
def Tdu.takeStatus (r : StatusReport) (t : Tdu) : Tdu × List Instr :=
  let t' := { t with lastStatus := some r, statusSeen := true, misses := 0 }
  let notes : List Instr :=
    if newlyFaulted t.lastStatus r then [.noticeRaise .propulsionFault] else []
  match t.link with
  | .up => (t', notes)
  | .starting => ({ t' with link := .up }.dropEntry .link, .noticeRaise .linkChange :: notes)
  | .lost => ({ t' with link := .up }.dropEntry .link, .noticeRaise .linkChange :: notes)

/-- R72: a status frame that is not valid is dropped. -/
def Tdu.status (octets : List Byte) (t : Tdu) : Tdu × List Instr :=
  match parseStatus octets with
  | some r => if t.recent.contains r.echo then t.takeStatus r else (t, [])
  | none => (t, [])

/-! ### Words read (R20, R81, log 8) -/

/-- R81: the words a frame-timer expiry reads: the active desk's demand record, the ceiling entries, the
resume lock and the last effort sent. -/
def frameWords (desk : DeskState) : StoreWord → Bool
  | .field .demandA _ => deskHolder desk == some .a
  | .field .demandB _ => deskHolder desk == some .b
  | .entry .ceilings _ _ => true
  | .field .ceilings n => n == 1
  | .field .tractionStatus n => n == 4
  | _ => false

/-- R80: the settings a frame-timer expiry uses, beside the words of R81. -/
def frameReads (desk : DeskState) (w : StoreWord) : Bool :=
  frameWords desk w || settingWords [.framePeriod, .ramp, .linkLoss] w

/-- The words of CEILINGS and of the active desk's lever. -/
def ceilingWords (desk : DeskState) : StoreWord → Bool
  | .entry .ceilings _ _ => true
  | .field .ceilings _ => true
  | .field .demandA n => n == 0 && deskHolder desk == some .a
  | .field .demandB n => n == 0 && deskHolder desk == some .b
  | _ => false

/-- The word of the vigilance state. -/
def vigilanceWord : StoreWord → Bool := fieldWords .tractionStatus [3]

/-- The word of the active desk's selector. -/
def selectorWord (desk : DeskState) (w : StoreWord) : Bool :=
  match deskHolder desk with
  | some d => fieldWords (demandRecord d) [1] w
  | none => false

/-- The words a warning that begins takes from SETTINGS (R70, R71). -/
def warningWords : StoreWord → Bool := settingWords [.graceTime, .vigilanceUse]

/-- R69, R70: the words a moving report reads. -/
def movingReads (desk : DeskState) (t : Tdu) (w : StoreWord) : Bool :=
  match desk with
  | .active d => vigilanceWord w || (t.vigilance == .off && !t.pedals.get d && warningWords w)
  | .releasing _ => false
  | .noDesk => false

/-- R64, R70: the words a standstill report reads. -/
def standstillReads (desk : DeskState) (w : StoreWord) : Bool := vigilanceWord w || selectorWord desk w

/-- R69, R70: the words a pedal event reads. -/
def pedalReads (desk : DeskState) (d : Desk) (value : Bool) (t : Tdu) (w : StoreWord) : Bool :=
  desk == .active d && (vigilanceWord w || (t.vigilance == .held && !value && warningWords w))

/-- R70: the words the expiry of the grace timer reads. -/
def graceReads (t : Tdu) (w : StoreWord) : Bool :=
  t.graceTimer.isSome && (vigilanceWord w || (t.vigilance == .warning && settingWords [.penaltyCeiling] w))

/-- R72: the status frame is valid. -/
def statusValid (octets : List Byte) (t : Tdu) : Bool :=
  match parseStatus octets with
  | some r => t.recent.contains r.echo
  | none => false

/-- R74, R76: the words a valid status frame reads: the link state and the last status. -/
def statusReads (octets : List Byte) (t : Tdu) (w : StoreWord) : Bool :=
  statusValid octets t && fieldWords .tractionStatus [0, 2] w

/-- R23, R77: the words a desk state change reads. -/
def deskStateReads (new : DeskState) (w : StoreWord) : Bool :=
  match new with
  | .active _ => false
  | .releasing _ => settingWords [.releasingCeiling] w || vigilanceWord w
  | .noDesk => settingWords [.noDeskCeiling] w

/-- R78: the words the teardown reads. -/
def tduTeardownReads (w : StoreWord) : Bool := settingWords [.noDeskCeiling] w || vigilanceWord w

/-- The words an event of the TDU with this outcome reads: those of its own, and, where it changes an entry,
the ceiling table and the active desk's lever for the lock rule (R62). -/
def tduReads (s : State) (reads : StoreWord → Bool) (t : Tdu) (w : StoreWord) : Bool :=
  reads w || (t.ceilings != s.tdu.ceilings && ceilingWords s.dau.state w)

/-- An event of the TDU at the state. -/
def State.tduEvent (s : State) (reads : StoreWord → Bool) (r : Tdu × List Instr) : State :=
  s.putTdu r.1 (parityFaults s .tdu (tduReads s reads r.1) none ++ r.2)

/-- The words of a ceiling entry that is set, or of which the active flag alone is cleared. -/
def writtenEntry (c : CeilingSource) (t : Tdu) : StoreWord → Bool :=
  entryWords .ceilings (ceilingIndex c).val (if t.ceilings[ceilingIndex c].active then [0, 1] else [0])

/-- R59, R62: an event that does nothing but set or drop the entry of a source. -/
def State.entryEvent (s : State) (c : CeilingSource) (reads : StoreWord → Bool) (t : Tdu) : State :=
  (s.tduEvent reads (t, lockReport s.tdu t)).rewrite (writtenEntry c t)

/-! ### The unit's rows -/

/-- VIGILANCE_PEDAL_EVENT (R69, R70). -/
def execVigilancePedalEvent (d : Desk) (value : Bool) (s : State) :
    Host.Outcome State Fault Refusal :=
  let s := s.take (.vigilancePedalEvent d value)
  .next (s.tduEvent (pedalReads s.dau.state d value s.tdu) (s.tdu.pedal s.dau.state s.settings d value))

/-- R59: the MATRIX entry, active at 0 while the permit is false. -/
def Tdu.tractionPermitEvent (desk : DeskState) (value : Bool) (t : Tdu) : Tdu :=
  let t := { t with tractionPermit := value }
  if value then t.dropEntry .matrix else t.setEntry desk .matrix ⟨true, 0⟩

/-- TRACTION_PERMIT_EVENT (R51, R59). -/
def execTractionPermitEvent (value : Bool) (s : State) : Host.Outcome State Fault Refusal :=
  let s := s.take (.tractionPermitEvent value)
  .next (s.entryEvent .matrix (fun _ => false) (s.tdu.tractionPermitEvent s.dau.state value))

/-- FRAME_TIMER_EXPIRY (R66, R67, R68, R75, R81): the faults of bad words carry the last effort sent
before this expiry, and are handed on before the fault of a link lost at it: the model's order (log 38). -/
def execFrameTimerExpiry (s : State) : Host.Outcome State Fault Refusal :=
  let s := s.take .frameTimerExpiry
  let r := s.tdu.frameExpiry s.dau.state s.settings
  .next (s.putTdu r.1
    (parityFaults s .tdu (frameReads s.dau.state) (some s.tdu.lastEffort) ++ r.2))

/-- STATUS_FRAME (R72, R74, R76); a valid one is stored. -/
def execStatusFrame (octets : List Byte) (s : State) : Host.Outcome State Fault Refusal :=
  let s := s.take (.statusFrame octets)
  .next ((s.tduEvent (statusReads octets s.tdu) (s.tdu.status octets)).rewrite fun w =>
    statusValid octets s.tdu && fieldWords .tractionStatus [2] w)

/-- STALE_TIMER_EXPIRY (R58). -/
def execStaleTimerExpiry (s : State) : Host.Outcome State Fault Refusal :=
  let s := s.take .staleTimerExpiry
  .next (s.tduEvent (fun _ => false) (s.tdu.staleExpiry s.dau.state))

/-- GRACE_TIMER_EXPIRY (R70). -/
def execGraceTimerExpiry (s : State) : Host.Outcome State Fault Refusal :=
  let s := s.take .graceTimerExpiry
  .next (s.tduEvent (graceReads s.tdu) (s.tdu.graceExpiry s.dau.state s.settings))

/-- R112: the new POINT_GUARD entry; inactive, it keeps the value it last held. -/
def Tdu.pointGuard (desk : DeskState) (active : Bool) (value : Int) (t : Tdu) : Tdu :=
  if active then t.setEntry desk .pointGuard ⟨true, value⟩ else t.dropEntry .pointGuard

/-- POINT_GUARD_ENTRY_CHANGE (R112). -/
def execPointGuardEntryChange (active : Bool) (value : Int) (s : State) :
    Host.Outcome State Fault Refusal :=
  let s := s.take (.pointGuardEntryChange active value)
  .next (s.entryEvent .pointGuard (fun _ => false) (s.tdu.pointGuard s.dau.state active value))

end Sys2Proof.Machine
end

