-- ==== Sys2Proof/Machine/Lcu.lean ====
section
/-! DEFINITION. The location unit (chapter 5): tach accounting, motion, the transmit window, beacon
matching, the pending action list, and the meanings of the rows that are the unit's own events. -/

namespace Sys2Proof.Machine

/-! ### Actions (R87, R93, R94) -/

/-- R87, R94: an action fires. ARM_ROUTE opens or extends the window first; NOTIFY becomes the last location
event as it fires, in its turn among the actions of one event. -/
def Lcu.fire (cfg : Settings) (entry : Nat) (beacon : BitVec 12) (a : ActionSpec) (l : Lcu) :
    Lcu × List Instr :=
  match a.action with
  | .armRoute =>
    ({ l with window := max l.window cfg.windowLength },
      (if windowIsOpen l then [] else [.windowOpen]) ++ [.armRoute a.junction])
  | .clearance => (l, [.clearance a.junction])
  | .stopZoneEnter => (l, [.stopZoneEnter a.platform a.mandatory])
  | .stopZoneLeave => (l, [.stopZoneLeave a.platform])
  | .bell => (l, [.hardwareSoundAdd .location .bell a.pattern])
  | .notify =>
    ({ l with lastEvent := some ⟨.notify, entry, beacon.toNat, .notify⟩ },
      [.notifyAction entry beacon.toNat])

/-- R93: what the drop of an action that found the list full is reported as. -/
def Lcu.drop (entry : Nat) (beacon : BitVec 12) (a : ActionSpec) (l : Lcu) : Lcu × List Instr :=
  match a.action with
  | .armRoute => (l, [.severeFault .locationOverflow .lcu (.junction a.junction) true none])
  | .clearance => (l, [.severeFault .locationOverflow .lcu (.junction a.junction) true none])
  | .stopZoneEnter => noted
  | .stopZoneLeave => noted
  | .bell => noted
  | .notify => noted
where
  noted : Lcu × List Instr :=
    ({ l with lastEvent := some ⟨.overflow, entry, beacon.toNat, a.action⟩ },
      [.noticeRaise .locationEvent])

/-! ### Metres (R86 to R88) -/

/-- R86 step 3: the actions that are due fire in list order. -/
def fireDue (cfg : Settings) : List PendingAction → Lcu → Lcu × List Instr
  | [], l => (l, [])
  | a :: as, l =>
    if a.remaining ≤ 1 then
      let r := l.fire cfg a.entry a.beacon a.act
      let q := fireDue cfg as r.1
      (q.1, r.2 ++ q.2)
    else fireDue cfg as l

/-- R86 step 3: every action counted down by one metre; those that reach 0 leave the list. -/
def countDown (as : List PendingAction) : List PendingAction :=
  (as.filter fun a => !decide (a.remaining ≤ 1)).map fun a => { a with remaining := a.remaining - 1 }

/-- R86: one metre travelled. -/
def Lcu.metre (cfg : Settings) (l : Lcu) : Lcu × List Instr :=
  let closes := l.window == 1
  let l' := { l with
    distance := min Config.distanceTop (l.distance + 1)
    window := l.window - 1
    actions := countDown l.actions }
  let r := fireDue cfg l.actions l'
  (r.1, (if closes then [.windowClose] else []) ++ r.2)

/-! ### Pulses and motion (R83 to R85) -/

/-- R85: a change of motion is handed to the DAU, TDU, LMU and FNU. -/
def movingReports : List Instr :=
  [.movingReport .dau, .movingReport .tdu, .movingReport .lmu, .movingReport .fnu]

def standstillReports : List Instr :=
  [.standstillReport .dau, .standstillReport .tdu, .standstillReport .lmu, .standstillReport .fnu]

/-- R83: a pulse counted toward distance. -/
def Lcu.countPulse (cfg : Settings) (l : Lcu) : Lcu × List Instr :=
  if cfg.pulsesPerMetre ≤ l.pulses + 1 then { l with pulses := 0 }.metre cfg
  else ({ l with pulses := l.pulses + 1 }, [])

/-- R84: a pulse at the motion state. -/
def Lcu.pulseMotion (cfg : Settings) (l : Lcu) : Lcu × List Instr :=
  let l := { l with standstillTimer := some cfg.standstillWindow }
  match l.motion with
  | .moving => (l, [])
  | .standstill =>
    if l.firstPulse then ({ l with motion := .moving, firstPulse := false }, movingReports)
    else ({ l with firstPulse := true }, [])

/-- R83, R84: a tach pulse. -/
def Lcu.pulse (cfg : Settings) (l : Lcu) : Lcu × List Instr :=
  let r := l.countPulse cfg
  let q := r.1.pulseMotion cfg
  (q.1, r.2 ++ q.2)

/-- R84: the standstill timer expires; a timer that is stopped does not. -/
def Lcu.standstillExpiry (l : Lcu) : Lcu × List Instr :=
  match l.standstillTimer with
  | none => (l, [])
  | some _ =>
    let l := { l with standstillTimer := none }
    match l.motion with
    | .moving => ({ l with motion := .standstill }, standstillReports)
    | .standstill => ({ l with firstPulse := false }, [])

/-! ### Beacons (R90 to R92) -/

/-- R91: the leading end an orientation admits. -/
def orientationAdmits : Orientation → LeadingEnd → Bool
  | .either, _ => true
  | .aLeading, .aLeading => true
  | .aLeading, .bLeading => false
  | .aLeading, .none => false
  | .bLeading, .bLeading => true
  | .bLeading, .aLeading => false
  | .bLeading, .none => false

/-- R90 step 2: an entry matches a beacon. -/
def entryMatches (e : LocationEntry) (identity : BitVec 12) (leading : LeadingEnd) : Bool :=
  e.enabled && (identity &&& e.mask) == (e.matchValue &&& e.mask)
    && orientationAdmits e.orientation leading

/-- R90 step 3, R92: a matching entry fires at once or joins the list. -/
def Lcu.matched (cfg : Settings) (identity : BitVec 12) (index : Nat) (e : LocationEntry) (l : Lcu) :
    Lcu × List Instr :=
  if e.offset = 0 then l.fire cfg index identity e.act
  else if l.actions.length < Config.actionCapacity then
    ({ l with actions := l.actions ++ [⟨index, identity, e.act, e.offset⟩] }, [])
  else l.drop index identity e.act

/-- R90 step 2: the entries in index order. -/
def matchEntries (cfg : Settings) (identity : BitVec 12) :
    List (LocationEntry × Nat) → Lcu → Lcu × List Instr
  | [], l => (l, [])
  | (e, i) :: es, l =>
    if entryMatches e identity l.leading then
      let r := l.matched cfg identity i e
      let q := matchEntries cfg identity es r.1
      (q.1, r.2 ++ q.2)
    else matchEntries cfg identity es l

/-- R90: a beacon. -/
def Lcu.beacon (cfg : Settings) (identity : BitVec 12) (l : Lcu) : Lcu × List Instr :=
  matchEntries cfg identity l.table.toList.zipIdx
    { l with distance := 0, lastBeacon := some identity }

/-! ### Words read (R20, R96, R97) -/

/-- R97: the words of the location table, all of which a beacon examines. -/
def locationWords : StoreWord → Bool
  | .entry r _ _ => r == .locations
  | .field _ _ => false
  | .active _ _ _ => false
  | .cancel _ _ => false
  | .request _ _ _ => false
  | .notice _ _ => false

/-- R86, R87: an ARM_ROUTE fires at this pulse. -/
def armsAtPulse (cfg : Settings) (l : Lcu) : Bool :=
  decide (cfg.pulsesPerMetre ≤ l.pulses + 1)
    && l.actions.any fun a => decide (a.remaining ≤ 1) && a.act.action == .armRoute

/-- R87, R90: an ARM_ROUTE fires at this beacon. -/
def armsAtBeacon (identity : BitVec 12) (l : Lcu) : Bool :=
  l.table.toList.any fun e =>
    entryMatches e identity l.leading && e.offset == 0 && e.act.action == .armRoute

/-- R96: the settings a tach pulse uses. -/
def pulseReads (cfg : Settings) (l : Lcu) (w : StoreWord) : Bool :=
  settingWords [.pulsesPerMetre, .standstillWindow] w
    || (armsAtPulse cfg l && settingWords [.windowLength] w)

/-- R96, R97: the words a beacon reads. -/
def beaconReads (identity : BitVec 12) (l : Lcu) (w : StoreWord) : Bool :=
  locationWords w || (armsAtBeacon identity l && settingWords [.windowLength] w)

/-! ### The unit's rows -/

/-- TACH_PULSE (R83, R84, R86, R96). -/
def execTachPulse (s : State) : Host.Outcome State Fault Refusal :=
  let s := s.take .tachPulse
  let r := s.lcu.pulse s.settings
  .next (s.putLcu r.1 (parityFaults s .lcu (pulseReads s.settings s.lcu) none ++ r.2))

/-- STANDSTILL_TIMER_EXPIRY (R84). -/
def execStandstillTimerExpiry (s : State) : Host.Outcome State Fault Refusal :=
  let s := s.take .standstillTimerExpiry
  let r := s.lcu.standstillExpiry
  .next (s.putLcu r.1 r.2)

/-- R90, R97: a checked BEACON handed to the unit. The faults of bad words, one of the window length included, are
handed on before all that the matching brings, a LOCATION_OVERFLOW of an earlier entry included: the model's order
(log 38). -/
def State.takeBeacon (s : State) (identity : BitVec 12) : State :=
  let r := s.lcu.beacon s.settings identity
  s.putLcu r.1 (parityFaults s .lcu (beaconReads identity s.lcu) none ++ r.2)

end Sys2Proof.Machine
end

