-- ==== Sys2Proof/Machine/Rtu.lean ====
section
/-! DEFINITION. The route unit (chapter 6): the plan, arming, guard timers, point states, clearance, the
POINT_GUARD ceiling, owed telegrams and the cancel list, and the meanings of the rows that are the unit's
own events. -/

namespace Sys2Proof.Machine

/-! ### The plan -/

/-- Replace the entry of a junction. -/
def setEntryFor (plan : List PlanEntry) (j : Nat) (e : PlanEntry) : List PlanEntry :=
  plan.map fun x => if x.junction = j then e else x

def removeEntry (plan : List PlanEntry) (j : Nat) : List PlanEntry :=
  plan.filter fun x => x.junction != j

/-- R115: whether the telegram's subject is (still) present: the entry, or the CANCEL. -/
def subjectStays (plan : List PlanEntry) (cancels : List Cancel) (f : InFlight) : Bool :=
  match f.kind with
  | .request => plan.any fun e => e.junction == f.junction
  | .update => plan.any fun e => e.junction == f.junction
  | .cancel => cancels.any fun c => c.junction == f.junction

/-- R98, R115: after a change of the plan or the list, a telegram whose subject has left stays without it,
even when a new entry for the junction joins later (log 24). -/
def Rtu.withPlan (u : Rtu) (plan : List PlanEntry) (cancels : List Cancel) : Rtu :=
  { u with
    plan := plan
    cancels := cancels
    inFlight := u.inFlight.map fun f =>
      { f with present := f.present && subjectStays plan cancels f } }

/-- R101, R102, R103: a telegram in flight for the junction, of whatever kind. -/
def flightFor (u : Rtu) (j : Nat) : Bool :=
  match u.inFlight with
  | some f => f.junction == j
  | none => false

/-- R101, R117: a CANCEL in flight for the junction. -/
def cancelInFlight (u : Rtu) (j : Nat) : Bool :=
  match u.inFlight with
  | some f => f.kind == .cancel && f.junction == j
  | none => false

/-- R115, R119: the CANCEL of the list for this junction is the one in flight. -/
def cancelHeld (u : Rtu) (j : Nat) : Bool :=
  match u.inFlight with
  | some f => f.kind == .cancel && f.junction == j && f.present
  | none => false

/-! ### What a change of the plan hands on (R112, R113) -/

/-- R112: the POINT_GUARD entry is handed on when its active flag or its value changes; inactive, it keeps
the value it last held. -/
def guardHandOn (creep : Int) (old new : List PlanEntry) : List Instr :=
  let x := guardEntry creep old
  let y := guardEntry creep new
  (if x.active = y.active ∧ (y.active = false ∨ x.value = y.value) then []
    else [.pointGuardEntryChange y.active y.value])
  ++ (if x.active = y.active then [] else [.conditionChange .guardActive y.active])

/-- R113: the guard alert on the active desk's buzzer. -/
def addAlert (cfg : Settings) (d : Desk) : Instr :=
  .hardwareSoundAdd .pointGuard (deskBuzzer d) cfg.uses.guardAlert

/-- R113: the alert is handed on when an entry becomes REFUSED or FAULTED, and its removal when the last
such entry leaves that state; with no active desk nothing is handed on. -/
def alertHandOn (desk : DeskState) (cfg : Settings) (became : Bool) (old new : List PlanEntry) :
    List Instr :=
  match deskHolder desk with
  | none => []
  | some d =>
    if became then [addAlert cfg d]
    else if anyHeld old && !anyHeld new then [.hardwareSoundRemove .pointGuard (deskBuzzer d)]
    else []

/-- R100, R112, R113: all that an event that changes entries hands on. -/
def planHandOn (desk : DeskState) (cfg : Settings) (became : Bool) (old new : List PlanEntry) :
    List Instr :=
  .noticeRaise .routeChange :: guardHandOn cfg.creep old new ++ alertHandOn desk cfg became old new

/-! ### Arming (R107) -/

/-- R107: the armed entry. -/
def armed (cfg : Settings) (e : PlanEntry) : PlanEntry :=
  { e with state := .armed, requestsOwed := cfg.repeats, guard := some cfg.guardTime }

/-- R107 step 1: the entries ahead of junction `j` that are not QUEUED stay; the others are bypassed. -/
def bypass (plan : List PlanEntry) (j : Nat) : List PlanEntry :=
  match plan with
  | [] => []
  | e :: es =>
    if e.junction = j then e :: es
    else if e.state = .queued then bypass es j else e :: bypass es j

/-- R107: an ARM_ROUTE for a junction. -/
def Rtu.arm (desk : DeskState) (cfg : Settings) (j : Nat) (u : Rtu) : Rtu × List Instr :=
  match findEntry u.plan j with
  | none => ({ u with exception := some (.noRoute, j) }, [.noticeRaise .locationEvent])
  | some e =>
    if e.state = .queued then
      let kept := bypass u.plan j
      let plan := setEntryFor kept j (armed cfg e)
      (u.withPlan plan u.cancels,
        (if kept.length < u.plan.length then [.structuralChangeReport .plan] else [])
          ++ planHandOn desk cfg false u.plan plan ++ [.owedReport])
    else (u, [])

/-! ### Guard timers (R108) -/

/-- R108: the timer of an ARMED or SENT entry expires. -/
def guardRuns (e : PlanEntry) : Bool :=
  e.guard.isSome && (e.state == .armed || e.state == .sent)

def Rtu.guardExpiry (desk : DeskState) (cfg : Settings) (j : Nat) (u : Rtu) : Rtu × List Instr :=
  match findEntry u.plan j with
  | some e =>
    if guardRuns e then
      let plan := setEntryFor u.plan j { e with state := .faulted, guard := none }
      (u.withPlan plan u.cancels, planHandOn desk cfg true u.plan plan)
    else (u, [])
  | none => (u, [])

/-! ### Point states (R109, R110) -/

/-- R110: the state of an entry after a report. -/
def pointNext (report : PointReport) (sameCode : Bool) (old : EntryState) : EntryState :=
  match old with
  | .queued => .queued
  | .armed => reported
  | .sent => reported
  | .confirmed => reported
  | .refused => reported
  | .faulted => reported
  | .overridden => reported
where
  reported : EntryState :=
    match report with
    | .setting => old
    | .locked => if sameCode then .confirmed else .refused
    | .refused => .refused
    | .fault => .faulted

/-- R110: a POINT_STATE taken for an entry. -/
def pointTaken (report : PointReport) (code : Nat) (e : PlanEntry) : PlanEntry :=
  let new := pointNext report (code == e.code) e.state
  { e with
    requestsOwed := 0
    lastPoint := some ⟨report, code⟩
    state := new
    guard := if new = e.state then e.guard else none }

/-- R109, R110: a POINT_STATE telegram. -/
def Rtu.pointState (desk : DeskState) (cfg : Settings) (ownRun : Nat) (j code : Nat)
    (report : PointReport) (run : Nat) (u : Rtu) : Rtu × List Instr :=
  if run ≠ ownRun then ({ u with otherRun := bump u.otherRun }, [])
  else match findEntry u.plan j with
  | none => ({ u with exception := some (.strayPointState, j) }, [.noticeRaise .pointStateStray])
  | some e =>
    let e' := pointTaken report code e
    let plan := setEntryFor u.plan j e'
    (u.withPlan plan u.cancels,
      if e'.state = e.state then []
      else planHandOn desk cfg (holdsAtZero e'.state) u.plan plan)

/-! ### Clearance (R111) -/

/-- R111: an entry cleared in this state is removed as PASSED; otherwise as RUN_THROUGH. -/
def passes : EntryState → Bool
  | .confirmed => true
  | .overridden => true
  | .queued => false
  | .armed => false
  | .sent => false
  | .refused => false
  | .faulted => false

def Rtu.clearance (desk : DeskState) (cfg : Settings) (j : Nat) (u : Rtu) : Rtu × List Instr :=
  match findEntry u.plan j with
  | none => ({ u with exception := some (.unplannedClearance, j) }, [.noticeRaise .locationEvent])
  | some e =>
    let plan := removeEntry u.plan j
    (u.withPlan plan u.cancels,
      .structuralChangeReport .plan :: planHandOn desk cfg false u.plan plan
        ++ (if passes e.state then []
            else [.severeFault .pointRunThrough .rtu (.junction j) false none]))

/-! ### Late decisions (R116) -/

/-- R116: an entry that names the platform and has sent a REQUEST. -/
def toldPassing (p : Nat) (e : PlanEntry) : Bool :=
  e.platform == some p && decide (1 ≤ e.transmissions)

/-- R116, R124: the window is the unit's own view of it, so a report taken before the close finds it open. -/
def Rtu.lateDecision (p : Nat) (u : Rtu) : Rtu × List Instr :=
  match u.plan.find? (toldPassing p) with
  | none => (u, [])
  | some e =>
    if u.windowOpen then
      let plan := u.plan.map fun x => if toldPassing p x then { x with updateOwed := true } else x
      (u.withPlan plan u.cancels,
        if u.plan.any (fun x => toldPassing p x && !x.updateOwed) then [.owedReport] else [])
    else
      ({ u with exception := some (.lateStopUnreported, e.junction) },
        [.noticeRaise .telegramDiscarded])

/-! ### Ends (R115) -/

/-- R115: the end of a REQUEST for the entry it was taken for. -/
def requestEnded (e : PlanEntry) : PlanEntry :=
  { e with
    requestsOwed := e.requestsOwed - 1
    transmissions := e.transmissions + 1
    state := if e.state = .armed then .sent else e.state }

def Rtu.ended (desk : DeskState) (cfg : Settings) (u : Rtu) : Rtu × List Instr :=
  match u.inFlight with
  | none => (u, [])
  | some f =>
    let u := { u with inFlight := none }
    if f.present then
      match f.kind with
      | .request =>
        match findEntry u.plan f.junction with
        | some e =>
          let plan := setEntryFor u.plan f.junction (requestEnded e)
          ({ u with plan := plan },
            if e.state = .armed then planHandOn desk cfg false u.plan plan else [])
        | none => (u, [])
      | .update =>
        match findEntry u.plan f.junction with
        | some e => ({ u with plan := setEntryFor u.plan f.junction { e with updateOwed := false } }, [])
        | none => (u, [])
      | .cancel => ({ u with cancels := u.cancels.filter fun c => c.junction != f.junction }, [])
    else (u, [])

/-! ### The cancel list (R117, R118) -/

/-- R118: a CANCEL is queued, or dropped when the list holds four. -/
def Rtu.queueCancel (c : Cancel) (u : Rtu) : Rtu × List Instr :=
  if u.cancels.length < Config.cancelCapacity then
    ({ u with cancels := u.cancels ++ [c] }, [.owedReport])
  else
    ({ u with exception := some (.telegramDiscarded, c.junction) }, [.noticeRaise .telegramDiscarded])

def Rtu.queueCancels : List Cancel → Rtu → Rtu × List Instr
  | [], u => (u, [])
  | c :: cs, u =>
    let r := u.queueCancel c
    let q := Rtu.queueCancels cs r.1
    (q.1, r.2 ++ q.2)

/-! ### Window close (R119) -/

def owesSomething (e : PlanEntry) : Bool := decide (0 < e.requestsOwed) || e.updateOwed

/-- R119; the header shows the window closed from here on. -/
def Rtu.windowClose (u : Rtu) : Rtu × List Instr :=
  let gone := u.cancels.filter fun c => !cancelHeld u c.junction
  let plan := u.plan.map fun e => { e with requestsOwed := 0, updateOwed := false }
  let u' := { u with windowOpen := false }.withPlan plan
    (u.cancels.filter fun c => cancelHeld u c.junction)
  match gone.head?.map (·.junction), (u.plan.find? owesSomething).map (·.junction) with
  | some j, _ =>
    ({ u' with exception := some (.telegramDiscarded, j) }, [.noticeRaise .telegramDiscarded])
  | none, some j =>
    ({ u' with exception := some (.telegramDiscarded, j) }, [.noticeRaise .telegramDiscarded])
  | none, none => (u', [])

/-! ### Teardown and RECONFIGURE (R121, R122) -/

/-- R100, R112: what the flush of the plan hands on; there is no active desk, so no alert. -/
def flushHandOn (cfg : Settings) (old : List PlanEntry) : List Instr :=
  guardHandOn cfg.creep old [] ++ (if old.isEmpty then [] else [.noticeRaise .routeChange])

/-- R121. R117 and R121 keep the cancel list, where R115 says in passing that the teardown empties it of the
CANCELs not in flight: the list is kept (log 32). -/
def Rtu.teardown (cfg : Settings) (u : Rtu) : Rtu × List Instr :=
  let owed := (u.plan.filter fun e => decide (1 ≤ e.transmissions)).map fun e =>
    (⟨e.junction, e.code⟩ : Cancel)
  let r := if u.windowOpen then Rtu.queueCancels owed u else (u, [])
  (r.1.withPlan [] r.1.cancels, r.2 ++ flushHandOn cfg u.plan)

/-- R122, with the window's close, which finds nothing owed (R88): what it hands to the notices. The guard's end
goes to its units within the command (`State.endGuard`). -/
def Rtu.reconfigure (u : Rtu) : Rtu × List Instr :=
  let u' := { u with windowOpen := false }.withPlan [] []
  let routes : List Instr := if u.plan.isEmpty then [] else [.noticeRaise .routeChange]
  match u.cancels.head? with
  | some c =>
    ({ u' with exception := some (.telegramDiscarded, c.junction) },
      routes ++ [.noticeRaise .telegramDiscarded])
  | none => (u', routes)

/-! ### A desk claims while an entry stands REFUSED or FAULTED (R113) -/

/-- R113: the alert for a desk that has become active. With no active desk no request is handed on (R170): a
change that comes when the desk has lost its authority again brings none. -/
def Rtu.deskState (desk : DeskState) (cfg : Settings) (new : DeskState) (u : Rtu) : List Instr :=
  match new with
  | .active d => if deskHolder desk = some d ∧ anyHeld u.plan then [addAlert cfg d] else []
  | .releasing _ => []
  | .noDesk => []

/-! ### Words (R20, R106, R125) -/

def planWords (w : StoreWord) : Bool := wordRecord w == .plan

/-- The words of VEHICLE. -/
def vehicleWords (w : StoreWord) : Bool := wordRecord w == .vehicle

/-- R113: an alert is among what is handed on. -/
def alertGiven (out : List Instr) : Bool :=
  out.any fun c => match c with
    | .hardwareSoundAdd .pointGuard _ _ => true
    | _ => false

/-- R112, R113, R125: the settings an event uses that hands this on: the creep value where the ceiling is
computed again, which is where ROUTE_CHANGE is raised, and the pattern of an alert given. -/
def rtuSettings (out : List Instr) (w : StoreWord) : Bool :=
  (out.contains (.noticeRaise .routeChange) && settingWords [.creep] w)
    || (alertGiven out && settingWords [.guardAlertUse] w)

/-- The words an event of the RTU with this outcome reads. -/
def rtuReads (reads : StoreWord → Bool) (out : List Instr) (w : StoreWord) : Bool :=
  reads w || rtuSettings out w

/-- An event of the RTU at the state: its parity faults before all that it hands on, a POINT_RUN_THROUGH included
(log 38). -/
def State.rtuEvent (s : State) (reads : StoreWord → Bool) (r : Rtu × List Instr) : State :=
  s.putRtu r.1 (parityFaults s .rtu (rtuReads reads r.2) none ++ r.2)

/-- R107: the ARM_ROUTE finds a QUEUED entry. -/
def armsEntry (u : Rtu) (j : Nat) : Bool := (findEntry u.plan j).any fun e => e.state == .queued

/-- R106, R125: the words an arming reads. -/
def armReads (u : Rtu) (j : Nat) (w : StoreWord) : Bool :=
  planWords w || (armsEntry u j && settingWords [.repeats, .guardTime] w)

/-- R109: the words a point state reads. -/
def pointReads (w : StoreWord) : Bool := planWords w || vehicleWords w

/-! ### Route commands (R101 to R105) -/

/-- What an owner's command comes to, before parity: the unit's new state, what it hands on, and the
verdict. -/
abbrev RouteResult := Rtu × List Instr × Verdict

/-- R101: the new entry. -/
def insertedEntry (a : InsertArgs) (origin : Port) : PlanEntry :=
  { junction := a.junction, code := a.code, platform := a.platform, priority := a.priority,
    origin := origin, state := .queued, requestsOwed := 0, updateOwed := false, transmissions := 0,
    lastPoint := none, guard := none }

/-- R101: the position against the count, checks 2 to 4, and the insertion. -/
def Rtu.insert (desk : DeskState) (cfg : Settings) (p : Port) (a : InsertArgs) (u : Rtu) :
    RouteResult :=
  if u.plan.length < a.position then (u, [], .refused .outOfRange)
  else if (findEntry u.plan a.junction).isSome then (u, [], .refused .duplicate)
  else if Config.planCapacity ≤ u.plan.length then (u, [], .refused .listFull)
  else if cancelInFlight u a.junction then (u, [], .retry)
  else
    let plan := u.plan.take a.position ++ insertedEntry a p :: u.plan.drop a.position
    ({ u with plan := plan, cancels := u.cancels.filter fun c => c.junction != a.junction },
      planHandOn desk cfg false u.plan plan, .done [])

/-- R102: an armed entry is armed again with its new code. -/
def rearmed (cfg : Settings) (code : Nat) (e : PlanEntry) : PlanEntry :=
  { e with
    code := code
    state := .armed
    requestsOwed := cfg.repeats
    transmissions := 0
    updateOwed := false
    lastPoint := none
    guard := some cfg.guardTime }

/-- R102, R104: the states that ROUTE_SET_CODE rearms and ROUTE_OVERRIDE takes. -/
def awaitsPoints : EntryState → Bool
  | .armed => true
  | .sent => true
  | .refused => true
  | .faulted => true
  | .queued => false
  | .confirmed => false
  | .overridden => false

/-- R102. -/
def Rtu.setCode (desk : DeskState) (cfg : Settings) (j code : Nat) (u : Rtu) : RouteResult :=
  if flightFor u j then (u, [], .retry)
  else match findEntry u.plan j with
  | none => (u, [], .refused .wrongState)
  | some e =>
    if e.state = .queued then
      let plan := setEntryFor u.plan j { e with code := code }
      ({ u with plan := plan }, [.noticeRaise .routeChange], .done [])
    else if awaitsPoints e.state && u.windowOpen then
      let plan := setEntryFor u.plan j (rearmed cfg code e)
      ({ u with plan := plan }, planHandOn desk cfg false u.plan plan ++ [.owedReport], .done [])
    else (u, [], .refused .wrongState)

/-- R103. -/
def Rtu.cancelRoute (desk : DeskState) (cfg : Settings) (j : Nat) (u : Rtu) : RouteResult :=
  if flightFor u j then (u, [], .retry)
  else match findEntry u.plan j with
  | none => (u, [], .refused .wrongState)
  | some e =>
    let plan := removeEntry u.plan j
    let u' := u.withPlan plan u.cancels
    let r := if u.windowOpen && decide (1 ≤ e.transmissions) then u'.queueCancel ⟨j, e.code⟩ else (u', [])
    (r.1, planHandOn desk cfg false u.plan plan ++ r.2, .done [])

/-- R104. -/
def Rtu.override (desk : DeskState) (cfg : Settings) (j : Nat) (u : Rtu) : RouteResult :=
  match findEntry u.plan j with
  | none => (u, [], .refused .wrongState)
  | some e =>
    if awaitsPoints e.state then
      let plan := setEntryFor u.plan j { e with state := .overridden, guard := none }
      ({ u with plan := plan }, planHandOn desk cfg false u.plan plan, .done [])
    else (u, [], .refused .wrongState)

/-- R105. -/
def Rtu.sync (u : Rtu) : Verdict :=
  if u.cancels.isEmpty && !(u.plan.any fun e => e.updateOwed) then .done [] else .retry

/-- The plan as a READ returns it: the guard timers are no fields of the record (R98). -/
def planFields (plan : List PlanEntry) : List PlanEntry := plan.map fun e => { e with guard := none }

/-- R12: some field of PLAN took a new value by the request. An entry's state and counts are such fields, so a
ROUTE_OVERRIDE and a rearming with the code held empty the other ports' slots, where R14 and R99 have a reservation
survive changes of them: the model's choice (log 42). -/
def planChanged (x y : Rtu) : Bool :=
  planFields x.plan != planFields y.plan || x.cancels != y.cancels || x.exception != y.exception

/-- The words a route command reads: the plan, and the settings it uses. -/
def routeReads (l : List SettingName) (w : StoreWord) : Bool := planWords w || settingWords l w

/-- R106: a route command refused with STORE_ERROR where it meets a bad word, and applied otherwise. -/
def State.routeCommand (s : State) (l : List SettingName) (r : RouteResult) : Answer :=
  if meetsBad s (routeReads l) then Answer.storeError s .rtu (routeReads l)
  else ⟨s.putRtu r.1 r.2.1, r.2.2, planChanged s.rtu r.1⟩

/-- R102: the ROUTE_SET_CODE rearms the junction's entry. -/
def rearmsEntry (u : Rtu) (j : Nat) : Bool :=
  !flightFor u j && u.windowOpen && (findEntry u.plan j).any fun e => awaitsPoints e.state

/-- R102, R125: the settings ROUTE_SET_CODE uses: none but where it rearms the entry, for the new code of a QUEUED entry
needs none. -/
def setCodeSettings (u : Rtu) (j : Nat) : List SettingName :=
  if rearmsEntry u j then [.repeats, .guardTime, .creep] else []

/-- ROUTE_INSERT at the RTU (R101). -/
def routeInsertAnswer (p : Port) (args : List Byte) (s : State) : Answer :=
  match readAll getInsertArgs args with
  | some a => s.routeCommand [.creep] (s.rtu.insert s.dau.state s.settings p a)
  | none => .refuse s .outOfRange

/-- ROUTE_SET_CODE at the RTU (R102). -/
def routeSetCodeAnswer (args : List Byte) (s : State) : Answer :=
  match readAll getCodeArgs args with
  | some a => s.routeCommand (setCodeSettings s.rtu a.1) (s.rtu.setCode s.dau.state s.settings a.1 a.2)
  | none => .refuse s .outOfRange

/-- ROUTE_CANCEL at the RTU (R103). -/
def routeCancelAnswer (args : List Byte) (s : State) : Answer :=
  match readAll getJunction args with
  | some j => s.routeCommand [.creep] (s.rtu.cancelRoute s.dau.state s.settings j)
  | none => .refuse s .outOfRange

/-- ROUTE_OVERRIDE at the RTU (R104). -/
def routeOverrideAnswer (args : List Byte) (s : State) : Answer :=
  match readAll getJunction args with
  | some j => s.routeCommand [.creep] (s.rtu.override s.dau.state s.settings j)
  | none => .refuse s .outOfRange

/-- PLAN_SYNC at the RTU (R105). -/
def planSyncAnswer (args : List Byte) (s : State) : Answer :=
  match readAll getNothing args with
  | some _ => s.routeCommand [] (s.rtu, [], s.rtu.sync)
  | none => .refuse s .outOfRange

/-! ### The unit's rows; the words of an entry that an event writes are good from then on (R106) -/

/-- ARM_ROUTE (R107). -/
def execArmRoute (j : Nat) (s : State) : Host.Outcome State Fault Refusal :=
  let s := s.take (.armRoute j)
  .next ((s.rtuEvent (armReads s.rtu j) (s.rtu.arm s.dau.state s.settings j)).rewrite fun w =>
    armsEntry s.rtu j && entryWords .plan j [5, 6] w)

/-- CLEARANCE (R111). -/
def execClearance (j : Nat) (s : State) : Host.Outcome State Fault Refusal :=
  let s := s.take (.clearance j)
  .next (s.rtuEvent planWords (s.rtu.clearance s.dau.state s.settings j))

/-- GUARD_TIMER_EXPIRY (R108): a timer that is stopped does not expire. It is none of the own work of R106. -/
def execGuardTimerExpiry (j : Nat) (s : State) : Host.Outcome State Fault Refusal :=
  let s := s.take (.guardTimerExpiry j)
  if (findEntry s.rtu.plan j).any guardRuns then
    .next (s.rtuEvent (fun _ => false) (s.rtu.guardExpiry s.dau.state s.settings j))
  else .next s

/-- The words a late decision writes. -/
def lateWritten (u : Rtu) (p : Nat) (w : StoreWord) : Bool :=
  u.windowOpen && u.plan.any fun e => toldPassing p e && entryWords .plan e.junction [7] w

/-- LATE_DECISION_REPORT (R116). -/
def execLateDecisionReport (p : Nat) (s : State) : Host.Outcome State Fault Refusal :=
  let s := s.take (.lateDecisionReport p)
  .next ((s.rtuEvent planWords (s.rtu.lateDecision p)).rewrite (lateWritten s.rtu p))

/-- R109, R110: the telegram is of this vehicle's run and finds an entry. -/
def takenForEntry (s : State) (j run : Nat) : Bool :=
  run == s.rst.vehicle.run && (findEntry s.rtu.plan j).isSome

/-- R106, R109, R110: the words a point state writes: the last point state and the requests owed of its entry, or
the count of those for other runs. -/
def pointWritten (s : State) (j run : Nat) (w : StoreWord) : Bool :=
  (takenForEntry s j run && entryWords .plan j [6, 9] w)
    || (run != s.rst.vehicle.run && fieldWords .plan [3] w)

/-- R109, R110, R20: a checked POINT_STATE handed to the unit. -/
def State.takePointState (s : State) (j code : Nat) (report : PointReport) (run : Nat) : State :=
  (s.rtuEvent pointReads
    (s.rtu.pointState s.dau.state s.settings s.rst.vehicle.run j code report run)).rewrite
      (pointWritten s j run)

end Sys2Proof.Machine
end

