-- ==== Sys2Proof/Machine/Tlu.lean ====
section
/-! DEFINITION. The track link unit (chapter 7): the receiver, transmit selection and the telegram in
flight, and the meanings of the rows that are the unit's own events. -/

namespace Sys2Proof.Machine

/-! ### Selection (R133 to R135) -/

def owesRequest (e : PlanEntry) : Bool := decide (0 < e.requestsOwed)

/-- The entries after junction `j`, then those from the head up to and including it. -/
def rotated (plan : List PlanEntry) (j : Nat) : List PlanEntry :=
  let k := plan.findIdx (fun e => e.junction == j) + 1
  plan.drop k ++ plan.take k

/-- R135: the entry the rotation chooses among those that owe REQUESTs. -/
def rotate (plan : List PlanEntry) (last : Option Nat) : Option PlanEntry :=
  match last with
  | some j =>
    if (findEntry plan j).isSome then (rotated plan j).find? owesRequest else plan.find? owesRequest
  | none => plan.find? owesRequest

/-- R132, R114: the telegram of a plan entry. -/
def entryTelegram (k : TelegramKind) (e : PlanEntry) (v : Vehicle) (stops : Sru) : OutTelegram :=
  { kind := k, junction := e.junction, code := e.code, stopping := stoppingFlag stops e.platform,
    priority := e.priority, line := v.line, run := v.run }

/-- R132, R114: the telegram of a CANCEL. -/
def cancelTelegram (c : Cancel) (v : Vehicle) : OutTelegram :=
  { kind := .cancel, junction := c.junction, code := c.code, stopping := false, priority := 0,
    line := v.line, run := v.run }

/-- R134: the first telegram that applies: the oldest CANCEL; outside lockdown the first UPDATE in plan
order, then a rotated REQUEST. -/
def selection (t : Tlu) (u : Rtu) (v : Vehicle) (stops : Sru) : Option OutTelegram :=
  match u.cancels with
  | c :: _ => some (cancelTelegram c v)
  | [] =>
    match t.lockView with
    | .held => none
    | .clear =>
      match u.plan.find? (fun e => e.updateOwed) with
      | some e => some (entryTelegram .update e v stops)
      | none => (rotate u.plan t.lastRequest).map fun e => entryTelegram .request e v stops

/-- R133: the three conditions of a selection. -/
def maySelect (t : Tlu) : Bool :=
  t.transmitter == .idle && t.modeView == .service && t.windowOpen

/-- R134: the TLU after a selection. -/
def Tlu.start (m : OutTelegram) (t : Tlu) : Tlu :=
  { t with
    transmitter := .sending
    inFlight := some m
    lastRequest := if m.kind = .request then some m.junction else t.lastRequest }

/-- R133, R134, R114: the transmitter attempts a selection; the RTU composes the telegram and records it in
the header, and raises the faults of the bad words it reads (R106, R132). -/
def State.attemptSelection (s : State) : State :=
  if maySelect s.tlu then
    match selection s.tlu s.rtu s.rst.vehicle s.sru with
    | some m =>
      (s.putTlu (s.tlu.start m) []).putRtu
        { s.rtu with inFlight := some ⟨m.kind, m.junction, true⟩ } (parityFaults s .rtu pointReads none)
    | none => s.hand (parityFaults s .rtu planWords none)
  else s

/-! ### The receiver (R128 to R131) -/

/-- R131: the count of the error kind rises by one, staying at 255. -/
def Tlu.countError (k : RxError) (t : Tlu) : Tlu :=
  match k with
  | .framing => { t with framingCount := bump t.framingCount }
  | .length => { t with lengthCount := bump t.lengthCount }
  | .check => { t with checkCount := bump t.checkCount }

/-- R128: a bit period in RECOVERING, by its mid-sample. -/
def Tlu.recoveringBit (carrier : Bool) (t : Tlu) : Tlu :=
  match t.receiver with
  | .recovering =>
    if carrier then { t with silent := 0 }
    else if t.silent + 1 = 4 then { t with silent := 4, receiver := .hunting, run := 0 }
    else { t with silent := t.silent + 1 }
  | .hunting => t
  | .receiving => t

/-- R128: the sample points with carrier without a break up to and with this one, 2 standing for two and
more. -/
def carrierRun (carrier : Bool) (run : Nat) : Nat := if carrier then min 2 (run + 1) else 0

/-- R128: the sample points from a mid-sample to the next. A burst whose leading edge lies `run` points before
its mid-sample, and not one, moves the sample points with it. -/
def nextMid (carrier : Bool) (run : Nat) : Nat := if carrier then 17 - min 2 run else 16

/-- R129: a telegram that has met every test; it waits for the end of its silent bit period. -/
def tested (bits : List Bool) : Option Reception :=
  match received bits with
  | some (.error _) => none
  | r => r

/-- R128: the sample points from the mid-sample of a bit period to its last one. -/
def pointsAfterMid : Nat := 14

/-- R128, R129: one sample point at the receiver, and what the telegram comes to with it: dropped at the test it
fails, delivered at the end of the silent bit period. -/
def Tlu.sample (carrier : Bool) (t : Tlu) : Tlu × Option Reception :=
  let u := { t with run := carrierRun carrier t.run, wait := t.wait - 1 }
  match t.receiver with
  | .hunting =>
    if carrier && decide (0 < t.run) then
      ({ u with receiver := .receiving, bits := [true], wait := 16 }, none)
    else (u, none)
  | .receiving =>
    if 1 < t.wait then (u, none)
    else match tested t.bits with
    | some r => ({ u with receiver := .recovering, silent := 0, bits := [], wait := 2 }, some r)
    | none =>
      let bits := t.bits ++ [carrier]
      match received bits with
      | none => ({ u with bits := bits, wait := nextMid carrier t.run }, none)
      | some (.error k) =>
        ({ u with receiver := .recovering, silent := 0, bits := [], wait := 16 }, some (.error k))
      | some _ => ({ u with bits := bits, wait := pointsAfterMid }, none)
  | .recovering =>
    if 1 < t.wait then (u, none) else ({ u.recoveringBit carrier with wait := 16 }, none)

/-- R130, R131: what a telegram came to, handed to its unit or counted and noted. -/
def State.deliver (s : State) : Option Reception → State
  | none => s
  | some .noise => s
  | some (.beacon identity) => s.takeBeacon identity
  | some (.pointState j code report run) => s.takePointState j code report run
  | some (.error k) => s.putTlu (s.tlu.countError k) [.noticeRaise .trackRxError]

/-- R128 to R131: one sample point at the antenna. -/
def State.sample (s : State) (carrier : Bool) : State :=
  let r := s.tlu.sample carrier
  (s.putTlu r.1 []).deliver r.2

/-- R128 to R131: successive sample points at the antenna (log 17). -/
def State.hear (s : State) (heard : List Bool) : State := heard.foldl State.sample s

/-! ### The unit's rows -/

/-- BEACON_TELEGRAM (R90, R128 to R130). -/
def execBeaconTelegram (heard : List Bool) (s : State) : Host.Outcome State Fault Refusal :=
  .next ((s.take (.beaconTelegram heard)).hear heard)

/-- POINT_STATE_TELEGRAM (R109, R110, R128 to R130). -/
def execPointStateTelegram (heard : List Bool) (s : State) : Host.Outcome State Fault Refusal :=
  .next ((s.take (.pointStateTelegram heard)).hear heard)

/-- TRACK_RX_ERROR (R129, R131). -/
def execTrackRxError (heard : List Bool) (s : State) : Host.Outcome State Fault Refusal :=
  .next ((s.take (.trackRxError heard)).hear heard)

/-- RECEIVER_RECOVERING_BIT (R128). -/
def execReceiverRecoveringBit (carrier : Bool) (s : State) : Host.Outcome State Fault Refusal :=
  let s := s.take (.receiverRecoveringBit carrier)
  .next (s.putTlu (s.tlu.recoveringBit carrier) [])

/-- OWED_REPORT (R133). -/
def execOwedReport (s : State) : Host.Outcome State Fault Refusal :=
  .next (s.take .owedReport).attemptSelection

/-- R136: the end of the telegram in flight at the TLU. -/
def Tlu.ended (cfg : Settings) (t : Tlu) : Tlu :=
  { t with transmitter := .gap, inFlight := none, gapTimer := some cfg.gap }

/-- R115: the words the end of the telegram in flight writes. -/
def endedWords (u : Rtu) (w : StoreWord) : Bool :=
  match u.inFlight with
  | some f => f.present && (match f.kind with
      | .request => entryWords .plan f.junction [6, 8] w
      | .update => entryWords .plan f.junction [7] w
      | .cancel => false)
  | none => false

/-- TELEGRAM_END (R115, R136). With nothing in flight there is no end. -/
def execTelegramEnd (s : State) : Host.Outcome State Fault Refusal :=
  let s := s.take .telegramEnd
  match s.tlu.transmitter with
  | .sending =>
    .next (((s.rtuEvent planWords (s.rtu.ended s.dau.state s.settings)).rewrite
      (endedWords s.rtu)).putTlu (s.tlu.ended s.settings) [])
  | .idle => .next s
  | .gap => .next s

/-- GAP_TIMER_EXPIRY (R136, R133): a timer that is stopped does not expire. -/
def execGapTimerExpiry (s : State) : Host.Outcome State Fault Refusal :=
  let s := s.take .gapTimerExpiry
  match s.tlu.gapTimer with
  | some _ =>
    .next (s.putTlu { s.tlu with gapTimer := none, transmitter := .idle } []).attemptSelection
  | none => .next s

/-- R87, R119, R133: the opening changes no entry and no list; the RTU's header shows it, and the TLU takes its
view and attempts a selection. -/
def State.openWindow (s : State) : State :=
  ((s.putRtu { s.rtu with windowOpen := true } []).putTlu { s.tlu with windowOpen := true }
    []).attemptSelection

/-- WINDOW_OPEN (R87, R119, R133). -/
def execWindowOpen (s : State) : Host.Outcome State Fault Refusal :=
  .next (s.take .windowOpen).openWindow

/-- R119: the words a window close writes in every entry. -/
def closeWords : StoreWord → Bool
  | .entry r _ k => r == .plan && (k == 6 || k == 7)
  | .field _ _ => false
  | .active _ _ _ => false
  | .cancel _ _ => false
  | .request _ _ _ => false
  | .notice _ _ => false

/-- WINDOW_CLOSE (R88, R119): the RTU gives up what is owed, and the TLU stops selecting. -/
def execWindowClose (s : State) : Host.Outcome State Fault Refusal :=
  let s := s.take .windowClose
  .next (((s.rtuEvent planWords s.rtu.windowClose).rewrite closeWords).putTlu
    { s.tlu with windowOpen := false } [])

end Sys2Proof.Machine
end

