-- ==== Sys2Proof/Machine/Reports.lean ====
section
/-! DEFINITION. The events that several units take, each unit its own: motion reports, desk state changes,
the teardown and lockdown view changes; and the structural change reports the record store takes. -/

namespace Sys2Proof.Machine

/-! ### Structural changes (R13) -/

/-- STRUCTURAL_CHANGE_REPORT (R13). -/
def execStructuralChangeReport (r : Record) (s : State) : Host.Outcome State Fault Refusal :=
  .next ((s.take (.structuralChangeReport r)).emptySlotsNaming r)

/-- R8, R13, R32: a structural change made by the teardown. Where a desk command brought it, it is a
consequence of the command and empties the slots at once; otherwise the owner reports it (log 29). -/
def State.teardownChange (s : State) (byCommand changed : Bool) (r : Record) : State :=
  if changed then (if byCommand then s.emptySlotsNaming r else s.hand [.structuralChangeReport r]) else s

/-! ### Motion reports (R85) -/

/-- A moving report at the unit that takes it: the DAU (R29), the TDU (R70), the LMU (R45), the FNU
(R172). -/
def State.takeMoving (s : State) : MotionTaker → State
  | .dau => s.putDau s.dau.moving []
  | .tdu => s.tduEvent (movingReads s.dau.state s.tdu) (s.tdu.moving s.dau.state s.settings)
  | .lmu => s.takeCondition .standstill false
  | .fnu => s.putFnu { s.fnu with motion := .moving } []

/-- MOVING_REPORT (R85). -/
def execMovingReport (u : MotionTaker) (s : State) : Host.Outcome State Fault Refusal :=
  .next ((s.take (.movingReport u)).takeMoving u)

/-- A standstill report at the unit that takes it: the DAU (R29), the TDU (R64, R70), the LMU (R45), the
FNU (R172). -/
def State.takeStandstill (s : State) : MotionTaker → State
  | .dau => s.dauEvent s.dau.standstill
  | .tdu => s.tduEvent (standstillReads s.dau.state) (s.tdu.standstill s.dau.state)
  | .lmu => s.takeCondition .standstill true
  | .fnu => s.putFnu { s.fnu with motion := .standstill } []

/-- STANDSTILL_REPORT (R85). -/
def execStandstillReport (u : MotionTaker) (s : State) : Host.Outcome State Fault Refusal :=
  .next ((s.take (.standstillReport u)).takeStandstill u)

/-! ### Desk state changes (R23, R77, R113) -/

/-- DESK_STATE_CHANGE (R23, R77): at the TDU; and at the RTU, whose guard alert goes to the buzzer of a
desk that has claimed (R113). -/
def execDeskStateChange (new : DeskState) (s : State) : Host.Outcome State Fault Refusal :=
  let s := s.take (.deskStateChange new)
  let s := s.tduEvent (deskStateReads new) (s.tdu.deskState s.settings new)
  .next (s.rtuEvent (fun _ => false) (s.rtu, s.rtu.deskState s.dau.state s.settings new))

/-! ### The teardown (R32) -/

/-- R78: the words the TDU's share writes, whatever they held: both demand records, the lock, the DESK and the
DIRECTION entry, the STALE entry's flag and the vigilance state. -/
def tduTeardownWritten (w : StoreWord) : Bool :=
  fieldWords .demandA [0, 1] w || fieldWords .demandB [0, 1] w || fieldWords .ceilings [1] w
    || entryWords .ceilings 0 [0, 1] w || entryWords .ceilings 1 [0, 1] w || entryWords .ceilings 6 [0] w
    || vigilanceWord w

/-- R78: the TDU's share. The demand records' changes reach the slots only as consequences of a command. -/
def State.teardownTdu (s : State) (former : Desk) (byCommand : Bool) : State :=
  let r := s.tdu.teardown s.settings former
  let s' := (s.tduEvent tduTeardownReads r).rewrite tduTeardownWritten
  let s' := s'.teardownChange byCommand (s.tdu.lock != r.1.lock) .ceilings
  let s' := s'.teardownChange byCommand (byCommand && s.tdu.demand.a != r.1.demand.a) .demandA
  s'.teardownChange byCommand (byCommand && s.tdu.demand.b != r.1.demand.b) .demandB

/-- R121: the RTU's share. -/
def State.teardownRtu (s : State) (byCommand : Bool) : State :=
  (s.rtuEvent planWords (s.rtu.teardown s.settings)).teardownChange byCommand
    (!s.rtu.plan.isEmpty) .plan

/-- R151: the words of the stop record that clearing it entirely writes. -/
def clearAllWritten : StoreWord → Bool := fieldWords .stops [0, 1, 2, 3]

/-- R151: the SRU's share. -/
def State.teardownSru (s : State) (byCommand : Bool) : State :=
  ((s.sruEvent stopWords (s.sru.clearAll, latchCondition s.sru s.sru.clearAll)).rewrite
    clearAllWritten).teardownChange byCommand (latchSet s.sru) .stops

/-- R169: the SDU's share. -/
def State.teardownSdu (s : State) (former : Desk) (byCommand : Bool) : State :=
  (s.sduEvent (sduTeardownReads s.settings former s.sdu) (s.sdu.teardown s.settings former)).teardownChange byCommand
    (s.sdu.requests.any (tornDown former)) .sound

/-- R95: the LCU's share. -/
def State.teardownLcu (s : State) : State := s.putLcu { s.lcu with actions := [] } []

/-- R32: the share of the unit that takes the NO_DESK event. -/
def State.teardownAt (s : State) (former : Desk) (byCommand : Bool) : TeardownTaker → State
  | .tdu => s.teardownTdu former byCommand
  | .rtu => s.teardownRtu byCommand
  | .sru => s.teardownSru byCommand
  | .sdu => s.teardownSdu former byCommand
  | .lcu => s.teardownLcu

/-- The NO_DESK event of a unit, taken off the outstanding ones. -/
def State.takeTeardown (s : State) (u : TeardownTaker) (former : Desk) (byCommand : Bool) : State :=
  (s.take (.noDeskTeardown u former byCommand)).teardownAt former byCommand u

/-- NO_DESK_TEARDOWN (R32). -/
def execNoDeskTeardown (u : TeardownTaker) (former : Desk) (byCommand : Bool) (s : State) :
    Host.Outcome State Fault Refusal :=
  .next (s.takeTeardown u former byCommand)

/-! ### Lockdown views (R176, R178) -/

/-- R59, R68: the LOCKDOWN entry and the view of the TDU. -/
def Tdu.lockdown (desk : DeskState) (view : LockState) (t : Tdu) : Tdu :=
  let t := { t with lockView := view }
  match view with
  | .held => t.setEntry desk .lockdown ⟨true, Config.lockdownCeiling⟩
  | .clear => t.dropEntry .lockdown

/-- R138, R133: the view of the TLU; its change from HELD to CLEAR attempts a selection. -/
def State.tluLockdown (s : State) (view : LockState) : State :=
  let s' := s.putTlu { s.tlu with lockView := view } []
  match s.tlu.lockView, view with
  | .held, .clear => s'.attemptSelection
  | .held, .held => s'
  | .clear, _ => s'

/-- R169: the SDU records the state in both modes and acts on it in SERVICE. -/
def State.sduLockdown (s : State) (view : LockState) : State :=
  match s.rst.mode with
  | .configuring => s.putSdu { s.sdu with lockView := view } []
  | .service =>
    (s.sduEvent (lockdownReads s.settings view s.sdu) (s.sdu.lockdown s.settings view)).rewrite
      (lockdownWritten s.settings view s.sdu)

/-- R176: a change of the lockdown state at the unit that takes it. -/
def State.takeLockdown (s : State) (view : LockState) : LockTaker → State
  | .tdu => s.entryEvent .lockdown (fun _ => false) (s.tdu.lockdown s.dau.state view)
  | .lmu => s.takeCondition .lockdown (view == .held)
  | .tlu => s.tluLockdown view
  | .sdu => s.sduLockdown view

/-- LOCKDOWN_VIEW_CHANGE (R176). -/
def execLockdownViewChange (u : LockTaker) (view : LockState) (s : State) :
    Host.Outcome State Fault Refusal :=
  .next ((s.take (.lockdownViewChange u view)).takeLockdown view u)

end Sys2Proof.Machine
end

