-- ==== Sys2Proof/Machine/Engine.lean ====
section
/-! DEFINITION. The port interface's slots, the arbiter and the access engine (chapters 1 and 11): the
order of checks, reads, writes and commands, and what a served request does to the reservation slots. -/

namespace Sys2Proof.Machine

/-! ### Events taken before a request (R23, R32, log 4) -/

/-- The state an outcome leaves. -/
def State.after (s : State) : Host.Outcome State Fault Refusal → State
  | .next t => t
  | .fault _ => s
  | .refused _ => s

/-- An event handed on to the desk authority unit or to a unit that has a share of the teardown, taken by that
unit; any other stays outstanding. -/
def State.takeEvent (s : State) (c : Instr) : State :=
  match c with
  | .noDeskTeardown u former byCommand => s.after (execNoDeskTeardown u former byCommand s)
  | .deskStateChange new => s.after (execDeskStateChange new s)
  | .leadingEndPublished e => s.after (execLeadingEndPublished e s)
  | .pointGuardEntryChange active value => s.after (execPointGuardEntryChange active value s)
  | .tractionPermitEvent value => s.after (execTractionPermitEvent value s)
  | .vigilancePedalEvent d value => s.after (execVigilancePedalEvent d value s)
  | .keyPermitEvent d value => s.after (execKeyPermitEvent d value s)
  | .movingReport .dau => s.after (execMovingReport .dau s)
  | .movingReport .tdu => s.after (execMovingReport .tdu s)
  | .standstillReport .dau => s.after (execStandstillReport .dau s)
  | .standstillReport .tdu => s.after (execStandstillReport .tdu s)
  | .armRoute j => s.after (execArmRoute j s)
  | .clearance j => s.after (execClearance j s)
  | .lateDecisionReport p => s.after (execLateDecisionReport p s)
  | .windowOpen => s.after (execWindowOpen s)
  | .windowClose => s.after (execWindowClose s)
  | .owedReport => s.after (execOwedReport s)
  | .atStopEvent value => s.after (execAtStopEvent value s)
  | .stopZoneEnter p mandatory => s.after (execStopZoneEnter p mandatory s)
  | .stopZoneLeave p => s.after (execStopZoneLeave p s)
  | .hardwareSoundAdd src snd pattern => s.after (execHardwareSoundAdd src snd pattern s)
  | .hardwareSoundRemove src snd => s.after (execHardwareSoundRemove src snd s)
  | .directSoundPermitEvent k value => s.after (execDirectSoundPermitEvent k value s)
  | .lockdownViewChange u view => s.after (execLockdownViewChange u view s)
  | .tachPulse => s.after (execTachPulse s)
  | .conditionChange cond value => s.after (execConditionChange cond value s)
  | _ => s

def State.takeAll (s : State) (l : List Instr) : State := l.foldl State.takeEvent s

/-- The events that the DAU takes and the units with a share of the teardown: the TDU, RTU, SRU, SDU and LCU, and
the TLU, which acts on the route unit's plan. -/
def shareRow : Instr → Bool
  | .noDeskTeardown _ _ _ => true
  | .deskStateChange _ => true
  | .leadingEndPublished _ => true
  | .pointGuardEntryChange _ _ => true
  | .tractionPermitEvent _ => true
  | .vigilancePedalEvent _ _ => true
  | .keyPermitEvent _ _ => true
  | .movingReport u => u == .dau || u == .tdu
  | .standstillReport u => u == .dau || u == .tdu
  | .armRoute _ => true
  | .clearance _ => true
  | .lateDecisionReport _ => true
  | .windowOpen => true
  | .windowClose => true
  | .owedReport => true
  | .atStopEvent _ => true
  | .stopZoneEnter _ _ => true
  | .stopZoneLeave _ => true
  | .hardwareSoundAdd _ _ _ => true
  | .hardwareSoundRemove _ _ => true
  | .directSoundPermitEvent _ _ => true
  | .lockdownViewChange u _ => u != .lmu
  | .tachPulse => true
  | _ => false

/-- R23, R32: a desk state change, or a unit's share of the teardown. -/
def deskEvent : Instr → Bool
  | .noDeskTeardown _ _ _ => true
  | .deskStateChange _ => true
  | _ => false

/-- R78.3, R121.3: what a share hands on to another unit and the teardown is not complete without. -/
def shareConsequence : Instr → Bool
  | .leadingEndPublished _ => true
  | .pointGuardEntryChange _ _ => true
  | _ => false

/-- The list up to and with the last element that has a property. -/
def throughLast (good : Instr → Bool) (l : List Instr) : List Instr :=
  (l.reverse.dropWhile fun c => !good c).reverse

/-- R23, R32, R33: each unit takes, in the order handed on, its events up to the last outstanding desk state change
or share of the teardown; the DAU with them, so that a report that one of them has taken is not taken by the other
behind a claim. -/
def State.takeShares (s : State) : State := s.takeAll ((throughLast deskEvent s.handed).filter shareRow)

/-- R28, R29: every desk state change that is outstanding, with those that the DAU's own events in front of it bring:
at most a change to RELEASING_x and one to NO_DESK. -/
def State.takeDeskEvents (s : State) : State := s.takeShares.takeShares.takeShares

/-- R32: every unit's share of the teardown, with what it brings to DESK and CEILINGS, is complete before a port
request is served (log 4). -/
def State.completeTeardown (s : State) : State :=
  s.takeDeskEvents.takeAll (s.takeDeskEvents.handed.filter shareConsequence)

/-! ### The command catalogue (11.2) -/

/-- The port commands of the catalogue, in the order of their codes. -/
inductive CommandName where
  | deskClaim | deskRelease | deskForceRelease | supervisorCeiling | routeInsert | routeSetCode
  | routeCancel | routeOverride | planSync | stopSet | stopClear | soundStart | soundStop | faultAck
  | lockdownRelease | noticeClear | noticeEnable | configCommit | reconfigure
deriving DecidableEq, Repr

def commandList : List CommandName :=
  [.deskClaim, .deskRelease, .deskForceRelease, .supervisorCeiling, .routeInsert, .routeSetCode,
    .routeCancel, .routeOverride, .planSync, .stopSet, .stopClear, .soundStart, .soundStop, .faultAck,
    .lockdownRelease, .noticeClear, .noticeEnable, .configCommit, .reconfigure]

/-- 11.2: the code of a command. -/
def commandCode : CommandName → Byte
  | .deskClaim => 0x41
  | .deskRelease => 0x42
  | .deskForceRelease => 0x43
  | .supervisorCeiling => 0x48
  | .routeInsert => 0x50
  | .routeSetCode => 0x51
  | .routeCancel => 0x52
  | .routeOverride => 0x53
  | .planSync => 0x54
  | .stopSet => 0x58
  | .stopClear => 0x59
  | .soundStart => 0x60
  | .soundStop => 0x61
  | .faultAck => 0x68
  | .lockdownRelease => 0x69
  | .noticeClear => 0x70
  | .noticeEnable => 0x71
  | .configCommit => 0x78
  | .reconfigure => 0x79

def commandOfCode (b : Byte) : Option CommandName := commandList.find? fun c => commandCode c == b

/-- 11.2: the target record of a command. -/
def commandTarget : CommandName → Record
  | .deskClaim => .desk
  | .deskRelease => .desk
  | .deskForceRelease => .desk
  | .supervisorCeiling => .ceilings
  | .routeInsert => .plan
  | .routeSetCode => .plan
  | .routeCancel => .plan
  | .routeOverride => .plan
  | .planSync => .plan
  | .stopSet => .stops
  | .stopClear => .stops
  | .soundStart => .sound
  | .soundStop => .sound
  | .faultAck => .fault
  | .lockdownRelease => .fault
  | .noticeClear => .notices
  | .noticeEnable => .notices
  | .configCommit => .mode
  | .reconfigure => .mode

/-! ### Modes and ports (R5) -/

/-- R5's mode column for a record: `none` admits both modes. -/
def recordMode : Record → Option Mode
  | .desk => some .service
  | .plan => some .service
  | .stops => some .service
  | .sound => some .service
  | .lines => some .configuring
  | .cells => some .configuring
  | .permits => some .configuring
  | .locations => some .configuring
  | .patterns => some .configuring
  | .settings => some .configuring
  | .demandA => none
  | .demandB => none
  | .ceilings => none
  | .tractionStatus => none
  | .stations => none
  | .fault => none
  | .notices => none
  | .vehicle => none
  | .mode => none

def modeAdmits (m : Mode) (r : Record) : Bool :=
  match recordMode r with
  | some x => x == m
  | none => true

/-- R5: the port of the desk in ACTIVE_x or RELEASING_x. -/
def isActiveDesk (desk : DeskState) (p : Port) : Bool :=
  match portDesk p with
  | some d => deskHolder desk == some d
  | none => false

/-- R5: the ports a WRITE of a record is permitted from. -/
def mayWrite (desk : DeskState) (p : Port) : Record → Bool
  | .demandA => p == .deskA && desk == .active .a
  | .demandB => p == .deskB && desk == .active .b
  | .vehicle => p == .supervisor
  | .lines => p == .supervisor
  | .cells => p == .supervisor
  | .permits => p == .supervisor
  | .locations => p == .supervisor
  | .patterns => p == .supervisor
  | .settings => p == .supervisor
  | .desk => false
  | .ceilings => false
  | .tractionStatus => false
  | .plan => false
  | .stops => false
  | .stations => false
  | .sound => false
  | .fault => false
  | .notices => false
  | .mode => false

/-- R5: the ports a command is permitted from. -/
def mayCommand (desk : DeskState) (p : Port) : CommandName → Bool
  | .deskClaim => p != .supervisor
  | .deskRelease => p != .supervisor
  | .deskForceRelease => p == .supervisor
  | .supervisorCeiling => p == .supervisor
  | .routeInsert => p == .supervisor || isActiveDesk desk p
  | .routeSetCode => p == .supervisor || isActiveDesk desk p
  | .routeCancel => p == .supervisor || isActiveDesk desk p
  | .routeOverride => isActiveDesk desk p
  | .planSync => p == .supervisor || isActiveDesk desk p
  | .stopSet => isActiveDesk desk p
  | .stopClear => p == .supervisor || isActiveDesk desk p
  | .soundStart => true
  | .soundStop => true
  | .faultAck => p == .supervisor || isActiveDesk desk p
  | .lockdownRelease => p == .supervisor
  | .noticeClear => true
  | .noticeEnable => true
  | .configCommit => p == .supervisor
  | .reconfigure => p == .supervisor

/-! ### Writes (R7) -/

/-- R7, R191: index 0xFF names the whole record. -/
def isWhole (index : Byte) : Bool := index == 0xFF

/-- R19: the words of a record that a taken WRITE stores with good parity. -/
def writtenWords (r : Record) (index : Byte) : StoreWord → Bool
  | .field x _ => x == r && isWhole index
  | .entry x i _ => x == r && (isWhole index || i == index.toNat)
  | .active _ _ _ => false
  | .cancel _ _ => false
  | .request _ _ _ => false
  | .notice _ _ => false

/-- R7: the contents of a whole-only record; `none` is OUT_OF_RANGE. -/
def readWhole {α : Type} (get : Reader α) (index : Byte) (contents : List Byte) : Option α :=
  if isWhole index then readAll get contents else none

/-- R7: the table a WRITE of a table record would produce; `none` is OUT_OF_RANGE. -/
def writeTable {α : Type} {n : Nat} (get : Reader α) (t : Table α n) (index : Byte)
    (contents : List Byte) : Option (Table α n) :=
  if isWhole index then readAll (getTable get n) contents
  else if h : index.toNat < n then (readAll get contents).map fun x => t.set index.toNat x
  else none

/-- DEMAND_A or DEMAND_B at the TDU (R57): the words are stored with good parity, and a change of the
resume lock empties every slot naming CEILINGS. -/
def demandWriteAnswer (d : Desk) (index : Byte) (contents : List Byte) (s : State) : Answer :=
  match readWhole getDemand index contents with
  | none => .refuse s .outOfRange
  | some new =>
    let t := s.tdu.demandWrite s.dau.state s.settings d new
    let s' := (s.rewrite (writtenWords (demandRecord d) index)).tduEvent (settingWords [.staleTime])
      (t, publishTaken s.dau.state s.tdu t)
    ⟨if t.lock = s.tdu.lock then s' else s'.emptySlotsNaming .ceilings, .done [],
      s.tdu.demand.get d != new⟩

/-- VEHICLE at the record store (R1, R7). -/
def vehicleWriteAnswer (index : Byte) (contents : List Byte) (s : State) : Answer :=
  match readWhole getVehicle index contents with
  | none => .refuse s .outOfRange
  | some v =>
    ⟨{ s with rst := { s.rst with vehicle := v } }.rewrite (writtenWords .vehicle index), .done [],
      s.rst.vehicle != v⟩

/-- R34: a written no-desk ceiling is the DESK entry's value at once. -/
def Tdu.newNoDeskCeiling (desk : DeskState) (value : Int) (t : Tdu) : Tdu :=
  match desk with
  | .noDesk => t.setEntry desk .desk ⟨true, value⟩
  | .active _ => t
  | .releasing _ => t

/-- SETTINGS at the units (R34, R80, R96, R125, R139, R157, R171). -/
def settingsWriteAnswer (index : Byte) (contents : List Byte) (s : State) : Answer :=
  match readWhole getSettings index contents with
  | none => .refuse s .outOfRange
  | some c =>
    let s' := { s with settings := c }.rewrite (writtenWords .settings index)
    ⟨s'.tduEvent (fun _ => false)
        (s.tdu.newNoDeskCeiling s.dau.state c.noDeskCeiling,
          lockReport s.tdu (s.tdu.newNoDeskCeiling s.dau.state c.noDeskCeiling)),
      .done [], s.settings != c⟩

/-- R40: two lines of the table are TACH_INPUT. -/
def twoTachs (t : Table LineEntry 32) : Bool :=
  decide (1 < t.toList.countP fun e => e.group == .tachInput)

/-- The words of a table record that a WRITE does not store, which its validation reads (log 8). A WRITE of one
entry that meets a bad word there is taken or refused as if it were good; taken, it raises the fault; refused
with DUPLICATE or CONFIG_LOOP, it raises none (log 34). -/
def otherEntries (r : Record) (index : Byte) (w : StoreWord) : Bool :=
  wordRecord w == r && !activeWords w && !writtenWords r index w

/-- LINES at the LMU (R40). -/
def linesWriteAnswer (index : Byte) (contents : List Byte) (s : State) : Answer :=
  match writeTable getLine s.lmu.written.lines index contents with
  | none => .refuse s .outOfRange
  | some t =>
    if twoTachs t then .refuse s .duplicate
    else
      let l := { s.lmu with written := { s.lmu.written with lines := t } }
      ⟨(s.putLmu l (parityFaults s .lmu (otherEntries .lines index) none)).rewrite
          (writtenWords .lines index), .done [], s.lmu.written.lines != t⟩

/-- CELLS at the LMU (R46). -/
def cellsWriteAnswer (index : Byte) (contents : List Byte) (s : State) : Answer :=
  match writeTable getCell s.lmu.written.cells index contents with
  | none => .refuse s .outOfRange
  | some t =>
    if hasCycle t then .refuse s .configLoop
    else
      let l := { s.lmu with written := { s.lmu.written with cells := t } }
      ⟨(s.putLmu l (parityFaults s .lmu (otherEntries .cells index) none)).rewrite
          (writtenWords .cells index), .done [], s.lmu.written.cells != t⟩

/-- PERMITS at the LMU (R49). -/
def permitsWriteAnswer (index : Byte) (contents : List Byte) (s : State) : Answer :=
  match writeTable getPermit s.lmu.written.permits index contents with
  | none => .refuse s .outOfRange
  | some t =>
    let l := { s.lmu with written := { s.lmu.written with permits := t } }
    ⟨(s.putLmu l []).rewrite (writtenWords .permits index), .done [], s.lmu.written.permits != t⟩

/-- LOCATIONS at the LCU (R89). -/
def locationsWriteAnswer (index : Byte) (contents : List Byte) (s : State) : Answer :=
  match writeTable getLocation s.lcu.table index contents with
  | none => .refuse s .outOfRange
  | some t =>
    ⟨(s.putLcu { s.lcu with table := t } []).rewrite (writtenWords .locations index), .done [],
      s.lcu.table != t⟩

/-- R159: a pattern that has steps but would play in no time. -/
def playsInNoTime (p : Pattern) : Bool :=
  !p.steps.isEmpty && p.steps.all fun t => t.on == 0 && t.off == 0

/-- PATTERNS at the SDU (R159). -/
def patternsWriteAnswer (index : Byte) (contents : List Byte) (s : State) : Answer :=
  match writeTable getPattern s.sdu.patterns index contents with
  | none => .refuse s .outOfRange
  | some t =>
    if t.toList.any playsInNoTime then .refuse s .badPattern
    else
      ⟨(s.putSdu { s.sdu with patterns := t } []).rewrite (writtenWords .patterns index), .done [],
        s.sdu.patterns != t⟩

/-- R6 step 5 of a WRITE that has passed the checks before it. A record no port may write comes to none
of its owner's checks; were it to, it is NOT_AUTHORISED (R5). -/
def writeAnswer (index : Byte) (contents : List Byte) (s : State) : Record → Answer
  | .demandA => demandWriteAnswer .a index contents s
  | .demandB => demandWriteAnswer .b index contents s
  | .vehicle => vehicleWriteAnswer index contents s
  | .lines => linesWriteAnswer index contents s
  | .cells => cellsWriteAnswer index contents s
  | .permits => permitsWriteAnswer index contents s
  | .locations => locationsWriteAnswer index contents s
  | .patterns => patternsWriteAnswer index contents s
  | .settings => settingsWriteAnswer index contents s
  | .desk => .refuse s .notAuthorised
  | .ceilings => .refuse s .notAuthorised
  | .tractionStatus => .refuse s .notAuthorised
  | .plan => .refuse s .notAuthorised
  | .stops => .refuse s .notAuthorised
  | .stations => .refuse s .notAuthorised
  | .sound => .refuse s .notAuthorised
  | .fault => .refuse s .notAuthorised
  | .notices => .refuse s .notAuthorised
  | .mode => .refuse s .notAuthorised

/-! ### Desk commands (R25 to R27) -/

/-- A desk command that is taken: the DAU's change, made by a port (R24). -/
def State.deskTaken (s : State) (new : DeskState) (cause : LastChange) : Answer :=
  let r := s.dau.change new cause true
  ⟨s.putDau r.1 r.2, .done [], true⟩

/-- DESK_CLAIM at the DAU (R25). -/
def deskClaimAnswer (p : Port) (args : List Byte) (s : State) : Answer :=
  match readAll getNothing args, portDesk p with
  | some _, some d =>
    if meetsBad s deskWords then .storeError s .dau deskWords
    else if s.dau.mayClaim d then s.deskTaken (.active d) .claimed
    else .refuse s .wrongState
  | some _, none => .refuse s .notAuthorised
  | none, _ => .refuse s .outOfRange

/-- R26: the words a release reads: the desk record and the lever of the port's desk. -/
def releaseReads (d : Desk) (w : StoreWord) : Bool := deskWords w || w == .field (demandRecord d) 0

/-- DESK_RELEASE at the DAU (R26). -/
def deskReleaseAnswer (p : Port) (args : List Byte) (s : State) : Answer :=
  match readAll getNothing args, portDesk p with
  | some _, some d =>
    if meetsBad s (releaseReads d) then .storeError s .dau (releaseReads d)
    else if s.dau.mayRelease d (s.tdu.demand.get d).lever then s.deskTaken .noDesk .released
    else .refuse s .wrongState
  | some _, none => .refuse s .notAuthorised
  | none, _ => .refuse s .outOfRange

/-- DESK_FORCE_RELEASE at the DAU (R27). -/
def deskForceReleaseAnswer (args : List Byte) (s : State) : Answer :=
  match readAll getNothing args with
  | none => .refuse s .outOfRange
  | some _ =>
    if meetsBad s deskWords then .storeError s .dau deskWords
    else if s.dau.mayForce then s.deskTaken .noDesk .forceReleased
    else .refuse s .wrongState

/-! ### SUPERVISOR_CEILING (R61) -/

/-- R61: the SUPERVISOR entry; inactive, it stores the value carried. -/
def Tdu.supervisorCeiling (desk : DeskState) (active : Bool) (value : Int) (t : Tdu) : Tdu :=
  t.setEntry desk .supervisor ⟨active, value⟩

/-- SUPERVISOR_CEILING at the TDU (R61, R81). It changes CEILINGS for reservations, and empties the other ports'
slots (R12), where the resume lock takes a new value; a change of the entry alone leaves them (R14, R60, log 35). -/
def supervisorCeilingAnswer (args : List Byte) (s : State) : Answer :=
  match readAll getCeilingArgs args with
  | none => .refuse s .outOfRange
  | some a =>
    if meetsBad s (ceilingWords s.dau.state) then .storeError s .tdu (ceilingWords s.dau.state)
    else
      let t := s.tdu.supervisorCeiling s.dau.state a.1 a.2
      ⟨s.putTdu t [], .done [], t.lock != s.tdu.lock⟩

/-! ### CONFIG_COMMIT and RECONFIGURE (R189, R190) -/

/-- R189 check 3: the words of the written LINES, CELLS and PERMITS tables. -/
def writtenTables (w : StoreWord) : Bool :=
  (wordRecord w == .lines || wordRecord w == .cells || wordRecord w == .permits) && !activeWords w

def State.setMode (s : State) (m : Mode) : State := { s with rst := { s.rst with mode := m } }

/-- R143, R157: the words the start of polling reads. -/
def startReads (cfg : Settings) (w : StoreWord) : Bool :=
  settingWords [.stationCount] w || (decide (cfg.stationCount ≠ 0) && pollReads 1 w)

/-- R189: the parts of a commit, after the change of mode: the LMU (R52, R55), the SRU (R143), the TLU
(R133) and the SDU (R169). The SDU offers on the values of HORN_DIRECT and BELL_DIRECT recorded before the commit: a
change of them that the settle of R52 delivers is taken in a later step, the model's choice (log 41). -/
def State.commit (s : State) : State :=
  let s := (s.setMode .service).rewrite activeWords
  let s := s.settleFrom s.lmu.commit
  let s := s.sruEvent (startReads s.settings) (s.sru.startPolling s.settings, [])
  let s := (s.putTlu { s.tlu with modeView := .service } []).attemptSelection
  (s.sduEvent (commitSoundReads s.settings s.sdu) (s.sdu.commit s.settings)).rewrite
    (offersWritten s.settings (commitOffers s.settings s.sdu) s.sdu)

/-- CONFIG_COMMIT (R189). -/
def configCommitAnswer (args : List Byte) (s : State) : Answer :=
  match readAll getNothing args with
  | none => .refuse s .outOfRange
  | some _ =>
    if meetsBad s modeWord then .storeError s .rst modeWord
    else if s.rst.mode != .configuring then .refuse s .wrongState
    else if !mayCommit s.lmu.written then .refuse s .configIncomplete
    else if meetsBad s writtenTables then .storeError s .rst writtenTables
    else ⟨s.commit, .done [], true⟩

/-- R190: the conditions of a RECONFIGURE; the motion is the location unit's (log 11). -/
def mayReconfigure (s : State) : Bool :=
  s.rst.mode == .service && s.dau.state == .noDesk && s.lcu.motion == .standstill

/-- R112, R113, R122: the guard's end within RECONFIGURE: the TDU takes the entry, the LMU the condition. -/
def State.endGuard (s : State) (plan : List PlanEntry) : State :=
  if (guardEntry s.settings.creep plan).active then
    (s.entryEvent .pointGuard (fun _ => false)
      (s.tdu.pointGuard s.dau.state false s.settings.creep)).takeCondition .guardActive false
  else s

/-- R190 step 2, R122: the route unit's part. A bad word of the plan is no matter: emptying reads none
(log 36). -/
def State.reconfigureRtu (s : State) : State :=
  (s.putRtu s.rtu.reconfigure.1 s.rtu.reconfigure.2).endGuard s.rtu.plan

/-- R190 step 3, R88, R95: the location unit's part, with the window's close at the track link unit. -/
def State.reconfigureLcu (s : State) : State :=
  (s.putLcu { s.lcu with actions := [], window := 0 } []).putTlu { s.tlu with windowOpen := false } []

/-- R190 step 4: the stop request unit's part, with the end of STOP_LATCHED at the LMU. -/
def State.reconfigureSru (s : State) : State :=
  let s' := (s.sruEvent stopWords (s.sru.clearAll.stopPolling, [])).rewrite clearAllWritten
  if latchSet s.sru then s'.takeCondition .stopLatched false else s'

/-- The events on their way to the route, track link and line and matrix units that RECONFIGURE acts on after
them (log 21). -/
def beforeReconfigure : Instr → Bool
  | .windowOpen => true
  | .windowClose => true
  | .conditionChange _ _ => true
  | _ => false

/-- R190 steps 1 to 6 in their order. Step 5 empties the sound list and idles the players over bad words of SOUND
with no refusal and no fault, and the lines that its players drove are read by the settle of step 6 alone: both are
the model's choice (log 36). -/
def State.reconfigureParts (s : State) : State :=
  let s := { s with rst := { s.rst with slots := ⟨none, none, none⟩ } }
  let s := s.reconfigureRtu.reconfigureLcu.reconfigureSru
  let s := (s.putSdu s.sdu.reconfigure []).rewrite playersWritten
  let s := (s.setMode .configuring).takeCondition .serviceMode false
  s.putTlu { s.tlu with modeView := .configuring, lastRequest := none } []

/-- R190: RECONFIGURE, after the events on their way to the units it acts on. -/
def State.reconfigure (s : State) : State :=
  (s.takeAll (s.handed.filter beforeReconfigure)).reconfigureParts

/-- RECONFIGURE (R190). A bad word of MODE refuses it (R20); one of PLAN, STOPS or SOUND does not (log 36). -/
def reconfigureAnswer (args : List Byte) (s : State) : Answer :=
  match readAll getNothing args with
  | none => .refuse s .outOfRange
  | some _ =>
    if meetsBad s modeWord then .storeError s .rst modeWord
    else if mayReconfigure s then ⟨s.reconfigure, .done [], true⟩ else .refuse s .wrongState

/-- R6 step 5, R8: a command at the owner of its target record. -/
def commandAnswer (p : Port) (args : List Byte) (s : State) : CommandName → Answer
  | .deskClaim => deskClaimAnswer p args s
  | .deskRelease => deskReleaseAnswer p args s
  | .deskForceRelease => deskForceReleaseAnswer args s
  | .supervisorCeiling => supervisorCeilingAnswer args s
  | .routeInsert => routeInsertAnswer p args s
  | .routeSetCode => routeSetCodeAnswer args s
  | .routeCancel => routeCancelAnswer args s
  | .routeOverride => routeOverrideAnswer args s
  | .planSync => planSyncAnswer args s
  | .stopSet => stopSetAnswer args s
  | .stopClear => stopClearAnswer args s
  | .soundStart => soundStartAnswer p args s
  | .soundStop => soundStopAnswer p args s
  | .faultAck => faultAckAnswer args s
  | .lockdownRelease => lockdownReleaseAnswer args s
  | .noticeClear => noticeClearAnswer p args s
  | .noticeEnable => noticeEnableAnswer p args s
  | .configCommit => configCommitAnswer args s
  | .reconfigure => reconfigureAnswer args s

/-! ### Serving a request (R3, R6, R10 to R12) -/

/-- What the engine makes of a request: the state, and the response. -/
abbrev Served := State × Response

def refusal (why : Reason) : Response := ⟨.refused, why, []⟩

/-- R3: the response of an owner's answer. -/
def responseOf : Verdict → Response
  | .done payload => ⟨.done, .none, payload⟩
  | .retry => ⟨.retry, .none, []⟩
  | .refused why => refusal why

/-- R9: a port's reservation slot takes a value. -/
def State.setSlot (s : State) (p : Port) (r : Option Record) : State :=
  { s with rst := { s.rst with slots := s.rst.slots.set p r } }

/-- R11: a conditional request that is served consumes its port's slot, unless it is answered RETRY. -/
def State.consume (s : State) (p : Port) (cond : Bool) (v : Verdict) : State :=
  if cond && v != .retry then s.setSlot p none else s

/-- R12: a request that changes a record empties every other port's slot that names it. -/
def State.cancelOthers (s : State) (p : Port) (changed : Bool) (r : Record) : State :=
  if changed then { s with rst := { s.rst with slots := emptyOtherSlots p r s.rst.slots } } else s

/-- R6 steps 2 to 6, R11, R12: a WRITE or COMMAND whose target record is known. -/
def State.serveChecked (s : State) (p : Port) (cond : Bool) (r : Record) (modeOk portOk : Bool)
    (owner : State → Answer) : Served :=
  let a : Answer :=
    if cond && s.rst.slots.get p != some r then .refuse s .noReservation
    else if !modeOk then .refuse s .configLocked
    else if !portOk then .refuse s .notAuthorised
    else owner s
  ((a.state.cancelOthers p a.changed r).consume p cond a.verdict, responseOf a.verdict)

/-- R6 step 1, R11: a WRITE or COMMAND that names nothing in the catalogue. -/
def State.serveUnknown (s : State) (p : Port) (cond : Bool) : Served :=
  (s.consume p cond (.refused .unknownTarget), refusal .unknownTarget)

/-- R181, R158: what a read does besides returning the payload: a read of NOTICES marks the port's
pending causes seen, and a whole read of SOUND draws the five free times remaining (log 5). -/
def State.afterRead (s : State) (p : Port) (r : Record) (index : Byte) : State :=
  match r with
  | .notices => s.putFnu (s.fnu.atPort p markSeen) []
  | .sound => if isWhole index then { s with draws := s.draws + 5 } else s
  | .desk => s
  | .demandA => s
  | .demandB => s
  | .ceilings => s
  | .tractionStatus => s
  | .plan => s
  | .stops => s
  | .stations => s
  | .fault => s
  | .vehicle => s
  | .lines => s
  | .cells => s
  | .permits => s
  | .locations => s
  | .patterns => s
  | .settings => s
  | .mode => s

/-- R4, R6, R10, R19: a READ or READ_RESERVE. A refused one raises STORE_PARITY once, however many bad words it
would return. The context is the record read, also where the bad word is one of SETTINGS that a whole read of SOUND
or STATIONS returns: the model's choice (log 37). -/
def State.serveRead (s : State) (p : Port) (reserve : Bool) (target index : Byte) : Served :=
  match recordOfCode target with
  | none => (s, refusal .unknownTarget)
  | some r =>
    if reserve && !reservable r then (s, refusal .wrongState)
    else match readView s p r index with
    | none => (s, refusal .outOfRange)
    | some payload =>
      if meetsBad s (readWords s p r index) then
        (s.hand [.severeFault .storeParity .rst (.record r) false none], refusal .storeError)
      else
        let s' := s.afterRead p r index
        (if reserve then s'.setSlot p (some r) else s', ⟨.done, .none, payload⟩)

/-- R2, R3: one request, served whole. -/
def State.answerRequest (s : State) (p : Port) : Request → Served
  | .null => (s, ⟨.done, .none, []⟩)
  | .read target index => s.serveRead p false target index
  | .readReserve target index => s.serveRead p true target index
  | .write cond target index contents =>
    match recordOfCode target with
    | none => s.serveUnknown p cond
    | some r =>
      s.serveChecked p cond r (modeAdmits s.rst.mode r) (mayWrite s.dau.state p r)
        fun x => writeAnswer index contents x r
  | .command cond code args =>
    match commandOfCode code with
    | none => s.serveUnknown p cond
    | some c =>
      s.serveChecked p cond (commandTarget c) (modeAdmits s.rst.mode (commandTarget c))
        (mayCommand s.dau.state p c) fun x => commandAnswer p args x c

/-! ### The slots of the port interface and the arbiter (R16, R17, R185) -/

def State.atPort (s : State) (p : Port) (g : PortSlots → PortSlots) : State :=
  { s with pif := s.pif.set p (g (s.pif.get p)) }

def isWaiting (s : State) (p : Port) : Bool := (s.pif.get p).waiting.isSome

/-- R16: the order among waiting requests. -/
def arbiterOrder (desk : DeskState) : List Port :=
  match deskHolder desk with
  | some .a => [.deskA, .supervisor, .deskB]
  | some .b => [.deskB, .supervisor, .deskA]
  | none => [.supervisor, .deskA, .deskB]

/-- R16, R17: the port whose waiting request the arbiter chooses. -/
def arbiterChoice (s : State) : Option Port :=
  if isWaiting s .supervisor && decide (s.settings.promotion ≤ s.rst.passOver) then some .supervisor
  else (arbiterOrder s.dau.state).find? (isWaiting s)

/-- R17: the count rises by one, up to 4. -/
def raisePass (n : Nat) : Nat := min 4 (n + 1)

/-- R17: a Supervisor request that passes its checks while the engine serves a desk's request raises the count
once (log 30). -/
def Rst.arrives (x : Rst) (p : Port) : Rst :=
  match p, x.served with
  | .supervisor, some .deskA => { x with passOver := raisePass x.passOver, served := none }
  | .supervisor, some .deskB => { x with passOver := raisePass x.passOver, served := none }
  | _, _ => x

/-- R17: the pass-over count after a service of port `p`; a Supervisor request that arrives within the service
counts as it arrives (`Rst.arrives`). -/
def nextPassOver (s : State) (p : Port) : Nat :=
  match p with
  | .supervisor => 0
  | .deskA => if isWaiting s .supervisor then raisePass s.rst.passOver else s.rst.passOver
  | .deskB => if isWaiting s .supervisor then raisePass s.rst.passOver else s.rst.passOver

/-- R17: the pass-over count moves on as port `p` is served. -/
def State.countPass (s : State) (p : Port) : State :=
  { s with rst := { s.rst with passOver := nextPassOver s p, served := some p } }

/-- R6 steps 2 and 3: the check of the mode is made for a request of this kind on this record. -/
def comesToModeCheck (s : State) (p : Port) (cond : Bool) (r : Record) : Bool :=
  (!cond || s.rst.slots.get p == some r) && (recordMode r).isSome

/-- R6: the engine reads the mode to check this request. -/
def readsMode (s : State) (p : Port) : Request → Bool
  | .null => false
  | .read _ _ => false
  | .readReserve _ _ => false
  | .write cond target _ _ => (recordOfCode target).any (comesToModeCheck s p cond)
  | .command cond code _ => (commandOfCode code).any fun c => comesToModeCheck s p cond (commandTarget c)

/-- R17, R20: the words the record store reads in its own work at a service: the promotion setting where a
Supervisor request waits, and the mode where the request comes to that check. -/
def storeReads (s : State) (p : Port) (r : Request) (w : StoreWord) : Bool :=
  (isWaiting s .supervisor && settingWords [.promotion] w) || (readsMode s p r && modeWord w)

/-- R17, R20: the record store's own work at a service. -/
def State.engineWork (s : State) (p : Port) (r : Request) : State :=
  (s.hand (parityFaults s .rst (storeReads s p r) none)).countPass p

/-- R3, R185: the response goes into the port's response slot, and its request slot becomes EMPTY. -/
def State.respond (s : State) (p : Port) (resp : Response) : State :=
  s.atPort p fun x => { x with waiting := none, response := resp }

/-- R3, R17, R32, R185: the engine serves the request of port `p`, the teardown being complete first. -/
def State.serve (s : State) (p : Port) (r : Request) : State :=
  let v := (s.completeTeardown.engineWork p r).answerRequest p r
  v.1.respond p v.2

/-- A request of port `p` waits and is served when the arbiter chooses it. It joins the port's slot where
that is EMPTY; a slot that holds another request keeps it, and this one is lost (R187, log 3). -/
def State.request (s : State) (p : Port) (r : Request) : State :=
  let s' := match (s.pif.get p).waiting with
    | none => s.atPort p fun x => { x with waiting := some r }
    | some _ => s
  if (s'.pif.get p).waiting = some r ∧ arbiterChoice s' = some p then s'.serve p r else s'

/-- R16: the arbiter's choice is served; with no request waiting nothing happens. -/
def State.serveChoice (s : State) : State :=
  match arbiterChoice s with
  | some p =>
    match (s.pif.get p).waiting with
    | some r => s.serve p r
    | none => s
  | none => s

end Sys2Proof.Machine
end

