-- ==== Sys2Proof/Machine/PortRows.lean ====
section
/-! DEFINITION. The meanings of the rows that stand at the ports: power-on, a port transaction, and the
requests the engine serves, each the request its row names. -/

namespace Sys2Proof.Machine

/-- POWER_ON (R188): every unit in its power-on state. The raw levels are inputs of the part and stay
(log 6); the queue of commands is the model's own. -/
def execPowerOn (s : State) : Host.Outcome State Fault Refusal :=
  .next { State.reset with
    lmu := { Lmu.reset with raw := s.lmu.raw }
    draws := s.draws
    pending := s.pending }

/-- R185, R187: a transaction at a port's slots. -/
def PortSlots.transact (frame : List Byte) (x : PortSlots) : PortSlots :=
  match x.waiting with
  | some _ => { x with returned := some (responseFrame ⟨.portBusy, .none, []⟩) }
  | none =>
    match parseFrame frame with
    | some r => { x with waiting := some r, returned := some (responseFrame x.response) }
    | none =>
      { waiting := none, response := ⟨.badFrame, .none, []⟩,
        returned := some (responseFrame x.response) }

/-- R186, R187: the transaction's frame becomes the port's waiting request. -/
def frameTaken (s : State) (p : Port) (frame : List Byte) : Bool :=
  (s.pif.get p).waiting.isNone && (parseFrame frame).isSome

/-- PORT_TRANSACTION (R185 to R187): the response slot goes to the master, and the frame is checked and
becomes the waiting request; a transaction that finds a request waiting returns PORT_BUSY. A request that
arrives within the service last made counts toward the promotion (R17). -/
def execPortTransaction (p : Port) (frame : PortFrame) (s : State) : Host.Outcome State Fault Refusal :=
  let t := s.atPort p (PortSlots.transact frame.octets)
  .next (if frame.within && frameTaken s p frame.octets then { t with rst := t.rst.arrives p } else t)

/-- NULL_REQUEST (R2). -/
def execNullRequest (p : Port) (s : State) : Host.Outcome State Fault Refusal := .next (s.request p .null)

/-- READ_RESERVE (R10). -/
def execReadReserve (p : Port) (target index : Byte) (s : State) : Host.Outcome State Fault Refusal :=
  .next (s.request p (.readReserve target index))

/-- NOTICES_READ (R181). -/
def execNoticesRead (p : Port) (index : Byte) (s : State) : Host.Outcome State Fault Refusal :=
  .next (s.request p (.read (recordCode .notices) index))

/-- RECORD_WRITE (R7). -/
def execRecordWrite (p : Port) (cond : Bool) (target index : Byte) (contents : List Byte) (s : State) :
    Host.Outcome State Fault Refusal :=
  .next (s.request p (.write cond target index contents))

/-- DEMAND_WRITE (R57). -/
def execDemandWrite (p : Port) (cond : Bool) (d : Desk) (index : Byte) (contents : List Byte)
    (s : State) : Host.Outcome State Fault Refusal :=
  .next (s.request p (.write cond (recordCode (demandRecord d)) index contents))

/-- LINES_WRITE (R40). -/
def execLinesWrite (p : Port) (cond : Bool) (index : Byte) (contents : List Byte) (s : State) :
    Host.Outcome State Fault Refusal :=
  .next (s.request p (.write cond (recordCode .lines) index contents))

/-- CELLS_WRITE (R46). -/
def execCellsWrite (p : Port) (cond : Bool) (index : Byte) (contents : List Byte) (s : State) :
    Host.Outcome State Fault Refusal :=
  .next (s.request p (.write cond (recordCode .cells) index contents))

/-- PERMITS_WRITE (R49). -/
def execPermitsWrite (p : Port) (cond : Bool) (index : Byte) (contents : List Byte) (s : State) :
    Host.Outcome State Fault Refusal :=
  .next (s.request p (.write cond (recordCode .permits) index contents))

/-- LOCATIONS_WRITE (R89). -/
def execLocationsWrite (p : Port) (cond : Bool) (index : Byte) (contents : List Byte) (s : State) :
    Host.Outcome State Fault Refusal :=
  .next (s.request p (.write cond (recordCode .locations) index contents))

/-- PATTERNS_WRITE (R159). -/
def execPatternsWrite (p : Port) (cond : Bool) (index : Byte) (contents : List Byte) (s : State) :
    Host.Outcome State Fault Refusal :=
  .next (s.request p (.write cond (recordCode .patterns) index contents))

/-- DESK_CLAIM (R25). -/
def execDeskClaim (p : Port) (cond : Bool) (args : List Byte) (s : State) : Host.Outcome State Fault Refusal :=
  .next (s.request p (.command cond (commandCode .deskClaim) args))

/-- DESK_RELEASE (R26). -/
def execDeskRelease (p : Port) (cond : Bool) (args : List Byte) (s : State) : Host.Outcome State Fault Refusal :=
  .next (s.request p (.command cond (commandCode .deskRelease) args))

/-- DESK_FORCE_RELEASE (R27). -/
def execDeskForceRelease (p : Port) (cond : Bool) (args : List Byte) (s : State) : Host.Outcome State Fault Refusal :=
  .next (s.request p (.command cond (commandCode .deskForceRelease) args))

/-- SUPERVISOR_CEILING (R61). -/
def execSupervisorCeiling (p : Port) (cond : Bool) (args : List Byte) (s : State) : Host.Outcome State Fault Refusal :=
  .next (s.request p (.command cond (commandCode .supervisorCeiling) args))

/-- ROUTE_INSERT (R101). -/
def execRouteInsert (p : Port) (cond : Bool) (args : List Byte) (s : State) : Host.Outcome State Fault Refusal :=
  .next (s.request p (.command cond (commandCode .routeInsert) args))

/-- ROUTE_SET_CODE (R102). -/
def execRouteSetCode (p : Port) (cond : Bool) (args : List Byte) (s : State) : Host.Outcome State Fault Refusal :=
  .next (s.request p (.command cond (commandCode .routeSetCode) args))

/-- ROUTE_CANCEL (R103). -/
def execRouteCancel (p : Port) (cond : Bool) (args : List Byte) (s : State) : Host.Outcome State Fault Refusal :=
  .next (s.request p (.command cond (commandCode .routeCancel) args))

/-- ROUTE_OVERRIDE (R104). -/
def execRouteOverride (p : Port) (cond : Bool) (args : List Byte) (s : State) : Host.Outcome State Fault Refusal :=
  .next (s.request p (.command cond (commandCode .routeOverride) args))

/-- PLAN_SYNC (R105). -/
def execPlanSync (p : Port) (cond : Bool) (args : List Byte) (s : State) : Host.Outcome State Fault Refusal :=
  .next (s.request p (.command cond (commandCode .planSync) args))

/-- STOP_SET (R149). -/
def execStopSet (p : Port) (cond : Bool) (args : List Byte) (s : State) : Host.Outcome State Fault Refusal :=
  .next (s.request p (.command cond (commandCode .stopSet) args))

/-- STOP_CLEAR (R150). -/
def execStopClear (p : Port) (cond : Bool) (args : List Byte) (s : State) : Host.Outcome State Fault Refusal :=
  .next (s.request p (.command cond (commandCode .stopClear) args))

/-- SOUND_START (R164). -/
def execSoundStart (p : Port) (cond : Bool) (args : List Byte) (s : State) : Host.Outcome State Fault Refusal :=
  .next (s.request p (.command cond (commandCode .soundStart) args))

/-- SOUND_STOP (R165). -/
def execSoundStop (p : Port) (cond : Bool) (args : List Byte) (s : State) : Host.Outcome State Fault Refusal :=
  .next (s.request p (.command cond (commandCode .soundStop) args))

/-- FAULT_ACK (R177). -/
def execFaultAck (p : Port) (cond : Bool) (args : List Byte) (s : State) : Host.Outcome State Fault Refusal :=
  .next (s.request p (.command cond (commandCode .faultAck) args))

/-- LOCKDOWN_RELEASE (R178). -/
def execLockdownRelease (p : Port) (cond : Bool) (args : List Byte) (s : State) : Host.Outcome State Fault Refusal :=
  .next (s.request p (.command cond (commandCode .lockdownRelease) args))

/-- NOTICE_CLEAR (R182). -/
def execNoticeClear (p : Port) (cond : Bool) (args : List Byte) (s : State) : Host.Outcome State Fault Refusal :=
  .next (s.request p (.command cond (commandCode .noticeClear) args))

/-- NOTICE_ENABLE (R182). -/
def execNoticeEnable (p : Port) (cond : Bool) (args : List Byte) (s : State) : Host.Outcome State Fault Refusal :=
  .next (s.request p (.command cond (commandCode .noticeEnable) args))

/-- CONFIG_COMMIT (R189). -/
def execConfigCommit (p : Port) (cond : Bool) (args : List Byte) (s : State) : Host.Outcome State Fault Refusal :=
  .next (s.request p (.command cond (commandCode .configCommit) args))

/-- RECONFIGURE (R190). -/
def execReconfigure (p : Port) (cond : Bool) (args : List Byte) (s : State) : Host.Outcome State Fault Refusal :=
  .next (s.request p (.command cond (commandCode .reconfigure) args))

end Sys2Proof.Machine
end

