-- ==== Sys2Proof/Machine/Dispatch.lean ====
section
/-! DEFINITION. One arm for each command: the meaning of its row. -/

namespace Sys2Proof.Machine

def exec (i : Instr) (s : State) : Host.Outcome State Fault Refusal :=
  match i with
  | .powerOn => Sys2Proof.Machine.execPowerOn s
  | .portTransaction p frame => Sys2Proof.Machine.execPortTransaction p frame s
  | .nullRequest p => Sys2Proof.Machine.execNullRequest p s
  | .readReserve p target index => Sys2Proof.Machine.execReadReserve p target index s
  | .noticesRead p index => Sys2Proof.Machine.execNoticesRead p index s
  | .recordWrite p cond target index contents => Sys2Proof.Machine.execRecordWrite p cond target index contents s
  | .demandWrite p cond d index contents => Sys2Proof.Machine.execDemandWrite p cond d index contents s
  | .linesWrite p cond index contents => Sys2Proof.Machine.execLinesWrite p cond index contents s
  | .cellsWrite p cond index contents => Sys2Proof.Machine.execCellsWrite p cond index contents s
  | .permitsWrite p cond index contents => Sys2Proof.Machine.execPermitsWrite p cond index contents s
  | .locationsWrite p cond index contents => Sys2Proof.Machine.execLocationsWrite p cond index contents s
  | .patternsWrite p cond index contents => Sys2Proof.Machine.execPatternsWrite p cond index contents s
  | .deskClaim p cond args => Sys2Proof.Machine.execDeskClaim p cond args s
  | .deskRelease p cond args => Sys2Proof.Machine.execDeskRelease p cond args s
  | .deskForceRelease p cond args => Sys2Proof.Machine.execDeskForceRelease p cond args s
  | .supervisorCeiling p cond args => Sys2Proof.Machine.execSupervisorCeiling p cond args s
  | .routeInsert p cond args => Sys2Proof.Machine.execRouteInsert p cond args s
  | .routeSetCode p cond args => Sys2Proof.Machine.execRouteSetCode p cond args s
  | .routeCancel p cond args => Sys2Proof.Machine.execRouteCancel p cond args s
  | .routeOverride p cond args => Sys2Proof.Machine.execRouteOverride p cond args s
  | .planSync p cond args => Sys2Proof.Machine.execPlanSync p cond args s
  | .stopSet p cond args => Sys2Proof.Machine.execStopSet p cond args s
  | .stopClear p cond args => Sys2Proof.Machine.execStopClear p cond args s
  | .soundStart p cond args => Sys2Proof.Machine.execSoundStart p cond args s
  | .soundStop p cond args => Sys2Proof.Machine.execSoundStop p cond args s
  | .faultAck p cond args => Sys2Proof.Machine.execFaultAck p cond args s
  | .lockdownRelease p cond args => Sys2Proof.Machine.execLockdownRelease p cond args s
  | .noticeClear p cond args => Sys2Proof.Machine.execNoticeClear p cond args s
  | .noticeEnable p cond args => Sys2Proof.Machine.execNoticeEnable p cond args s
  | .configCommit p cond args => Sys2Proof.Machine.execConfigCommit p cond args s
  | .reconfigure p cond args => Sys2Proof.Machine.execReconfigure p cond args s
  | .structuralChangeReport r => Sys2Proof.Machine.execStructuralChangeReport r s
  | .rawLevelChange line level => Sys2Proof.Machine.execRawLevelChange line level s
  | .debounceTimerExpiry line => Sys2Proof.Machine.execDebounceTimerExpiry line s
  | .onDelayTimerExpiry cell => Sys2Proof.Machine.execOnDelayTimerExpiry cell s
  | .conditionChange c value => Sys2Proof.Machine.execConditionChange c value s
  | .keyPermitEvent d value => Sys2Proof.Machine.execKeyPermitEvent d value s
  | .vigilancePedalEvent d value => Sys2Proof.Machine.execVigilancePedalEvent d value s
  | .tractionPermitEvent value => Sys2Proof.Machine.execTractionPermitEvent value s
  | .atStopEvent value => Sys2Proof.Machine.execAtStopEvent value s
  | .directSoundPermitEvent k value => Sys2Proof.Machine.execDirectSoundPermitEvent k value s
  | .emergencyStopEvent value => Sys2Proof.Machine.execEmergencyStopEvent value s
  | .tachPulse => Sys2Proof.Machine.execTachPulse s
  | .standstillTimerExpiry => Sys2Proof.Machine.execStandstillTimerExpiry s
  | .movingReport u => Sys2Proof.Machine.execMovingReport u s
  | .standstillReport u => Sys2Proof.Machine.execStandstillReport u s
  | .deskStateChange new => Sys2Proof.Machine.execDeskStateChange new s
  | .noDeskTeardown u former byCommand => Sys2Proof.Machine.execNoDeskTeardown u former byCommand s
  | .leadingEndPublished e => Sys2Proof.Machine.execLeadingEndPublished e s
  | .frameTimerExpiry => Sys2Proof.Machine.execFrameTimerExpiry s
  | .statusFrame octets => Sys2Proof.Machine.execStatusFrame octets s
  | .staleTimerExpiry => Sys2Proof.Machine.execStaleTimerExpiry s
  | .graceTimerExpiry => Sys2Proof.Machine.execGraceTimerExpiry s
  | .pointGuardEntryChange active value => Sys2Proof.Machine.execPointGuardEntryChange active value s
  | .beaconTelegram heard => Sys2Proof.Machine.execBeaconTelegram heard s
  | .pointStateTelegram heard => Sys2Proof.Machine.execPointStateTelegram heard s
  | .trackRxError heard => Sys2Proof.Machine.execTrackRxError heard s
  | .armRoute junction => Sys2Proof.Machine.execArmRoute junction s
  | .clearance junction => Sys2Proof.Machine.execClearance junction s
  | .stopZoneEnter platform mandatory => Sys2Proof.Machine.execStopZoneEnter platform mandatory s
  | .stopZoneLeave platform => Sys2Proof.Machine.execStopZoneLeave platform s
  | .notifyAction entry beacon => Sys2Proof.Machine.execNotifyAction entry beacon s
  | .windowOpen => Sys2Proof.Machine.execWindowOpen s
  | .windowClose => Sys2Proof.Machine.execWindowClose s
  | .guardTimerExpiry junction => Sys2Proof.Machine.execGuardTimerExpiry junction s
  | .lateDecisionReport platform => Sys2Proof.Machine.execLateDecisionReport platform s
  | .owedReport => Sys2Proof.Machine.execOwedReport s
  | .telegramEnd => Sys2Proof.Machine.execTelegramEnd s
  | .gapTimerExpiry => Sys2Proof.Machine.execGapTimerExpiry s
  | .pollEnd => Sys2Proof.Machine.execPollEnd s
  | .goodReply heard => Sys2Proof.Machine.execGoodReply heard s
  | .badReply heard => Sys2Proof.Machine.execBadReply heard s
  | .unsolicitedCharacter => Sys2Proof.Machine.execUnsolicitedCharacter s
  | .hardwareSoundAdd src snd pattern => Sys2Proof.Machine.execHardwareSoundAdd src snd pattern s
  | .hardwareSoundRemove src snd => Sys2Proof.Machine.execHardwareSoundRemove src snd s
  | .phaseTimerExpiry snd => Sys2Proof.Machine.execPhaseTimerExpiry snd s
  | .strikeEnd => Sys2Proof.Machine.execStrikeEnd s
  | .severeFault kind source context recoverable effort => Sys2Proof.Machine.execSevereFault kind source context recoverable effort s
  | .lockdownViewChange u view => Sys2Proof.Machine.execLockdownViewChange u view s
  | .noticeRaise c => Sys2Proof.Machine.execNoticeRaise c s
  | .receiverRecoveringBit carrier => Sys2Proof.Machine.execReceiverRecoveringBit carrier s

end Sys2Proof.Machine
end

