-- ==== Sys2Proof/Machine/Idle.lean ====
section
/-! DEFINITION. What the part does of itself when no command is waiting: the events handed on between its
units are taken, and the engine serves the requests that wait. -/

namespace Sys2Proof.Machine

/-- One step with no command waiting (log 2): the oldest event handed on and not yet taken is taken by
its unit; where none is outstanding, the engine serves the arbiter's choice (R16); where no request waits
either, the block idles. -/
def idle (s : State) : Host.Outcome State Fault Refusal :=
  match s.handed with
  | c :: _ => exec c s
  | [] => .next s.serveChoice

end Sys2Proof.Machine
end

