-- ==== Sys2Proof/WellFormed.lean ====
section
/-! DEFINITION. Which commands are well formed: every operand in the range the manual gives it. The
octet operands of the port rows and the samples of the links carry no range of their own: whatever is
clocked in or heard is an operand the manual gives a meaning to. -/

namespace Sys2Proof

/-- Conventions: an effort is -100..+100. -/
def effortOk (v : Int) : Bool := decide (-100 ≤ v) && decide (v ≤ 100)

/-- Conventions: a junction number is 1..4095. -/
def junctionOk (j : Nat) : Bool := decide (1 ≤ j) && decide (j ≤ 4095)

/-- Conventions: a platform number is 1..255. -/
def platformOk (p : Nat) : Bool := decide (1 ≤ p) && decide (p ≤ 255)

/-- R173: a context that names a junction names one in range. -/
def FaultContext.ok : FaultContext → Bool
  | .none => true
  | .junction j => junctionOk j
  | .record _ => true

/-- R167: the sources that are units of the part; the three ports are not. -/
def SoundSource.isHardware : SoundSource → Bool
  | .deskA => false
  | .deskB => false
  | .supervisor => false
  | .vigilance => true
  | .pointGuard => true
  | .stopUnit => true
  | .location => true
  | .matrix => true
  | .lockdown => true

/-- A command whose operands lie in the manual's ranges. -/
def Instr.wellFormed : Instr → Bool
  | .powerOn => true
  | .portTransaction _ _ => true
  | .nullRequest _ => true
  | .readReserve _ _ _ => true
  | .noticesRead _ _ => true
  | .recordWrite _ _ _ _ _ => true
  | .demandWrite _ _ _ _ _ => true
  | .linesWrite _ _ _ _ => true
  | .cellsWrite _ _ _ _ => true
  | .permitsWrite _ _ _ _ => true
  | .locationsWrite _ _ _ _ => true
  | .patternsWrite _ _ _ _ => true
  | .deskClaim _ _ _ => true
  | .deskRelease _ _ _ => true
  | .deskForceRelease _ _ _ => true
  | .supervisorCeiling _ _ _ => true
  | .routeInsert _ _ _ => true
  | .routeSetCode _ _ _ => true
  | .routeCancel _ _ _ => true
  | .routeOverride _ _ _ => true
  | .planSync _ _ _ => true
  | .stopSet _ _ _ => true
  | .stopClear _ _ _ => true
  | .soundStart _ _ _ => true
  | .soundStop _ _ _ => true
  | .faultAck _ _ _ => true
  | .lockdownRelease _ _ _ => true
  | .noticeClear _ _ _ => true
  | .noticeEnable _ _ _ => true
  | .configCommit _ _ _ => true
  | .reconfigure _ _ _ => true
  | .structuralChangeReport _ => true
  | .rawLevelChange _ _ => true
  | .debounceTimerExpiry _ => true
  | .onDelayTimerExpiry _ => true
  | .conditionChange _ _ => true
  | .keyPermitEvent _ _ => true
  | .vigilancePedalEvent _ _ => true
  | .tractionPermitEvent _ => true
  | .atStopEvent _ => true
  | .directSoundPermitEvent _ _ => true
  | .emergencyStopEvent _ => true
  | .tachPulse => true
  | .standstillTimerExpiry => true
  | .movingReport _ => true
  | .standstillReport _ => true
  | .deskStateChange _ => true
  | .noDeskTeardown _ _ _ => true
  | .leadingEndPublished _ => true
  | .frameTimerExpiry => true
  | .statusFrame _ => true
  | .staleTimerExpiry => true
  | .graceTimerExpiry => true
  | .pointGuardEntryChange _ v => effortOk v
  | .beaconTelegram _ => true
  | .pointStateTelegram _ => true
  | .trackRxError _ => true
  | .armRoute j => junctionOk j
  | .clearance j => junctionOk j
  | .stopZoneEnter p _ => platformOk p
  | .stopZoneLeave p => platformOk p
  | .notifyAction e b => decide (e < 16) && decide (b < 4096)
  | .windowOpen => true
  | .windowClose => true
  | .guardTimerExpiry j => junctionOk j
  | .lateDecisionReport p => platformOk p
  | .owedReport => true
  | .telegramEnd => true
  | .gapTimerExpiry => true
  | .pollEnd => true
  | .goodReply _ => true
  | .badReply _ => true
  | .unsolicitedCharacter => true
  | .hardwareSoundAdd src _ _ => src.isHardware
  | .hardwareSoundRemove src _ => src.isHardware
  | .phaseTimerExpiry _ => true
  | .strikeEnd => true
  | .severeFault _ u c _ e => u != .none && c.ok && effortOk (e.getD 0)
  | .lockdownViewChange _ _ => true
  | .noticeRaise _ => true
  | .receiverRecoveringBit _ => true

end Sys2Proof
end

