-- ==== Sys2Proof/Safety.lean ====
section
/-! DEFINITION. The terms in which the claims are stated: when a request is served at once, what a service
leaves at the ports and in the record store, and the invariants of the block. -/

namespace Sys2Proof.Machine

/-! ### A request that is served (R3, R16, R32) -/

/-- R23, R32: no desk state change, no unit's share of a teardown, and no leading end or POINT_GUARD entry on its
way is outstanding. -/
def teardownDone (s : State) : Prop := ∀ c ∈ s.handed, deskEvent c = false ∧ shareConsequence c = false

/-- The state with the request waiting in its port's slot. -/
def State.withRequest (s : State) (p : Port) (r : Request) : State :=
  s.atPort p fun x => { x with waiting := some r }

/-- No word that the record store reads in its own work at this service is bad (R20). -/
def StoreGood (s : State) (p : Port) (r : Request) : Prop :=
  meetsBad s (storeReads (s.withRequest p r) p r) = false

/-- The port's slot is EMPTY, the arbiter chooses the request once it waits there, no share of a teardown is
outstanding, and the record store's own words are good: the engine serves the request at once, and does
nothing else. -/
def Ready (s : State) (p : Port) (r : Request) : Prop :=
  (s.pif.get p).waiting = none ∧ arbiterChoice (s.withRequest p r) = some p ∧ teardownDone s
    ∧ StoreGood s p r

/-- What every service leaves: the port's slot EMPTY, its response slot rewritten, the pass-over count
moved on (R17, R185). -/
def State.served (s : State) (p : Port) (resp : Response) : State :=
  { s with
    pif := s.pif.set p { waiting := none, response := resp, returned := (s.pif.get p).returned }
    rst := { s.rst with passOver := nextPassOver s p, served := some p } }

/-- R11, R12: the reservation slots after a request that is taken. -/
def slotsAfter (p : Port) (cond changed : Bool) (r : Record) (slots : PerPort (Option Record)) :
    PerPort (Option Record) :=
  let x := if changed then emptyOtherSlots p r slots else slots
  if cond then x.set p none else x

/-- A request answered DONE with no payload: what it leaves but for its owner's own changes. -/
def State.servedDone (s : State) (p : Port) (cond changed : Bool) (r : Record) : State :=
  let t := s.served p ⟨.done, .none, []⟩
  { t with rst := { t.rst with slots := slotsAfter p cond changed r s.rst.slots } }

/-- A WRITE or COMMAND that is refused with this reason: all that it leaves (R3, R11). -/
def State.servedRefused (s : State) (p : Port) (cond : Bool) (why : Reason) : State :=
  let t := s.served p ⟨.refused, why, []⟩
  { t with rst := { t.rst with slots := if cond then s.rst.slots.set p none else s.rst.slots } }

/-- R11: a conditional request finds its target reserved. -/
def Admitted (s : State) (p : Port) (cond : Bool) (r : Record) : Prop :=
  cond = true → s.rst.slots.get p = some r

/-- R6 steps 2 to 4: a command from port `p` comes to its owner. -/
def CommandReaches (s : State) (p : Port) (cond : Bool) (c : CommandName) (args : List Byte) : Prop :=
  Ready s p (.command cond (commandCode c) args) ∧ Admitted s p cond (commandTarget c)
    ∧ modeAdmits s.rst.mode (commandTarget c) = true ∧ mayCommand s.dau.state p c = true

/-- R6 steps 2 to 4: a WRITE from port `p` comes to its owner. -/
def WriteReaches (s : State) (p : Port) (cond : Bool) (r : Record) (index : Byte)
    (contents : List Byte) : Prop :=
  Ready s p (.write cond (recordCode r) index contents) ∧ Admitted s p cond r
    ∧ modeAdmits s.rst.mode r = true ∧ mayWrite s.dau.state p r = true

/-- Arguments of a command that takes none: no octets but padding (R191). -/
def NoArguments (args : List Byte) : Prop := isPadding args = true

/-- The row of a command of the catalogue. -/
def commandRow (p : Port) (cond : Bool) (args : List Byte) : CommandName → Instr
  | .deskClaim => .deskClaim p cond args
  | .deskRelease => .deskRelease p cond args
  | .deskForceRelease => .deskForceRelease p cond args
  | .supervisorCeiling => .supervisorCeiling p cond args
  | .routeInsert => .routeInsert p cond args
  | .routeSetCode => .routeSetCode p cond args
  | .routeCancel => .routeCancel p cond args
  | .routeOverride => .routeOverride p cond args
  | .planSync => .planSync p cond args
  | .stopSet => .stopSet p cond args
  | .stopClear => .stopClear p cond args
  | .soundStart => .soundStart p cond args
  | .soundStop => .soundStop p cond args
  | .faultAck => .faultAck p cond args
  | .lockdownRelease => .lockdownRelease p cond args
  | .noticeClear => .noticeClear p cond args
  | .noticeEnable => .noticeEnable p cond args
  | .configCommit => .configCommit p cond args
  | .reconfigure => .reconfigure p cond args

/-- R24: the condition a desk's authority publishes. -/
def deskCondition : Desk → Condition
  | .a => .deskAActive
  | .b => .deskBActive

/-! ### Payloads the masters send -/

/-- R191: a payload carries these octets, and nothing after them but padding. -/
def Carries (payload fields : List Byte) : Prop :=
  ∃ pad : List Byte, isPadding pad = true ∧ payload = fields ++ pad

/-- R7, R191: the contents of a WRITE of a table record and the table it asks for: one entry, or the
whole table. -/
def TableWrite {α : Type} {n : Nat} (put : α → List Byte) (ok : α → Bool) (old new : Table α n)
    (index : Byte) (contents : List Byte) : Prop :=
  (∃ (i : Fin n) (e : α), index = BitVec.ofNat 8 i.val ∧ Carries contents (put e) ∧ ok e = true
      ∧ new = old.set i e)
  ∨ (index = 0xFF ∧ Carries contents (new.toList.flatMap put) ∧ ∀ i : Fin n, ok new[i] = true)

/-- R46: cell `x` reads cell `y`. -/
def Reads (t : Table CellEntry 16) (x y : Fin 16) : Prop := y ∈ cellReads t[x]

/-- R46: some cell reaches itself by reading. -/
def Cyclic (t : Table CellEntry 16) : Prop := ∃ c : Fin 16, Relation.TransGen (Reads t) c c

/-- R40: two lines have the group TACH_INPUT. -/
def TwoTachs (t : Table LineEntry 32) : Prop :=
  ∃ i j : Fin 32, i ≠ j ∧ t[i].group = .tachInput ∧ t[j].group = .tachInput

/-- The argument octets of the commands that take arguments (11.2, R191). -/
def putInsertArgs (a : InsertArgs) : List Byte :=
  putNat8 a.position ++ putNat16 a.junction ++ putNat8 a.code ++ putOpt putNat8 a.platform
    ++ putNat8 a.priority

def InsertArgs.ok (a : InsertArgs) : Bool :=
  decide (a.position ≤ 12) && junctionOk a.junction && decide (a.code ≤ 7)
    && (match a.platform with
        | some p => platformOk p
        | none => true)
    && decide (a.priority ≤ 3)

def putStartArgs (a : StartArgs) : List Byte :=
  putEnum allSounders a.sounder ++ putNat8 a.pattern.val ++ putNat8 a.priority ++ putNat8 a.repeats

def StartArgs.ok (a : StartArgs) : Bool := decide (a.priority ≤ 7) && decide (a.repeats ≤ 15)

/-- R37, R41, R89, R159: a configuration entry in the ranges of its rule. -/
def LineEntry.ok (e : LineEntry) : Bool := decide (e.debounce ≤ 100)

def CellEntry.ok (e : CellEntry) : Bool := decide (e.delay ≤ 10000)

def LocationEntry.ok (e : LocationEntry) : Bool :=
  decide (e.offset ≤ 255) && junctionOk e.act.junction && platformOk e.act.platform

def SoundStep.ok (t : SoundStep) : Bool :=
  decide (t.on ≤ 2550) && decide (t.on % 10 = 0) && decide (t.off ≤ 2550) && decide (t.off % 10 = 0)

def Pattern.ok (p : Pattern) : Bool :=
  decide (p.steps.length ≤ 8) && p.steps.all SoundStep.ok && decide (p.repeats ≤ 15)

/-- Conventions: a demand, a vehicle number in range. -/
def Demand.ok (d : Demand) : Bool := effortOk d.lever

def Vehicle.ok (v : Vehicle) : Bool :=
  decide (1 ≤ v.line) && decide (v.line ≤ 999) && decide (1 ≤ v.run) && decide (v.run ≤ 99)

/-- A value lies in a range. -/
def within (lo hi n : Nat) : Bool := decide (lo ≤ n) && decide (n ≤ hi)

def withinInt (lo hi n : Int) : Bool := decide (lo ≤ n) && decide (n ≤ hi)

/-- The ranges of R1, R23, R80, R96, R125, R139, R157 and R171. -/
def Settings.ok (c : Settings) : Bool :=
  within 1 4 c.promotion && withinInt (-100) 0 c.releasingCeiling && withinInt (-100) 0 c.noDeskCeiling
    && within 10 50 c.framePeriod && within 1 20 c.ramp && within 200 2000 c.staleTime
    && within 1000 5000 c.graceTime && withinInt (-100) 0 c.penaltyCeiling && within 2 8 c.linkLoss
    && within 1 64 c.pulsesPerMetre && within 200 5000 c.standstillWindow && within 2 60 c.windowLength
    && within 1 4 c.repeats && within 1000 20000 c.guardTime && withinInt 5 40 c.creep
    && within 5 100 c.gap && within 0 24 c.stationCount && within 2 20 c.replyTimeout
    && within 20 80 c.strikeWidth

/-- 11.2, R191: the argument octets match the command's layout, every argument in its range. -/
def ArgumentsFit (args : List Byte) : CommandName → Prop
  | .deskClaim => NoArguments args
  | .deskRelease => NoArguments args
  | .deskForceRelease => NoArguments args
  | .planSync => NoArguments args
  | .stopClear => NoArguments args
  | .faultAck => NoArguments args
  | .lockdownRelease => NoArguments args
  | .configCommit => NoArguments args
  | .reconfigure => NoArguments args
  | .supervisorCeiling => ∃ (active : Bool) (value : Int), withinInt (-100) 100 value = true
      ∧ Carries args (putFlag active ++ putInt8 value)
  | .routeInsert => ∃ a : InsertArgs, a.ok = true ∧ Carries args (putInsertArgs a)
  | .routeSetCode => ∃ j code : Nat, junctionOk j = true ∧ code ≤ 7
      ∧ Carries args (putNat16 j ++ putNat8 code)
  | .routeCancel => ∃ j : Nat, junctionOk j = true ∧ Carries args (putNat16 j)
  | .routeOverride => ∃ j : Nat, junctionOk j = true ∧ Carries args (putNat16 j)
  | .stopSet => ∃ k : StopKind, Carries args (putEnum stopKindList k)
  | .soundStart => ∃ a : StartArgs, a.ok = true ∧ Carries args (putStartArgs a)
  | .soundStop => ∃ snd : Sounder, Carries args (putEnum allSounders snd)
  | .noticeClear => ∃ causes : BitVec 16, Carries args (putNat16 causes.toNat)
  | .noticeEnable => ∃ causes : BitVec 16, Carries args (putNat16 causes.toNat)

/-- R7, R191: the contents match a WRITE of the record, every field in its range. -/
def ContentsFit (s : State) (index : Byte) (contents : List Byte) : Record → Prop
  | .demandA => index = 0xFF ∧ ∃ d : Demand, d.ok = true ∧ Carries contents (putDemand d)
  | .demandB => index = 0xFF ∧ ∃ d : Demand, d.ok = true ∧ Carries contents (putDemand d)
  | .vehicle => index = 0xFF ∧ ∃ v : Vehicle, v.ok = true ∧ Carries contents (putVehicle v)
  | .settings => index = 0xFF ∧ ∃ c : Settings, c.ok = true ∧ Carries contents (putSettings c)
  | .lines => ∃ t, TableWrite putLine LineEntry.ok s.lmu.written.lines t index contents
  | .cells => ∃ t, TableWrite putCell CellEntry.ok s.lmu.written.cells t index contents
  | .permits => ∃ t, TableWrite putPermit (fun _ => true) s.lmu.written.permits t index contents
  | .locations => ∃ t, TableWrite putLocation LocationEntry.ok s.lcu.table t index contents
  | .patterns => ∃ t, TableWrite putPattern Pattern.ok s.sdu.patterns t index contents
  | .desk => False
  | .ceilings => False
  | .tractionStatus => False
  | .plan => False
  | .stops => False
  | .stations => False
  | .sound => False
  | .fault => False
  | .notices => False
  | .mode => False

/-! ### Traction (R62) -/

/-- R62: a change of an entry that sets the resume lock, the desk state being `desk`. -/
def LockForced (desk : DeskState) (t : Tdu) (old new : CeilingEntry) : Prop :=
  (∃ d, deskHolder desk = some d ∧ 0 < (t.demand.get d).lever) ∧ new.active = true ∧ new.value ≤ 0
    ∧ (old.active = false ∨ new.value < old.value)

/-- R60: a change of the resume lock is reported as a structural change of CEILINGS. -/
def lockNews (old new : Bool) : List Instr :=
  if old = new then [] else [.structuralChangeReport .ceilings]

/-- The ranges of the Conventions at the traction unit, and the entries of R59 that follow a state the unit
holds. -/
def TractionOk (s : State) : Prop :=
  s.settings.ok = true ∧ (∀ d, effortOk (s.tdu.demand.get d).lever = true)
    ∧ (∀ i : Fin 9, effortOk s.tdu.ceilings[i].value = true) ∧ effortOk s.tdu.lastEffort = true
    ∧ (s.tdu.lockView = .held → s.tdu.ceilings[8] = ⟨true, -100⟩)
    ∧ (s.tdu.lockView = .clear → s.tdu.ceilings[8].active = false)
    ∧ (s.tdu.link = .up → s.tdu.ceilings[5].active = false)
    ∧ (s.tdu.link ≠ .up → s.tdu.ceilings[5] = ⟨true, -60⟩)
    ∧ (s.tdu.vigilance = .penalty ↔ s.tdu.ceilings[4].active = true)
    ∧ (s.tdu.tractionPermit = false ↔ s.tdu.ceilings[2].active = true)

/-- Every POINT_GUARD value on its way is an effort. -/
def GuardValuesOk (s : State) : Prop :=
  ∀ (a : Bool) (v : Int), Instr.pointGuardEntryChange a v ∈ s.pending ++ s.handed → effortOk v = true

/-! ### Location (R86 to R94) -/

/-- R94: what an action is delivered as. -/
def deliveredAs (entry : Nat) (beacon : BitVec 12) (a : ActionSpec) : Instr :=
  match a.action with
  | .armRoute => .armRoute a.junction
  | .clearance => .clearance a.junction
  | .stopZoneEnter => .stopZoneEnter a.platform a.mandatory
  | .stopZoneLeave => .stopZoneLeave a.platform
  | .bell => .hardwareSoundAdd .location .bell a.pattern
  | .notify => .notifyAction entry beacon.toNat

/-- R87: with the window closed, its opening is handed on before the first ARM_ROUTE delivered. -/
def openingFirst : List Instr → List Instr
  | [] => []
  | .armRoute j :: rest => .windowOpen :: .armRoute j :: rest
  | c :: rest => c :: openingFirst rest

/-- R90, R91: an entry answers a beacon under a leading end. -/
def Answers (e : LocationEntry) (identity : BitVec 12) (leading : LeadingEnd) : Prop :=
  e.enabled = true ∧ (∀ k : Fin 12, e.mask[k] = true → identity[k] = e.matchValue[k])
    ∧ (e.orientation = .either ∨ (e.orientation = .aLeading ∧ leading = .aLeading)
      ∨ (e.orientation = .bLeading ∧ leading = .bLeading))

/-- R94: what a NOTIFY action becomes as it fires, the last of several standing. -/
def notedAs (fired : List (Nat × BitVec 12 × ActionSpec)) (old : Option LocationEvent) :
    Option LocationEvent :=
  match (fired.filter fun x => x.2.2.action == .notify).getLast? with
  | some x => some ⟨.notify, x.1, x.2.1.toNat, .notify⟩
  | none => old

/-- R93: the dropped action is reported as a severe fault. -/
def dropsSevere (a : ActionSpec) : Bool := a.action == .armRoute || a.action == .clearance

/-- R93: what a drop is reported as. -/
def dropReport (a : ActionSpec) : Instr :=
  if dropsSevere a then .severeFault .locationOverflow .lcu (.junction a.junction) true none
  else .noticeRaise .locationEvent

/-! ### The receivers (R128, R142) -/

/-- R128 to R131: what the track receiver makes of successive sample points. -/
def receptions (t : Tlu) : List Bool → List Reception
  | [] => []
  | v :: rest => (t.sample v).2.toList ++ receptions (t.sample v).1 rest

/-- R142: what the loop's receiver makes of successive sample points. -/
def lineEvents (r : LineReceiver) : List Bool → List LineEvent
  | [] => []
  | v :: rest => (r.sample v).2 :: lineEvents (r.sample v).1 rest

/-! ### Route plan (R98 to R121) -/

/-- R112: some entry contributes to the POINT_GUARD ceiling. -/
def contributing (plan : List PlanEntry) : Bool :=
  plan.any fun e => e.state == .armed || e.state == .sent || e.state == .overridden
    || e.state == .refused || e.state == .faulted

/-- R112: some entry is REFUSED or FAULTED. -/
def holding (plan : List PlanEntry) : Bool :=
  plan.any fun e => e.state == .refused || e.state == .faulted

/-- R112: the value of the ceiling over a plan. -/
def guardValue (creep : Int) (plan : List PlanEntry) : Int := if holding plan then 0 else creep

/-- R112, R113: the ceiling is handed on when its flag or its value changes, and the condition GUARD_ACTIVE
when the flag does. -/
def guardNews (creep : Int) (old new : List PlanEntry) : List Instr :=
  (if contributing new then
      if contributing old && guardValue creep old == guardValue creep new then []
      else [.pointGuardEntryChange true (guardValue creep new)]
    else if contributing old then [.pointGuardEntryChange false (guardValue creep new)] else [])
  ++ (if contributing old == contributing new then []
      else [.conditionChange .guardActive (contributing new)])

/-- R113: the alert on the active desk's buzzer when an entry became REFUSED or FAULTED, and its removal when
the last such entry leaves that state. -/
def alertNews (s : State) (became : Bool) (new : List PlanEntry) : List Instr :=
  match deskHolder s.dau.state with
  | none => []
  | some d =>
    if became then [.hardwareSoundAdd .pointGuard (deskBuzzer d) s.settings.uses.guardAlert]
    else if holding s.rtu.plan && !holding new then [.hardwareSoundRemove .pointGuard (deskBuzzer d)]
    else []

/-- R100, R112, R113: all that a change of an entry's state, an insertion or a removal hands on. -/
def planNews (s : State) (became : Bool) (new : List PlanEntry) : List Instr :=
  .noticeRaise .routeChange :: guardNews s.settings.creep s.rtu.plan new ++ alertNews s became new

/-- The plan with the entry for a junction changed. -/
def changedAt (plan : List PlanEntry) (j : Nat) (e : PlanEntry) : List PlanEntry :=
  plan.map fun x => if x.junction = j then e else x

/-- R110: the state of an entry after a report; `same` is whether the code reported is the entry's. -/
def afterReport (old : EntryState) (report : PointReport) (same : Bool) : EntryState :=
  if old = .queued then .queued
  else match report with
    | .setting => old
    | .locked => if same then .confirmed else .refused
    | .refused => .refused
    | .fault => .faulted

/-- The first of a list that has a property. -/
def FirstWith {α : Type} (l : List α) (good : α → Prop) (x : α) : Prop :=
  ∃ before after : List α, l = before ++ x :: after ∧ (∀ y ∈ before, ¬ good y) ∧ good x

/-- R135: the entry the rotation chooses. -/
def Rotates (plan : List PlanEntry) (last : Option Nat) (e : PlanEntry) : Prop :=
  (∃ before x after, plan = before ++ x :: after ∧ last = some x.junction
      ∧ (∀ y ∈ before, y.junction ≠ x.junction)
      ∧ FirstWith (after ++ before ++ [x]) (fun y => 0 < y.requestsOwed) e)
  ∨ ((∀ x ∈ plan, last ≠ some x.junction) ∧ FirstWith plan (fun y => 0 < y.requestsOwed) e)

/-- R114: the stopping attribute of an entry's telegram. -/
def Stopping (s : State) (e : PlanEntry) : Prop :=
  ∃ p, e.platform = some p ∧ (s.sru.list ≠ []
    ∨ ∃ z, s.sru.zone = some z ∧ z.platform = p ∧ s.sru.decision = .stopAhead)

/-- R134, R114: the state after this telegram is selected. -/
def State.sends (s : State) (m : OutTelegram) (last : Option Nat) : State :=
  { s with
    tlu := { s.tlu with transmitter := .sending, inFlight := some m, lastRequest := last }
    rtu := { s.rtu with inFlight := some ⟨m.kind, m.junction, true⟩ } }

/-! ### Stop requests (R143 to R155) -/

/-- R155: a STOP_UNIT request on the active desk's buzzer, with no active desk none. -/
def buzzerNews (desk : DeskState) (pattern : Fin 16) : List Instr :=
  match deskHolder desk with
  | some d => [.hardwareSoundAdd .stopUnit (deskBuzzer d) pattern]
  | none => []

def hasChair (l : List StopEntry) : Bool := l.any fun e => e.kind == .wheelchair

/-- R143: the lamp command of a poll. -/
def lampFor (l : List StopEntry) : LampCommand :=
  if l = [] then .off else if hasChair l then .stopWheelchair else .stop

/-- R143: the next address polled. -/
def nextAddress (cfg : Settings) (address : Nat) : Nat :=
  if address < cfg.stationCount then address + 1 else 1

/-- R142, R191: the line bits of a character, true away from idle: the start bit, eight data bits most
significant first, the even parity bit, the stop bit; a one bit is the idle level (log 18). -/
def lineChar (b : Byte) : List Bool :=
  [true] ++ (List.range 8).map (fun i => !b.getLsbD (7 - i))
    ++ [!((List.range 8).foldl (fun x i => xor x (b.getLsbD i)) false), false]

/-- R143: the unit as the poll of an address begins. -/
def Sru.polls (u : Sru) (address : Nat) (ack : Bool) : Sru :=
  { u with
    pollState := .sending
    address := address
    replyTimer := none
    poll := some ⟨address, ack, lampFor u.list⟩
    driven := u.driven ++ [(pollOctets ⟨address, ack, lampFor u.list⟩).flatMap lineChar]
    ours := false
    quiet := 0
    got := [] }

/-- A station's entry with its address, as the unit holds it. -/
def EntryOf (u : Sru) (address : Nat) (t : Station) : Prop :=
  ∃ h : address - 1 < 24, u.stations[address - 1] = t

/-! ### Sound (R159 to R169) -/

/-- R159: a pattern has at most eight steps, every pattern that has steps plays in some time, and every request
names a pattern that has steps. -/
def SoundPlays (u : Sdu) : Prop :=
  (∀ i : Fin 16, u.patterns[i].steps.length ≤ 8)
    ∧ (∀ i : Fin 16, u.patterns[i].steps = [] ∨ ∃ x ∈ u.patterns[i].steps, 0 < x.on ∨ 0 < x.off)
    ∧ ∀ q ∈ u.requests, u.patterns[q.pattern].steps ≠ []

/-- The list without the request of a source on a sounder. -/
def without (l : List SoundRequest) (src : SoundSource) (snd : Sounder) : List SoundRequest :=
  l.filter fun q => !(q.source == src && q.sounder == snd)

def Holds (l : List SoundRequest) (src : SoundSource) (snd : Sounder) : Prop :=
  ∃ q ∈ l, q.source = src ∧ q.sounder = snd

/-- R166 step 3: the youngest of those with the lowest priority among the requests below a priority. -/
def Evicted (l : List SoundRequest) (priority : Nat) (v : SoundRequest) : Prop :=
  v.priority < priority ∧ (∀ x ∈ l, v.priority ≤ x.priority)
    ∧ ∃ older younger, l = older ++ v :: younger ∧ ∀ x ∈ younger, v.priority < x.priority

/-- R163: a hardware source's priority. -/
def fixedPriority (src : SoundSource) : Nat :=
  if src = .matrix ∨ src = .lockdown then 7 else if src = .vigilance then 6
  else if src = .pointGuard then 5 else if src = .location then 3 else if src = .stopUnit then 2 else 0

/-- R163: the request of a hardware source. -/
def hardwareCall (u : Sdu) (src : SoundSource) (snd : Sounder) (pattern : Fin 16) : SoundRequest :=
  ⟨src, snd, pattern, fixedPriority src,
    if src = .matrix ∨ u.patterns[pattern].repeats = 0 then none else some u.patterns[pattern].repeats⟩

/-- R164: the request of a port. -/
def portCall (p : Port) (a : StartArgs) : SoundRequest :=
  ⟨portSource p, a.sounder, a.pattern, min a.priority 5,
    if a.repeats = 0 then none else some a.repeats⟩

/-- R164: a port's authority over a sounder. -/
def MayPlay (desk : DeskState) (p : Port) (snd : Sounder) : Prop :=
  p = .supervisor ∨ ∃ d, p = deskPort d ∧ (snd = deskBuzzer d
    ∨ ((snd = .horn ∨ snd = .bell) ∧ deskHolder desk = some d))

/-- R158: a sounder that plays has its phase timer running. -/
def PlayersTimed (u : Sdu) : Prop := ∀ snd : Sounder, (player u snd).playing ≠ none → (player u snd).timer ≠ none

/-! ### Faults and notices (R172 to R183) -/

/-- A cause stands in a set (R191). -/
def inSet (set : BitVec 16) (c : Cause) : Bool := set.getLsbD (causePriority c - 1)

/-- R173: the kinds whose reaction is immediate lockdown. -/
def LocksAtOnce (kind : FaultKind) : Prop :=
  kind = .pointRunThrough ∨ kind = .storeParity ∨ kind = .emergencyStop

/-- R176: the change of the lockdown state, handed to the four units. -/
def lockNewsTo (view : LockState) : List Instr :=
  [.lockdownViewChange .tdu view, .lockdownViewChange .lmu view, .lockdownViewChange .tlu view,
    .lockdownViewChange .sdu view]

/-- R52: a source that a commit admits for a checked permit. -/
def Commits (t : MatrixTables) : PermitSource → Prop
  | .line n => t.lines[n].group = .plainInput
  | .cell _ => True
  | .fixedFalse => False
  | .fixedTrue => False

/-- R169: the requests the teardown removes. -/
def torn (former : Desk) (q : SoundRequest) : Bool :=
  decide (q.source = .deskA ∨ q.source = .deskB
    ∨ ((q.source = .vigilance ∨ q.source = .pointGuard ∨ q.source = .stopUnit)
      ∧ q.sounder = deskBuzzer former))

/-- The rows that name a request the engine serves. -/
def servedRow : Instr → Bool
  | .nullRequest _ => true
  | .readReserve _ _ _ => true
  | .noticesRead _ _ => true
  | .recordWrite _ _ _ _ _ => true
  | .demandWrite _ _ _ _ _ => true
  | .linesWrite _ _ _ _ => true
  | .cellsWrite _ _ _ _ => true
  | .permitsWrite _ _ _ _ => true
  | .locationsWrite _ _ _ _ => true
  | .patternsWrite _ _ _ _ => true
  | .deskClaim _ _ _ => true
  | .deskRelease _ _ _ => true
  | .deskForceRelease _ _ _ => true
  | .supervisorCeiling _ _ _ => true
  | .routeInsert _ _ _ => true
  | .routeSetCode _ _ _ => true
  | .routeCancel _ _ _ => true
  | .routeOverride _ _ _ => true
  | .planSync _ _ _ => true
  | .stopSet _ _ _ => true
  | .stopClear _ _ _ => true
  | .soundStart _ _ _ => true
  | .soundStop _ _ _ => true
  | .faultAck _ _ _ => true
  | .lockdownRelease _ _ _ => true
  | .noticeClear _ _ _ => true
  | .noticeEnable _ _ _ => true
  | .configCommit _ _ _ => true
  | .reconfigure _ _ _ => true
  | _ => false

/-- The commands a bad word turns away (R20), with the unit that raises the fault and the words it reads; those whose
words depend on their arguments stand in the statement itself. -/
def wordReaders (s : State) (p : Port) : List (CommandName × UnitName × (StoreWord → Bool)) :=
  [(.deskClaim, .dau, deskWords),
    (.deskRelease, .dau, fun w => (portDesk p).any fun d => releaseReads d w),
    (.deskForceRelease, .dau, deskWords), (.supervisorCeiling, .tdu, ceilingWords s.dau.state),
    (.routeInsert, .rtu, routeReads [.creep]), (.routeCancel, .rtu, routeReads [.creep]),
    (.routeOverride, .rtu, routeReads [.creep]), (.planSync, .rtu, planWords), (.stopClear, .sru, stopWords),
    (.faultAck, .fnu, fieldWords .fault [8]), (.lockdownRelease, .fnu, lockReleaseReads s.fnu),
    (.noticeClear, .fnu, portNoticeWords p), (.noticeEnable, .fnu, enableReads p),
    (.configCommit, .rst, modeWord), (.reconfigure, .rst, modeWord)]

/-- The words of no record. -/
def noWords : StoreWord → Bool := fun _ => false

/-- A unit of the block and the words it reads. -/
abbrev Reading := UnitName × (StoreWord → Bool)

/-- A settle reads the active tables (R55). -/
def settleReads (happens : Bool) : List Reading := if happens then [(.lmu, activeWords)] else []

/-- A condition takes another value. -/
def newValue (s : State) (c : Condition) (v : Bool) : Bool := conditionValue s.lmu c != v

/-- R20, R55: the words a change of the sound unit reads, and those of the lines that follow a sounder. -/
def soundWork (s t : State) (reads : StoreWord → Bool) : List Reading :=
  [(.sdu, reads), (.lmu, driveReads s t.sdu)]

/-- R114, R132: an attempted selection reads the plan, and where it composes a telegram VEHICLE. -/
def selectionReads (s : State) (t : Tlu) : List Reading :=
  if maySelect t then
    [(.rtu, if (selection t s.rtu s.rst.vehicle s.sru).isSome then fun w => planWords w || vehicleWords w
      else planWords)]
  else []

/-- R90, R109: what the sample point that completes a telegram has read. -/
def heardReads (s : State) (carrier : Bool) : List Reading :=
  match (s.tlu.sample carrier).2 with
  | some (.beacon identity) => [(.lcu, beaconReads identity s.lcu)]
  | some (.pointState j code report run) =>
    [(.rtu, rtuReads (fun w => planWords w || vehicleWords w)
      (s.rtu.pointState s.dau.state s.settings s.rst.vehicle.run j code report run).2)]
  | _ => []

/-- R146: what the sample point that ends a reply has read. -/
def loopReads (s : State) (away : Bool) : List Reading :=
  match (s.sru.lineSample away).2 with
  | some e => [(.sru, replyReads s.dau.state s.settings (s.sru.lineSample away).1 e)]
  | none => []

/-- The first of the sample points a row carries; the rows of the two receivers are taken one point at a time. -/
def onePoint : Instr → Bool
  | .beaconTelegram heard => decide (heard.length ≤ 1)
  | .pointStateTelegram heard => decide (heard.length ≤ 1)
  | .trackRxError heard => decide (heard.length ≤ 1)
  | .goodReply heard => decide (heard.length ≤ 1)
  | .badReply heard => decide (heard.length ≤ 1)
  | _ => true

/-- R20 and each chapter's own rule: the words that a unit's own work at an event reads; `t` is the state the
event leaves (log 8). -/
def ownWork (s t : State) : Instr → List Reading
  | .rawLevelChange n v => settleReads (s.lmu.raw[n] != v && lineDebounces s.lmu n && v != s.lmu.taken[n])
  | .debounceTimerExpiry n => settleReads s.lmu.debounce[n].isSome
  | .onDelayTimerExpiry c => settleReads s.lmu.delay[c].isSome
  | .conditionChange c v => settleReads (newValue s c v)
  | .keyPermitEvent _ _ => [(.dau, deskWords)]
  | .vigilancePedalEvent d v => [(.tdu, tduReads s (pedalReads s.dau.state d v s.tdu) t.tdu)]
  | .tractionPermitEvent _ => [(.tdu, tduReads s noWords t.tdu)]
  | .atStopEvent v => [(.sru, fun w => v && stopWords w)]
  | .directSoundPermitEvent k v =>
    match s.rst.mode with
    | .configuring => []
    | .service => soundWork s t (directReads s.settings k v s.sdu)
  | .tachPulse => [(.lcu, pulseReads s.settings s.lcu)]
  | .movingReport .tdu => [(.tdu, tduReads s (movingReads s.dau.state s.tdu) t.tdu)]
  | .movingReport .lmu => settleReads (newValue s .standstill false)
  | .standstillReport .dau => [(.dau, deskWords)]
  | .standstillReport .tdu => [(.tdu, tduReads s (standstillReads s.dau.state) t.tdu)]
  | .standstillReport .lmu => settleReads (newValue s .standstill true)
  | .deskStateChange new =>
    [(.tdu, tduReads s (deskStateReads new) t.tdu),
      (.rtu, rtuReads noWords (s.rtu.deskState s.dau.state s.settings new))]
  | .noDeskTeardown .tdu _ _ => [(.tdu, tduReads s tduTeardownReads t.tdu)]
  | .noDeskTeardown .rtu _ _ => [(.rtu, rtuReads planWords (s.rtu.teardown s.settings).2)]
  | .noDeskTeardown .sru _ _ => [(.sru, stopWords)]
  | .noDeskTeardown .sdu former _ => soundWork s t (sduTeardownReads s.settings former s.sdu)
  | .statusFrame octets => [(.tdu, tduReads s (statusReads octets s.tdu) t.tdu)]
  | .staleTimerExpiry => [(.tdu, tduReads s noWords t.tdu)]
  | .graceTimerExpiry => [(.tdu, tduReads s (graceReads s.tdu) t.tdu)]
  | .pointGuardEntryChange _ _ => [(.tdu, tduReads s noWords t.tdu)]
  | .beaconTelegram heard => heard.flatMap (heardReads s)
  | .pointStateTelegram heard => heard.flatMap (heardReads s)
  | .trackRxError heard => heard.flatMap (heardReads s)
  | .armRoute j => [(.rtu, rtuReads (armReads s.rtu j) (s.rtu.arm s.dau.state s.settings j).2)]
  | .clearance j => [(.rtu, rtuReads planWords (s.rtu.clearance s.dau.state s.settings j).2)]
  | .stopZoneEnter _ mandatory => [(.sru, zoneReads s.dau.state mandatory s.sru)]
  | .stopZoneLeave _ => [(.sru, stopWords)]
  | .notifyAction _ _ => [(.fnu, noticeWords)]
  | .windowOpen =>
    (selectionReads s { s.tlu with windowOpen := true }).map fun x =>
      (x.1, fun w => x.2 w && (s.rtu.windowOpen || !fieldWords .plan [4] w))
  | .windowClose => [(.rtu, planWords)]
  | .guardTimerExpiry j =>
    if (findEntry s.rtu.plan j).any guardRuns then
      [(.rtu, rtuReads noWords (s.rtu.guardExpiry s.dau.state s.settings j).2)]
    else []
  | .lateDecisionReport _ => [(.rtu, planWords)]
  | .owedReport => selectionReads s s.tlu
  | .telegramEnd =>
    if s.tlu.transmitter = .sending then
      [(.rtu, rtuReads planWords (s.rtu.ended s.dau.state s.settings).2)]
    else []
  | .gapTimerExpiry =>
    if s.tlu.gapTimer.isSome then selectionReads s { s.tlu with transmitter := .idle } else []
  | .pollEnd => if s.sru.pollState = .sending ∧ s.sru.driven.length ≤ 1 then [(.sru, settingWords [.replyTimeout])] else []
  | .goodReply heard => heard.flatMap (loopReads s)
  | .badReply heard =>
    if heard = [] then
      (if s.sru.replyTimer.isSome then [(.sru, replyReads s.dau.state s.settings s.sru .bad)] else [])
    else heard.flatMap (loopReads s)
  | .hardwareSoundAdd src snd pattern =>
    match s.rst.mode with
    | .configuring => []
    | .service => soundWork s t (addReads s.settings s.sdu src snd pattern)
  | .hardwareSoundRemove src snd =>
    match s.rst.mode with
    | .configuring => []
    | .service => soundWork s t (removeReads s.settings s.sdu src snd)
  | .phaseTimerExpiry snd =>
    if (player s.sdu snd).timer.isSome then soundWork s t (phaseReads s.settings s.sdu snd) else []
  | .strikeEnd => [(.lmu, driveReads s t.sdu)]
  | .severeFault kind source _ _ _ =>
    if kind = .storeParity ∧ source = .fnu then [] else [(.fnu, captureReads kind s.fnu)]
  | .lockdownViewChange .tdu _ => [(.tdu, tduReads s noWords t.tdu)]
  | .lockdownViewChange .lmu view => settleReads (newValue s .lockdown (view == .held))
  | .lockdownViewChange .tlu view =>
    if s.tlu.lockView = .held ∧ view = .clear then selectionReads s { s.tlu with lockView := .clear } else []
  | .lockdownViewChange .sdu view =>
    match s.rst.mode with
    | .configuring => []
    | .service => soundWork s t (lockdownReads s.settings view s.sdu)
  | .noticeRaise _ => [(.fnu, noticeWords)]
  | _ => []
where
  /-- R38: the line is PLAIN_INPUT and has no debounce time. -/
  lineDebounces (l : Lmu) (n : Fin 32) : Bool :=
    l.active.lines[n].group == .plainInput && l.active.lines[n].debounce == 0

/-- R20, R81: the faults a unit's own work at an event raises, one for each bad word it reads; those of a
frame-timer expiry carry the last effort sent before it. -/
def ownFaults (s t : State) (c : Instr) : List Instr :=
  match c with
  | .frameTimerExpiry => parityFaults s .tdu (frameReads s.dau.state) (some s.tdu.lastEffort)
  | c => (ownWork s t c).flatMap fun x => parityFaults s x.1 x.2 none

/-! ### Invariants -/

/-- R9: no reservation slot names a record that is not reservable. -/
def SlotsReservable (s : State) : Prop :=
  ∀ (p : Port) (r : Record), s.rst.slots.get p = some r → reservable r = true

/-- R98, R101: at most 12 entries, and one for a junction. -/
def PlanOk (s : State) : Prop :=
  s.rtu.plan.length ≤ Config.planCapacity ∧ (s.rtu.plan.map fun e => e.junction).Nodup

/-- R92, R117: the pending actions and the CANCELs keep their capacities. -/
def ListsOk (s : State) : Prop :=
  s.lcu.actions.length ≤ Config.actionCapacity ∧ s.rtu.cancels.length ≤ Config.cancelCapacity

/-- R162: at most 12 requests, and one for a source and a sounder. -/
def RequestsOk (u : Sdu) : Prop :=
  u.requests.length ≤ Config.soundCapacity ∧ (u.requests.map fun q => (q.source, q.sounder)).Nodup

/-- R172: the armed flag and the acknowledged field agree. -/
def FlagsAgree (s : State) : Prop := s.fnu.armed = s.fnu.capture.acknowledged

/-- The invariants that every step keeps: R9, R17, R92, R98, R117, R162, R172. -/
def Kept (s : State) : Prop :=
  SlotsReservable s ∧ s.rst.passOver ≤ 4 ∧ PlanOk s ∧ ListsOk s ∧ RequestsOk s.sdu ∧ FlagsAgree s

/-- R46, R40: no cell reads itself and at most one line is TACH_INPUT, in the written tables and in the active. -/
def TablesOk (s : State) : Prop :=
  ¬ Cyclic s.lmu.written.cells ∧ ¬ Cyclic s.lmu.active.cells
    ∧ ¬ TwoTachs s.lmu.written.lines ∧ ¬ TwoTachs s.lmu.active.lines

/-- R117: at most one CANCEL for a junction, and none for a junction of the plan. -/
def CancelsOk (s : State) : Prop :=
  (s.rtu.cancels.map fun c => c.junction).Nodup
    ∧ ∀ c ∈ s.rtu.cancels, ∀ e ∈ s.rtu.plan, e.junction ≠ c.junction

/-- R147: no station twice in the stop list, and the decision NONE with the zone closed. -/
def StopsOk (s : State) : Prop :=
  (s.sru.list.map fun e => e.station).Nodup ∧ (s.sru.zone = none → s.sru.decision = .none)

/-- The invariants of R40, R46, R117 and R147. -/
def Coherent (s : State) : Prop := TablesOk s ∧ CancelsOk s ∧ StopsOk s

/-- R168: a sounder that is idle has no request, and one that plays has none of higher priority than the
request it plays. -/
def Outranked (u : Sdu) (snd : Sounder) : Prop :=
  match playingRequest u snd with
  | some q => ∀ x ∈ u.requests, x.sounder = snd → x.priority ≤ q.priority
  | none => (player u snd).playing = none ∧ ∀ x ∈ u.requests, x.sounder ≠ snd

/-- R162, R168: the sound list and its players. -/
def SoundOk (u : Sdu) : Prop := RequestsOk u ∧ ∀ snd : Sounder, Outranked u snd

/-- R158, R159, R168, R169: the sound unit at the state: its list, its patterns and its timers, and no request in
CONFIGURING. -/
def SoundRuns (s : State) : Prop :=
  SoundOk s.sdu ∧ SoundPlays s.sdu ∧ PlayersTimed s.sdu ∧ (s.rst.mode = .configuring → s.sdu.requests = [])

end Sys2Proof.Machine
end

