-- ==== Sys2Proof/Certificates/Slice0/Obligations.lean ====
section
/-! DEFINITION. The statements for the provers, chapter by chapter of the manual. In the results, `b` is
the list of bad words left: an event may only repair words, by writing them (R19, log 8). -/

open Sys2Proof Sys2Proof.Machine


/-- The command at the front of the queue is the one that is run, on the state with the queue's rest. -/
def Obligations.StepRunsTheFrontCommand : Prop :=
  ∀ (c : Instr) (rest : List Instr) (s : State),
    step { s with pending := c :: rest } = exec c { s with pending := rest }

/-- The model's choice (log 2): with no command waiting, the oldest event handed on is taken; with none
outstanding, the arbiter's choice is served; with no request waiting, nothing changes. -/
def Obligations.EmptyQueueTakesHandedEventsThenRequests : Prop :=
  ∀ s : State, s.pending = [] →
    (∀ c rest, s.handed = c :: rest → step s = exec c s) ∧
    (∀ p r, s.handed = [] → arbiterChoice s = some p → (s.pif.get p).waiting = some r →
      step s = .next (s.serve p r)) ∧
    (s.handed = [] → (∀ p, (s.pif.get p).waiting = none) → step s = .next s)

/-- Every command is followed by a next state, and none touches the queue: no row of the table stops the
device. No rule says so in so many words: it is deduced (log 28). -/
def Obligations.EveryCommandAnswersANextStateAndKeepsTheQueue : Prop :=
  ∀ (c : Instr) (s : State), ∃ t, exec c s = .next t ∧ t.pending = s.pending

/-- R188: power-on puts every unit in the state of its own chapter. The raw levels are the inputs of the
part and stay (log 6). Values that R188 leaves open are the model's: the motion that the desk unit keeps (log 10), no
frame last returned (log 25), no port last served (log 30), the 0 of the inactive ceiling entries (log 26), the
receivers' places in their bits (logs 17 and 18), and the free times already drawn, which stay drawn (log 5). -/
def Obligations.PowerOnPutsEveryUnitInItsPowerOnState : Prop :=
  (∀ s : State, exec .powerOn s = .next { State.reset with
    lmu := { State.reset.lmu with raw := s.lmu.raw }, draws := s.draws, pending := s.pending }) ∧
  State.reset.rst = ⟨⟨none, none, none⟩, 0, .configuring, ⟨1, 1⟩, none⟩ ∧
  State.reset.dau = ⟨.noDesk, .none, ⟨false, false⟩, .none, .standstill⟩ ∧
  (∀ p, State.reset.pif.get p = ⟨none, ⟨.done, .none, []⟩, none⟩) ∧
  State.reset.tdu.demand = ⟨⟨0, .neutral⟩, ⟨0, .neutral⟩⟩ ∧ lowestCeiling State.reset.tdu.ceilings = -60 ∧
  State.reset.tdu.lock = false ∧ State.reset.tdu.lastEffort = 0 ∧ State.reset.tdu.link = .starting ∧
  State.reset.lcu.motion = .standstill ∧ State.reset.lcu.window = 0 ∧ State.reset.lcu.actions = [] ∧
  State.reset.rtu.plan = [] ∧ State.reset.rtu.cancels = [] ∧ State.reset.tlu.transmitter = .idle ∧
  State.reset.tlu.receiver = .recovering ∧ State.reset.sru.pollState = .stopped ∧
  State.reset.sru.list = [] ∧ State.reset.sru.zone = none ∧ State.reset.sdu.requests = [] ∧
  State.reset.fnu.armed = true ∧ State.reset.fnu.capture.kind = none ∧ State.reset.fnu.capture.count = 0 ∧
  State.reset.fnu.lock = .clear ∧ (∀ p, noticeLine (State.reset.fnu.notices.get p) = false)

/-- R186, R191: a frame fails in exactly the four cases of the rule, and a frame laid out as R191 says
carries the request of its octets.

R185, R187: a transaction at a waiting slot returns PORT_BUSY and changes nothing else; at an EMPTY
slot it returns the response, and its frame becomes the waiting request or is answered BAD_FRAME. A frame that
becomes the waiting request may move the pass-over count (ArbiterFollowsItsOrderAndNullIsDone). -/
def Obligations.FramesAreCheckedAndTransactionsTaken : Prop :=
  ((∀ frame : List Byte, parseFrame frame = none ↔
     (frame.length ≠ 6 + 8 * (frame.getD 4 0).toNat ∨ 64 < (frame.getD 4 0).toNat
       ∨ 4 < (frame.getD 0 0).toNat ∨ crc8 frame.dropLast ≠ frame.getLastD 0)) ∧
   (∀ (kind flags target index : Byte) (n : Nat) (payload : List Byte), kind.toNat ≤ 4 → n ≤ 64 →
     payload.length = 8 * n →
     let body := kind :: flags :: target :: index :: BitVec.ofNat 8 n :: payload
     parseFrame (body ++ [crc8 body]) = some
       (match kind.toNat with
        | 0 => .null
        | 1 => .read target index
        | 2 => .readReserve target index
        | 3 => .write (flags.getLsbD 0) target index payload
        | _ => .command (flags.getLsbD 0) target payload))) ∧
  (∀ (p : Port) (inService : Bool) (frame : List Byte) (s : State),
     (∀ r, (s.pif.get p).waiting = some r →
       exec (.portTransaction p ⟨frame, inService⟩) s = .next { s with
         pif := s.pif.set p { s.pif.get p with
           returned := some (responseFrame ⟨.portBusy, .none, []⟩) } }) ∧
     ((s.pif.get p).waiting = none → ∀ r, parseFrame frame = some r →
       ∃ count : Nat, ∃ last : Option Port,
         exec (.portTransaction p ⟨frame, inService⟩) s = .next { s with
           pif := s.pif.set p ⟨some r, (s.pif.get p).response,
             some (responseFrame (s.pif.get p).response)⟩
           rst := { s.rst with passOver := count, served := last } }) ∧
     ((s.pif.get p).waiting = none → parseFrame frame = none →
       exec (.portTransaction p ⟨frame, inService⟩) s = .next { s with
         pif := s.pif.set p ⟨none, ⟨.badFrame, .none, []⟩,
           some (responseFrame (s.pif.get p).response)⟩ }))

/-- R16, R17: the arbiter's order at each desk state, the promotion of the Supervisor, and the pass-over
count after a service. A Supervisor request that comes in within the service of a desk's request, as its row
says, raises the count once; which service that is, is the model's field (log 30).

R2, R16, R17: a NULL that the arbiter chooses is answered DONE with no payload and changes nothing but
its port's slots and the pass-over count; one that it does not choose waits in the slot it finds EMPTY
(log 3). -/
def Obligations.ArbiterFollowsItsOrderAndNullIsDone : Prop :=
  (∀ s : State,
     (isWaiting s .supervisor = true → s.settings.promotion ≤ s.rst.passOver →
       arbiterChoice s = some .supervisor) ∧
     ((isWaiting s .supervisor = false ∨ s.rst.passOver < s.settings.promotion) →
       (deskHolder s.dau.state = some .a → arbiterChoice s =
         if isWaiting s .deskA then some .deskA else if isWaiting s .supervisor then some .supervisor
         else if isWaiting s .deskB then some .deskB else none) ∧
       (deskHolder s.dau.state = some .b → arbiterChoice s =
         if isWaiting s .deskB then some .deskB else if isWaiting s .supervisor then some .supervisor
         else if isWaiting s .deskA then some .deskA else none) ∧
       (deskHolder s.dau.state = none → arbiterChoice s =
         if isWaiting s .supervisor then some .supervisor else if isWaiting s .deskA then some .deskA
         else if isWaiting s .deskB then some .deskB else none)) ∧
     (∀ p r, Ready s p r → ∀ resp, (s.served p resp).rst.passOver =
       if p = .supervisor then 0
       else if isWaiting s .supervisor then min 4 (s.rst.passOver + 1) else s.rst.passOver) ∧
     (∀ p r, Ready s p r → ∀ resp, (s.served p resp).rst.served = some p) ∧
     (∀ (p : Port) (inService : Bool) (frame : List Byte), (s.pif.get p).waiting = none →
       ∀ r, parseFrame frame = some r →
       ∃ t, exec (.portTransaction p ⟨frame, inService⟩) s = .next t ∧
         t.rst =
           if inService = true ∧ p = .supervisor
               ∧ (s.rst.served = some .deskA ∨ s.rst.served = some .deskB)
           then { s.rst with passOver := min 4 (s.rst.passOver + 1), served := none } else s.rst)) ∧
  (∀ (p : Port) (s : State),
     (Ready s p .null → exec (.nullRequest p) s = .next (s.served p ⟨.done, .none, []⟩)) ∧
     ((s.pif.get p).waiting = none → arbiterChoice (s.withRequest p .null) ≠ some p →
       exec (.nullRequest p) s = .next (s.withRequest p .null)))

/-- R4, R10, R6: a READ_RESERVE of a reservable record returns its payload and sets the port's slot; the
refused ones leave the slot. A record that is not reservable is refused before its index is looked at (log 15).
The free times remaining drawn by a whole read of SOUND are the model's (log 5).

R19: a read that would return a word with bad parity is refused with STORE_ERROR, leaves the slot, and
raises STORE_PARITY from the record store, once. The words are the model's (log 7, log 8, log 40), and so is the context where
the bad word is one of SETTINGS that a whole read of SOUND or STATIONS returns: the record read (log 37).

R181: a READ of NOTICES returns the port's own sets as they stood and copies its pending set into its
seen set; the other ports' sets stay.

R4, R6, R19: a plain READ that waits is answered so when it is served, and changes nothing else.

R1, R4, R141, R191: what a whole READ returns of DESK, CEILINGS, TRACTION_STATUS, PLAN, STOPS, STATIONS, SOUND,
FAULT and MODE, field by field (log 13, log 31); that of TRACTION_STATUS has no octet of its own for the last effort
sent (log 40). A bad word of an active table refuses no read (log 43). -/
def Obligations.ReadsReserveRefuseBadWordsAndMarkNotices : Prop :=
  (∀ (p : Port) (index : Byte) (s : State),
     (∀ r payload, Ready s p (.readReserve (recordCode r) index) → reservable r = true →
       readView s p r index = some payload → meetsBad s (readWords s p r index) = false →
       exec (.readReserve p (recordCode r) index) s = .next
         { s.served p ⟨.done, .none, payload⟩ with
           rst := { (s.served p ⟨.done, .none, payload⟩).rst with slots := s.rst.slots.set p (some r) }
           draws := if r = .sound ∧ index = 0xFF then s.draws + 5 else s.draws }) ∧
     (∀ r, Ready s p (.readReserve (recordCode r) index) → reservable r = false →
       exec (.readReserve p (recordCode r) index) s = .next (s.served p ⟨.refused, .wrongState, []⟩)) ∧
     (∀ r, Ready s p (.readReserve (recordCode r) index) → reservable r = true →
       readView s p r index = none →
       exec (.readReserve p (recordCode r) index) s = .next (s.served p ⟨.refused, .outOfRange, []⟩)) ∧
     (∀ target, Ready s p (.readReserve target index) → recordOfCode target = none →
       exec (.readReserve p target index) s = .next (s.served p ⟨.refused, .unknownTarget, []⟩))) ∧
  (∀ (p : Port) (r : Record) (index : Byte) (payload : List Byte) (s : State),
     Ready s p (.readReserve (recordCode r) index) → reservable r = true →
     readView s p r index = some payload → meetsBad s (readWords s p r index) = true →
     (∃ w ∈ s.bad, readWords s p r index w = true) ∧
     exec (.readReserve p (recordCode r) index) s = .next
       { s.served p ⟨.refused, .storeError, []⟩ with
         handed := s.handed ++ [.severeFault .storeParity .rst (.record r) false none] }) ∧
  (∀ (p : Port) (index : Byte) (s : State), Ready s p (.read (recordCode .notices) index) →
     (index = 0xFF → meetsBad s (readWords s p .notices index) = false →
       exec (.noticesRead p index) s = .next
         { s.served p ⟨.done, .none,
             putNat16 (s.fnu.notices.get p).pending.toNat ++ putNat16 (s.fnu.notices.get p).enabled.toNat
               ++ putNat16 (s.fnu.notices.get p).seen.toNat
               ++ putNat8 (highestPending (s.fnu.notices.get p).pending)⟩ with
           fnu := { s.fnu with
             notices := s.fnu.notices.set p
               { s.fnu.notices.get p with seen := (s.fnu.notices.get p).pending } } }) ∧
     (index = 0xFF → meetsBad s (readWords s p .notices index) = true →
       exec (.noticesRead p index) s = .next { s.served p ⟨.refused, .storeError, []⟩ with
         handed := s.handed ++ [.severeFault .storeParity .rst (.record .notices) false none] }) ∧
     (index ≠ 0xFF →
       exec (.noticesRead p index) s = .next (s.served p ⟨.refused, .outOfRange, []⟩))) ∧
  (∀ (p : Port) (index : Byte) (s : State), teardownDone s →
     (∀ r, r ≠ .notices → (s.pif.get p).waiting = some (.read (recordCode r) index) →
       meetsBad s (storeReads s p (.read (recordCode r) index)) = false →
       (∀ payload, readView s p r index = some payload →
         (meetsBad s (readWords s p r index) = false →
           s.serve p (.read (recordCode r) index) = { s.served p ⟨.done, .none, payload⟩ with
             draws := if r = .sound ∧ index = 0xFF then s.draws + 5 else s.draws }) ∧
         (meetsBad s (readWords s p r index) = true →
           s.serve p (.read (recordCode r) index) = { s.served p ⟨.refused, .storeError, []⟩ with
             handed := s.handed ++ [.severeFault .storeParity .rst (.record r) false none] })) ∧
       (readView s p r index = none →
         s.serve p (.read (recordCode r) index) = s.served p ⟨.refused, .outOfRange, []⟩)) ∧
     (∀ target, recordOfCode target = none → (s.pif.get p).waiting = some (.read target index) →
       meetsBad s (storeReads s p (.read target index)) = false →
       s.serve p (.read target index) = s.served p ⟨.refused, .unknownTarget, []⟩)) ∧
  (∀ (p : Port) (s : State),
     let whole := fun (r : Record) => readView s p r 0xFF
     whole .desk = some (putEnum deskStateList s.dau.state ++ putEnum holderList (deskHolder s.dau.state)
       ++ putEnum leadingList s.dau.leading ++ putFlag s.dau.keySeen.a ++ putFlag s.dau.keySeen.b
       ++ putEnum lastChangeList s.dau.lastChange) ∧
     whole .ceilings = some (((List.finRange 9).flatMap fun i =>
         putNat8 i.val ++ putFlag s.tdu.ceilings[i].active ++ putInt8 s.tdu.ceilings[i].value)
       ++ putInt8 (lowestCeiling s.tdu.ceilings) ++ putFlag s.tdu.lock) ∧
     whole .tractionStatus = some (putEnum linkList s.tdu.link
       ++ putOpt (fun f => putEnum frameModeList f.mode ++ putInt8 f.effort
           ++ putEnum leadingList f.leading ++ putNat8 f.seq.toNat) s.tdu.lastFrame
       ++ putOpt (fun r => putNat8 r.echo.toNat ++ putInt8 r.applied ++ putFlag r.propulsionFault)
           s.tdu.lastStatus
       ++ putEnum vigilanceList s.tdu.vigilance) ∧
     whole .plan = some (putNat8 s.rtu.plan.length ++ putFlag s.rtu.windowOpen ++ putNat8 s.lcu.window
       ++ putList (fun c => putNat16 c.junction ++ putNat8 c.code) s.rtu.cancels
       ++ putOpt (fun f => putEnum telegramKindList f.kind ++ putNat16 f.junction) s.rtu.inFlight
       ++ putOpt (fun x => putEnum planExceptionList x.1 ++ putNat16 x.2) s.rtu.exception
       ++ putNat8 s.rtu.otherRun
       ++ putList (fun e => putNat16 e.junction ++ putNat8 e.code ++ putOpt putNat8 e.platform
           ++ putNat8 e.priority ++ putEnum portList e.origin ++ putEnum entryStateList e.state
           ++ putNat8 e.requestsOwed ++ putFlag e.updateOwed ++ putNat8 e.transmissions
           ++ putOpt (fun x => putEnum pointReportList x.state ++ putNat8 x.code) e.lastPoint) s.rtu.plan
       ++ putEnum transmitterList s.tlu.transmitter
       ++ putOpt (fun t => putEnum telegramKindList t.kind ++ putNat16 t.junction) s.tlu.inFlight
       ++ putOpt putNat16 s.tlu.lastRequest ++ putNat8 s.tlu.checkCount ++ putNat8 s.tlu.framingCount
       ++ putNat8 s.tlu.lengthCount) ∧
     whole .stops = some (putFlag (decide (s.sru.list ≠ []))
       ++ putList (fun e => putNat8 e.station ++ putEnum stopKindList e.kind) s.sru.list
       ++ putOpt (fun z => putNat8 z.platform ++ putFlag z.mandatory) s.sru.zone
       ++ putEnum decisionList s.sru.decision ++ putFlag s.sru.stoppedInZone
       ++ putOpt (fun v => putEnum stopEventList v.1 ++ putNat8 v.2) s.sru.lastStop) ∧
     whole .stations = some ((s.sru.stations.toList.flatMap fun t =>
         putEnum healthList t.health ++ putNat8 t.misses ++ putFlag t.fault ++ putFlag t.ackDue)
       ++ putNat8 s.settings.stationCount ++ putEnum pollStateList s.sru.pollState
       ++ putNat8 s.sru.address ++ putNat8 s.sru.unsolicited
       ++ putOpt (fun v => putNat8 v.1 ++ putEnum healthEventList v.2) s.sru.lastHealth) ∧
     whole .sound = some (putNat8 s.sdu.requests.length
       ++ (s.sdu.requests.zipIdx.flatMap fun x => requestView s.sdu x.2 x.1)
       ++ allSounders.flatMap (playerView s)
       ++ putOpt (fun v => putEnum soundEventList v.kind ++ putEnum sourceList v.source
           ++ putEnum allSounders v.sounder) s.sdu.lastEvent) ∧
     (∀ age q, requestView s.sdu age q = putEnum sourceList q.source ++ putEnum allSounders q.sounder
       ++ putNat8 q.pattern.val ++ putNat8 q.priority ++ putNat8 (q.repeats.getD 0) ++ putNat8 age
       ++ putFlag (decide ((player s.sdu q.sounder).playing = some q.source))) ∧
     (∀ snd, let x := player s.sdu snd
       playerView s snd =
         putOpt (fun src => match findRequest s.sdu.requests src snd with
             | some q => requestView s.sdu (s.sdu.requests.idxOf q) q
             | none => []) x.playing
           ++ putNat8 x.step ++ putEnum phaseList x.phase
           ++ putTimerLeft (s.draws + (sounderIndex snd).val) x.timer
           ++ putOpt (putEnum sourceList) x.lastSource
           ++ putEnum tieModeList s.settings.tieModes[sounderIndex snd]) ∧
     whole .fault = some (putEnum faultKindList s.fnu.capture.kind
       ++ putOpt (fun k => putEnum faultKindList (some k)) s.fnu.capture.second
       ++ putEnum unitList s.fnu.capture.source ++ putContext s.fnu.capture.context
       ++ putEnum motionList s.fnu.capture.motion ++ putEnum deskStateList s.fnu.capture.desk
       ++ putInt8 s.fnu.capture.effort ++ putFlag s.fnu.capture.recoverable
       ++ putFlag s.fnu.capture.acknowledged ++ putNat8 s.fnu.capture.count ++ putFlag s.fnu.armed
       ++ putEnum lockList s.fnu.lock) ∧
     whole .mode = some (putEnum modeList s.rst.mode))

/-- R1, R7: a WRITE of VEHICLE that reaches its owner stores the numbers and nothing else.

R7, R34, R80: a WRITE of SETTINGS in range is stored whole; with no active desk the DESK entry takes the
new no-desk ceiling at once, and nothing else of the units changes. Where that changes the DESK entry, the bad words
among those of the ceiling table are met, and each raises its fault (R20, log 8).

R36, R40, R46, R49: a WRITE of LINES, CELLS or PERMITS, of one entry or whole, that reaches its owner and
passes its check changes the written table alone: the active table is as it was.

A LINES or CELLS WRITE whose check reads a bad word of another entry is taken and raises the fault (log 34).

R89, R159: a WRITE of LOCATIONS or PATTERNS, of one entry or whole, that reaches its owner and passes its
check stores the table and changes nothing else of its owner.

R19: the words a WRITE stores have good parity from then on: every word of a record or table written whole, and
every word of an entry written alone. -/
def Obligations.WritesStoreTheirRecordAlone : Prop :=
  (∀ (p : Port) (cond : Bool) (v : Vehicle) (contents : List Byte) (s : State), v.ok = true →
     Carries contents (putVehicle v) → WriteReaches s p cond .vehicle 0xFF contents →
     exec (.recordWrite p cond (recordCode .vehicle) 0xFF contents) s = .next
       { s.servedDone p cond (s.rst.vehicle != v) .vehicle with
         rst := { (s.servedDone p cond (s.rst.vehicle != v) .vehicle).rst with vehicle := v }
         bad := s.bad.filter fun w => !writtenWords .vehicle 0xFF w }) ∧
  (∀ (p : Port) (cond : Bool) (c : Settings) (contents : List Byte) (s : State), c.ok = true →
     Carries contents (putSettings c) → WriteReaches s p cond .settings 0xFF contents →
     s.dau.state = .noDesk →
     ∃ b, b.Sublist s.bad ∧ (∀ w, writtenWords .settings 0xFF w = true → w ∉ b) ∧
       exec (.recordWrite p cond (recordCode .settings) 0xFF contents) s = .next
         { s.servedDone p cond (s.settings != c) .settings with
           settings := c
           tdu := { s.tdu with ceilings := s.tdu.ceilings.set 0 ⟨true, c.noDeskCeiling⟩ }
           bad := b
           handed := s.handed ++ (if s.tdu.ceilings[0] = ⟨true, c.noDeskCeiling⟩ then []
             else parityFaults s .tdu (ceilingWords .noDesk) none) }) ∧
  (∀ (p : Port) (cond : Bool) (index : Byte) (contents : List Byte) (s : State),
     (∀ t, TableWrite putLine LineEntry.ok s.lmu.written.lines t index contents →
       WriteReaches s p cond .lines index contents → ¬ TwoTachs t →
       exec (.linesWrite p cond index contents) s = .next
         { s.servedDone p cond (s.lmu.written.lines != t) .lines with
           lmu := { s.lmu with written := { s.lmu.written with lines := t } }
           bad := s.bad.filter fun w => !writtenWords .lines index w
           handed := s.handed ++ parityFaults s .lmu (otherEntries .lines index) none }) ∧
     (∀ t, TableWrite putCell CellEntry.ok s.lmu.written.cells t index contents →
       WriteReaches s p cond .cells index contents → ¬ Cyclic t →
       exec (.cellsWrite p cond index contents) s = .next
         { s.servedDone p cond (s.lmu.written.cells != t) .cells with
           lmu := { s.lmu with written := { s.lmu.written with cells := t } }
           bad := s.bad.filter fun w => !writtenWords .cells index w
           handed := s.handed ++ parityFaults s .lmu (otherEntries .cells index) none }) ∧
     (∀ t, TableWrite putPermit (fun _ => true) s.lmu.written.permits t index contents →
       WriteReaches s p cond .permits index contents →
       exec (.permitsWrite p cond index contents) s = .next
         { s.servedDone p cond (s.lmu.written.permits != t) .permits with
           lmu := { s.lmu with written := { s.lmu.written with permits := t } }
           bad := s.bad.filter fun w => !writtenWords .permits index w })) ∧
  (∀ (p : Port) (cond : Bool) (index : Byte) (contents : List Byte) (s : State),
     (∀ t, TableWrite putLocation LocationEntry.ok s.lcu.table t index contents →
       WriteReaches s p cond .locations index contents →
       exec (.locationsWrite p cond index contents) s = .next
         { s.servedDone p cond (s.lcu.table != t) .locations with
           lcu := { s.lcu with table := t }
           bad := s.bad.filter fun w => !writtenWords .locations index w }) ∧
     (∀ t, TableWrite putPattern Pattern.ok s.sdu.patterns t index contents →
       WriteReaches s p cond .patterns index contents →
       (∀ i : Fin 16, t[i].steps = [] ∨ ∃ x ∈ t[i].steps, 0 < x.on ∨ 0 < x.off) →
       exec (.patternsWrite p cond index contents) s = .next
         { s.servedDone p cond (s.sdu.patterns != t) .patterns with
           sdu := { s.sdu with patterns := t }
           bad := s.bad.filter fun w => !writtenWords .patterns index w })) ∧
  (∀ (r x : Record) (i k : Nat) (index : Byte),
     (writtenWords r index (.field x k) = true ↔ x = r ∧ index = 0xFF) ∧
     (writtenWords r index (.entry x i k) = true ↔ x = r ∧ (index = 0xFF ∨ i = index.toNat)))

/-- R40, R46, R159: a table with two TACH_INPUT lines, a cycle, or a pattern that plays in no time is
refused with its reason, and the refusal changes no record; a bad word of another entry raises nothing then
(log 34).

R7, R191: a WRITE or a COMMAND that comes to its owner with a payload that does not match the layout, or
with a field out of its range, is refused with OUT_OF_RANGE and changes no record. Eight or more zero octets
after the fields do not match the layout (log 14), and this check stands before that of bad words (log 16). -/
def Obligations.BadContentsAreRefusedWithTheirReason : Prop :=
  (∀ (p : Port) (cond : Bool) (index : Byte) (contents : List Byte) (s : State),
     (∀ t, TableWrite putLine LineEntry.ok s.lmu.written.lines t index contents →
       WriteReaches s p cond .lines index contents → TwoTachs t →
       exec (.linesWrite p cond index contents) s = .next (s.servedRefused p cond .duplicate)) ∧
     (∀ t, TableWrite putCell CellEntry.ok s.lmu.written.cells t index contents →
       WriteReaches s p cond .cells index contents → Cyclic t →
       exec (.cellsWrite p cond index contents) s = .next (s.servedRefused p cond .configLoop)) ∧
     (∀ t, TableWrite putPattern Pattern.ok s.sdu.patterns t index contents →
       WriteReaches s p cond .patterns index contents →
       (∃ i : Fin 16, t[i].steps ≠ [] ∧ ∀ x ∈ t[i].steps, x.on = 0 ∧ x.off = 0) →
       exec (.patternsWrite p cond index contents) s = .next (s.servedRefused p cond .badPattern))) ∧
  (∀ (p : Port) (cond : Bool) (index : Byte) (payload : List Byte) (s : State),
     (∀ r, WriteReaches s p cond r index payload → ¬ ContentsFit s index payload r →
       exec (.recordWrite p cond (recordCode r) index payload) s =
         .next (s.servedRefused p cond .outOfRange)) ∧
     (∀ c, CommandReaches s p cond c payload → ¬ ArgumentsFit payload c →
       exec (commandRow p cond payload c) s = .next (s.servedRefused p cond .outOfRange)))

/-- R46: the check of a CELLS write finds a cycle exactly where some cell reaches itself through inputs that
name cells. -/
def Obligations.CycleCheckFindsExactlyTheCycles : Prop :=
  ∀ t : Table CellEntry 16, hasCycle t = true ↔ Cyclic t

/-- R7, R191: a payload is read as the contents of a record, or as the arguments of a command, every layout of
arguments among them and the empty one, exactly when it is those octets in their layout with every field in its
range, and nothing after them but padding: at most seven zero octets (log 14). -/
def Obligations.PayloadsAreReadExactlyAsTheyAreLaidOut : Prop :=
  ∀ l : List Byte,
    (∀ e, readAll getLine l = some e ↔ e.ok = true ∧ Carries l (putLine e)) ∧
    (∀ e, readAll getCell l = some e ↔ e.ok = true ∧ Carries l (putCell e)) ∧
    (∀ e, readAll getPermit l = some e ↔ Carries l (putPermit e)) ∧
    (∀ e, readAll getLocation l = some e ↔ e.ok = true ∧ Carries l (putLocation e)) ∧
    (∀ e, readAll getPattern l = some e ↔ e.ok = true ∧ Carries l (putPattern e)) ∧
    (∀ e, readAll getDemand l = some e ↔ e.ok = true ∧ Carries l (putDemand e)) ∧
    (∀ e, readAll getVehicle l = some e ↔ e.ok = true ∧ Carries l (putVehicle e)) ∧
    (∀ e, readAll getSettings l = some e ↔ e.ok = true ∧ Carries l (putSettings e)) ∧
    (∀ e, readAll getInsertArgs l = some e ↔ e.ok = true ∧ Carries l (putInsertArgs e)) ∧
    (∀ e, readAll getStartArgs l = some e ↔ e.ok = true ∧ Carries l (putStartArgs e)) ∧
    (∀ active value, readAll getCeilingArgs l = some (active, value) ↔
      withinInt (-100) 100 value = true ∧ Carries l (putFlag active ++ putInt8 value)) ∧
    (∀ j code, readAll getCodeArgs l = some (j, code) ↔
      junctionOk j = true ∧ code ≤ 7 ∧ Carries l (putNat16 j ++ putNat8 code)) ∧
    (∀ j, readAll getJunction l = some j ↔ junctionOk j = true ∧ Carries l (putNat16 j)) ∧
    (∀ k, readAll (getEnum stopKindList) l = some k ↔ Carries l (putEnum stopKindList k)) ∧
    (∀ snd, readAll (getEnum allSounders) l = some snd ↔ Carries l (putEnum allSounders snd)) ∧
    (∀ causes : BitVec 16, readAll getCauses l = some causes ↔ Carries l (putNat16 causes.toNat)) ∧
    (readAll getNothing l = some () ↔ NoArguments l)

/-- R57, R58, R63, R64, R65: a demand WRITE that reaches the TDU stores the demand, restarts the stale timer with
STALE inactive, clears the resume lock at a lever of 0 or below, compares the selector with the taken direction, and
sets the lock where that makes DIRECTION active at 0 with the lever above 0. A change of the lock empties every slot
naming CEILINGS. What is handed on is the parity faults of the words it reads (log 8), the demand's own being good by
then, and the leading end where the taken direction has changed, which go to several units in the model's order
(log 1). Nothing else changes. -/
def Obligations.DemandWriteStoresTheDemandAndComparesTheDirection : Prop :=
  ∀ (p : Port) (cond : Bool) (d : Desk) (new : Demand) (contents : List Byte) (s : State),
    new.ok = true → Carries contents (putDemand new) →
    WriteReaches s p cond (demandRecord d) 0xFF contents →
    ∃ t b, b.Sublist s.bad ∧ (∀ w, writtenWords (demandRecord d) 0xFF w = true → w ∉ b) ∧
      exec (.demandWrite p cond d 0xFF contents) s = .next t ∧
      t = { s.servedDone p cond (s.tdu.demand.get d != new) (demandRecord d) with
            rst := t.rst, tdu := t.tdu, bad := b, handed := t.handed } ∧
      t.rst = { (s.servedDone p cond (s.tdu.demand.get d != new) (demandRecord d)).rst with
                slots := t.rst.slots } ∧
      (∀ q, t.rst.slots.get q =
        if t.tdu.lock ≠ s.tdu.lock ∧ (slotsAfter p cond (s.tdu.demand.get d != new) (demandRecord d)
            s.rst.slots).get q = some .ceilings then none
        else (slotsAfter p cond (s.tdu.demand.get d != new) (demandRecord d) s.rst.slots).get q) ∧
      t.tdu = { s.tdu with
        demand := s.tdu.demand.set d new, staleTimer := some s.settings.staleTime,
        ceilings := t.tdu.ceilings, lock := t.tdu.lock, taken := t.tdu.taken } ∧
      t.tdu.ceilings[6] = ⟨false, s.tdu.ceilings[6].value⟩ ∧
      (∀ i : Fin 9, i ≠ 1 → i ≠ 6 → t.tdu.ceilings[i] = s.tdu.ceilings[i]) ∧
      (new.selector = .neutral → t.tdu.taken = s.tdu.taken ∧ t.tdu.ceilings[1] = ⟨true, 0⟩) ∧
      (∀ dir, selectorDirection new.selector = some dir →
        (s.tdu.taken = some dir → t.tdu.taken = some dir
          ∧ t.tdu.ceilings[1] = ⟨false, s.tdu.ceilings[1].value⟩) ∧
        (s.tdu.taken ≠ some dir → s.tdu.motion = .standstill → t.tdu.taken = some dir
          ∧ t.tdu.ceilings[1] = ⟨false, s.tdu.ceilings[1].value⟩) ∧
        (s.tdu.taken ≠ some dir → s.tdu.motion = .moving → t.tdu.taken = s.tdu.taken
          ∧ t.tdu.ceilings[1] = ⟨true, 0⟩)) ∧
      (new.lever ≤ 0 → t.tdu.lock = false) ∧
      (0 < new.lever → t.tdu.lock = (s.tdu.lock || (t.tdu.ceilings[1].active
        && (!s.tdu.ceilings[1].active || decide (0 < s.tdu.ceilings[1].value))))) ∧
      t.handed = s.handed
        ++ parityFaults { s with bad := s.bad.filter fun w => !writtenWords (demandRecord d) 0xFF w } .tdu
            (fun w => settingWords [.staleTime] w
              || (t.tdu.ceilings != s.tdu.ceilings && ceilingWords (.active d) w)) none
        ++ (if s.tdu.taken = t.tdu.taken then []
            else [.leadingEndPublished (leadingEndOf (some d) t.tdu.taken)])

/-- R6, R11: a WRITE is refused by the first of the record store's checks that fails, in their order; each
refusal of a conditional request empties its port's slot, and nothing else changes.

R6, R11: the same of each of the nineteen commands, and of a COMMAND whose code is no command's (R6 step 1),
which waits and is served.

R5: the ports and modes of the table, row by row. -/
def Obligations.ChecksAreMadeInOrderByTheAuthorityTable : Prop :=
  (∀ (p : Port) (cond : Bool) (target index : Byte) (contents : List Byte) (s : State),
     Ready s p (.write cond target index contents) →
     (recordOfCode target = none → exec (.recordWrite p cond target index contents) s =
       .next (s.servedRefused p cond .unknownTarget)) ∧
     (∀ r, recordOfCode target = some r →
       (cond = true → s.rst.slots.get p ≠ some r →
         exec (.recordWrite p cond target index contents) s =
           .next (s.servedRefused p cond .noReservation)) ∧
       (Admitted s p cond r → modeAdmits s.rst.mode r = false →
         exec (.recordWrite p cond target index contents) s =
           .next (s.servedRefused p cond .configLocked)) ∧
       (Admitted s p cond r → modeAdmits s.rst.mode r = true → mayWrite s.dau.state p r = false →
         exec (.recordWrite p cond target index contents) s =
           .next (s.servedRefused p cond .notAuthorised)))) ∧
  (∀ (c : CommandName) (p : Port) (cond : Bool) (args : List Byte) (s : State),
     Ready s p (.command cond (commandCode c) args) →
     (cond = true → s.rst.slots.get p ≠ some (commandTarget c) →
       exec (commandRow p cond args c) s = .next (s.servedRefused p cond .noReservation)) ∧
     (Admitted s p cond (commandTarget c) → modeAdmits s.rst.mode (commandTarget c) = false →
       exec (commandRow p cond args c) s = .next (s.servedRefused p cond .configLocked)) ∧
     (Admitted s p cond (commandTarget c) → modeAdmits s.rst.mode (commandTarget c) = true →
       mayCommand s.dau.state p c = false →
       exec (commandRow p cond args c) s = .next (s.servedRefused p cond .notAuthorised))) ∧
  (∀ (p : Port) (cond : Bool) (code : Byte) (args : List Byte) (s : State), teardownDone s →
     (s.pif.get p).waiting = some (.command cond code args) →
     meetsBad s (storeReads s p (.command cond code args)) = false →
     (∀ c, commandCode c ≠ code) →
     s.serve p (.command cond code args) = s.servedRefused p cond .unknownTarget) ∧
  (∀ (desk : DeskState) (p : Port) (m : Mode),
     (∀ d, mayWrite desk p (demandRecord d) = true ↔ p = deskPort d ∧ desk = .active d) ∧
     (∀ r ∈ [Record.vehicle, .lines, .cells, .permits, .locations, .patterns, .settings],
       mayWrite desk p r = true ↔ p = .supervisor) ∧
     (∀ r ∈ [Record.desk, .ceilings, .tractionStatus, .plan, .stops, .stations, .sound, .fault, .notices,
       .mode], mayWrite desk p r = false) ∧
     (∀ r ∈ [Record.desk, .plan, .stops, .sound], modeAdmits m r = true ↔ m = .service) ∧
     (∀ r ∈ [Record.lines, .cells, .permits, .locations, .patterns, .settings],
       modeAdmits m r = true ↔ m = .configuring) ∧
     (∀ r ∈ [Record.demandA, .demandB, .ceilings, .fault, .notices, .vehicle], modeAdmits m r = true) ∧
     (∀ c ∈ [CommandName.deskClaim, .deskRelease],
       mayCommand desk p c = true ↔ p = .deskA ∨ p = .deskB) ∧
     (∀ c ∈ [CommandName.deskForceRelease, .supervisorCeiling, .lockdownRelease, .configCommit,
       .reconfigure], mayCommand desk p c = true ↔ p = .supervisor) ∧
     (∀ c ∈ [CommandName.routeInsert, .routeSetCode, .routeCancel, .planSync, .stopClear, .faultAck],
       mayCommand desk p c = true ↔ p = .supervisor ∨ ∃ d, deskHolder desk = some d ∧ p = deskPort d) ∧
     (∀ c ∈ [CommandName.routeOverride, .stopSet],
       mayCommand desk p c = true ↔ ∃ d, deskHolder desk = some d ∧ p = deskPort d) ∧
     (∀ c ∈ [CommandName.soundStart, .soundStop, .noticeClear, .noticeEnable],
       mayCommand desk p c = true))

/-- R13: a structural change report empties every slot that names the record, and no other.

R31, R65: a published leading end is stored in DESK, with good parity (R19), and in the location unit; nothing
else changes. -/
def Obligations.StructuralChangesAndPublishedEndsAreTaken : Prop :=
  (∀ (r : Record) (s : State), ∃ t,
     exec (.structuralChangeReport r) s = .next t ∧
     t = { s with
       rst := { s.rst with slots := t.rst.slots }
       handed := s.handed.erase (.structuralChangeReport r) } ∧
     ∀ p, t.rst.slots.get p = if s.rst.slots.get p = some r then none else s.rst.slots.get p) ∧
  (∀ (e : LeadingEnd) (s : State),
     exec (.leadingEndPublished e) s = .next { s with
       dau := { s.dau with leading := e }
       lcu := { s.lcu with leading := e }
       bad := s.bad.filter fun w => w != .field .desk 2
       handed := s.handed.erase (.leadingEndPublished e) })

/-- R25, R24, R23: a claim by the desk's own port is taken when its four conditions hold, and is refused
with WRONG_STATE, changing nothing, when one does not. The events handed on stand in the model's order
(log 1).

R26, R27, R32: a release by the desk that holds authority, at standstill with its lever at 0 or below,
and a forced release at standstill whatever the lever, lead to NO_DESK, and the NO_DESK event is handed to
the five units; in every other case the command is refused with WRONG_STATE and changes nothing. -/
def Obligations.DeskCommandsClaimAndRelease : Prop :=
  (∀ (d : Desk) (cond : Bool) (args : List Byte) (s : State), NoArguments args →
     CommandReaches s (deskPort d) cond .deskClaim args → meetsBad s deskWords = false →
     (s.dau.state = .noDesk → s.dau.keySeen.get d = true → s.dau.keySeen.get (otherDesk d) = false →
       s.dau.motion = .standstill →
       ∃ b, b.Sublist s.bad ∧ exec (.deskClaim (deskPort d) cond args) s = .next
         { s.servedDone (deskPort d) cond true .desk with
           dau := { s.dau with state := .active d, lastChange := .claimed }
           bad := b
           handed := s.handed ++ [.noticeRaise .deskChange, .conditionChange (deskCondition d) true,
             .deskStateChange (.active d)] }) ∧
     (¬ (s.dau.state = .noDesk ∧ s.dau.keySeen.get d = true ∧ s.dau.keySeen.get (otherDesk d) = false
         ∧ s.dau.motion = .standstill) →
       exec (.deskClaim (deskPort d) cond args) s =
         .next (s.servedRefused (deskPort d) cond .wrongState))) ∧
  (∀ (p : Port) (cond : Bool) (args : List Byte) (s : State), NoArguments args →
     (∀ d, p = deskPort d → CommandReaches s p cond .deskRelease args →
       meetsBad s (releaseReads d) = false →
       (deskHolder s.dau.state = some d → s.dau.motion = .standstill → (s.tdu.demand.get d).lever ≤ 0 →
         ∃ b, b.Sublist s.bad ∧ exec (.deskRelease p cond args) s = .next
           { s.servedDone p cond true .desk with
             dau := { s.dau with state := .noDesk, lastChange := .released }
             bad := b
             handed := s.handed ++ [.noticeRaise .deskChange, .conditionChange (deskCondition d) false,
               .noDeskTeardown .tdu d true, .noDeskTeardown .rtu d true, .noDeskTeardown .sru d true,
               .noDeskTeardown .sdu d true, .noDeskTeardown .lcu d true] }) ∧
       (¬ (deskHolder s.dau.state = some d ∧ s.dau.motion = .standstill
           ∧ (s.tdu.demand.get d).lever ≤ 0) →
         exec (.deskRelease p cond args) s = .next (s.servedRefused p cond .wrongState))) ∧
     (CommandReaches s p cond .deskForceRelease args → meetsBad s deskWords = false →
       (∀ d, deskHolder s.dau.state = some d → s.dau.motion = .standstill →
         ∃ b, b.Sublist s.bad ∧ exec (.deskForceRelease p cond args) s = .next
           { s.servedDone p cond true .desk with
             dau := { s.dau with state := .noDesk, lastChange := .forceReleased }
             bad := b
             handed := s.handed ++ [.noticeRaise .deskChange, .conditionChange (deskCondition d) false,
               .noDeskTeardown .tdu d true, .noDeskTeardown .rtu d true, .noDeskTeardown .sru d true,
               .noDeskTeardown .sdu d true, .noDeskTeardown .lcu d true] }) ∧
       (deskHolder s.dau.state = none ∨ s.dau.motion = .moving →
         exec (.deskForceRelease p cond args) s = .next (s.servedRefused p cond .wrongState))))

/-- R28, R30: a key permit event sets the seen field; the fall of the active desk's key leads to NO_DESK at
standstill and to RELEASING_x while moving, each a structural change; the rise of the other desk's key in
ACTIVE_x is a key conflict; every other key event changes the seen field alone. The events handed on stand in the
model's order (log 1), after the parity faults of the desk record's words (log 8). -/
def Obligations.KeyEventsChangeTheDeskRecordAsTheTablesSay : Prop :=
  ∀ (d : Desk) (value : Bool) (s : State),
    ∃ b, b.Sublist s.bad ∧ .field .desk (if d = .a then 3 else 4) ∉ b ∧
    exec (.keyPermitEvent d value) s =
      let seen := { s.dau with keySeen := s.dau.keySeen.set d value }
      let out := fun (x : Dau) (l : List Instr) => Host.Outcome.next { s with
        dau := x
        bad := b
        handed := s.handed.erase (.keyPermitEvent d value) ++ parityFaults s .dau deskWords none ++ l }
      if s.dau.state = .active d ∧ value = false then
        if s.dau.motion = .standstill then
          out { seen with state := .noDesk, lastChange := .keyRemovedAtStandstill }
            [.noticeRaise .deskChange, .structuralChangeReport .desk,
              .conditionChange (deskCondition d) false,
              .noDeskTeardown .tdu d false, .noDeskTeardown .rtu d false, .noDeskTeardown .sru d false,
              .noDeskTeardown .sdu d false, .noDeskTeardown .lcu d false]
        else
          out { seen with state := .releasing d, lastChange := .keyRemovedMoving }
            [.noticeRaise .deskChange, .structuralChangeReport .desk, .deskStateChange (.releasing d)]
      else if s.dau.state = .active (otherDesk d) ∧ value = true then
        out { seen with lastChange := .keyConflict } [.noticeRaise .deskChange]
      else out seen []

/-- R29: standstill in RELEASING_x leads to NO_DESK with RELEASE_COMPLETED, as a structural change, and the
teardown follows; any other motion report leaves the desk record unchanged. The unit keeps the motion for
R25 to R28 (log 10). The events handed on stand in the model's order (log 1), after the parity faults of the desk
record's words (log 8). -/
def Obligations.StandstillEndsReleasingAndOtherMotionLeavesTheDeskRecord : Prop :=
  ∀ s : State,
    (∀ d, s.dau.state = .releasing d → ∃ b, b.Sublist s.bad ∧
      exec (.standstillReport .dau) s = .next { s with
        dau := { s.dau with state := .noDesk, lastChange := .releaseCompleted, motion := .standstill }
        bad := b
        handed := s.handed.erase (.standstillReport .dau) ++ parityFaults s .dau deskWords none
          ++ [.noticeRaise .deskChange, .structuralChangeReport .desk,
            .conditionChange (deskCondition d) false,
            .noDeskTeardown .tdu d false, .noDeskTeardown .rtu d false, .noDeskTeardown .sru d false,
            .noDeskTeardown .sdu d false, .noDeskTeardown .lcu d false] }) ∧
    ((∀ d, s.dau.state ≠ .releasing d) → exec (.standstillReport .dau) s = .next { s with
      dau := { s.dau with motion := .standstill }
      handed := s.handed.erase (.standstillReport .dau) ++ parityFaults s .dau deskWords none }) ∧
    exec (.movingReport .dau) s = .next { s with
      dau := { s.dau with motion := .moving }
      handed := s.handed.erase (.movingReport .dau) }

/-- R22: no step passes authority from one desk to the other, and a desk becomes ACTIVE only from
NO_DESK. -/
def Obligations.AuthorityPassesOnlyThroughNoDesk : Prop :=
  ∀ s t : State, step s = .next t →
    (∀ d e, deskHolder s.dau.state = some d → deskHolder t.dau.state = some e → d = e) ∧
    (∀ d, t.dau.state = .active d → s.dau.state = .active d ∨ s.dau.state = .noDesk)

/-- R38, R39: what a change of a raw level does at a line of each group; a level that repeats is no
change.

R38, R44, R45, R47: the other input events of the matrix, each followed by a settle: the expiry of a
debounce timer makes the raw level the taken one, the expiry of an ON_DELAY timer makes the output true
with A still true, and a condition takes a new value, from its publisher, from a motion report or from a
change of the lockdown state (R85, R176), which is the condition's change with no second event (log 22). A
stopped timer does not expire, and a repeated condition is no event. -/
def Obligations.LineAndConditionEventsSettleTheMatrix : Prop :=
  (∀ (n : Fin 32) (v : Bool) (s : State),
     let x := s.take (.rawLevelChange n v)
     let l := { s.lmu with raw := s.lmu.raw.set n v }
     let e := s.lmu.active.lines[n]
     (s.lmu.raw[n] = v → exec (.rawLevelChange n v) s = .next x) ∧
     (s.lmu.raw[n] ≠ v →
       (e.group = .plainInput →
         (s.lmu.taken[n] = v → exec (.rawLevelChange n v) s = .next
           { x with lmu := { l with debounce := s.lmu.debounce.set n none } }) ∧
         (s.lmu.taken[n] ≠ v → 0 < e.debounce → exec (.rawLevelChange n v) s = .next
           { x with lmu := { l with debounce := s.lmu.debounce.set n (some e.debounce) } }) ∧
         (s.lmu.taken[n] ≠ v → e.debounce = 0 → exec (.rawLevelChange n v) s = .next
           ({ x with lmu := l }.settleFrom
             { l with taken := s.lmu.taken.set n v, debounce := s.lmu.debounce.set n none }))) ∧
       (e.group = .tachInput → exec (.rawLevelChange n v) s = .next
         { x with lmu := l, handed := x.handed ++ (if v then [.tachPulse] else []) }) ∧
       (e.group ≠ .plainInput → e.group ≠ .tachInput →
         exec (.rawLevelChange n v) s = .next { x with lmu := l }))) ∧
  (∀ s : State,
     (∀ n : Fin 32,
       (∀ ms, s.lmu.debounce[n] = some ms → exec (.debounceTimerExpiry n) s = .next
         ((s.take (.debounceTimerExpiry n)).settleFrom { s.lmu with
           taken := s.lmu.taken.set n s.lmu.raw[n], debounce := s.lmu.debounce.set n none })) ∧
       (s.lmu.debounce[n] = none →
         exec (.debounceTimerExpiry n) s = .next (s.take (.debounceTimerExpiry n)))) ∧
     (∀ c : Fin 16,
       (∀ ms, s.lmu.delay[c] = some ms → exec (.onDelayTimerExpiry c) s = .next
         ((s.take (.onDelayTimerExpiry c)).settleFrom { s.lmu with
           output := s.lmu.output.set c (inputA s.lmu s.lmu.active.cells[c])
           delay := s.lmu.delay.set c none })) ∧
       (s.lmu.delay[c] = none →
         exec (.onDelayTimerExpiry c) s = .next (s.take (.onDelayTimerExpiry c)))) ∧
     (let becomes := fun (e : Instr) (c : Condition) (v : Bool) =>
       (conditionValue s.lmu c ≠ v → exec e s = .next ((s.take e).settleFrom { s.lmu with
         conditions := s.lmu.conditions.set (conditionIndex c) v })) ∧
       (conditionValue s.lmu c = v → exec e s = .next (s.take e))
      (∀ c v, becomes (.conditionChange c v) c v) ∧
      becomes (.movingReport .lmu) .standstill false ∧ becomes (.standstillReport .lmu) .standstill true ∧
      becomes (.lockdownViewChange .lmu .held) .lockdown true ∧
      becomes (.lockdownViewChange .lmu .clear) .lockdown false))

/-- R41 to R44: each kind's output and timer after a settle, from its inputs, its output and its timer.

R47, R48, R49: after a settle of an acyclic table every cell stands at its kind's function of the settled
values of its inputs, every permit's value is the value last delivered, and each permit that changed has been
handed on once, as its own event; nothing else changes. The events stand in the order of the permits (log 1; R48
admits either order), after the parity faults of the active tables' words (R55, log 8). -/
def Obligations.CellsAndPermitsSettleAtTheirFunctions : Prop :=
  (∀ (delay : Nat) (a b out : Bool) (timer : Timer) (x : Bool) (t : Timer),
     (∀ k ∈ [CellKind.off, .and, .or, .xor, .nand, .nor, .latch],
       (cellNext k delay a b out timer).2 = timer) ∧
     ((cellNext .off delay a b out timer).1 = true ↔ False) ∧
     ((cellNext .and delay a b out timer).1 = true ↔ a = true ∧ b = true) ∧
     ((cellNext .or delay a b out timer).1 = true ↔ a = true ∨ b = true) ∧
     ((cellNext .xor delay a b out timer).1 = true ↔ a ≠ b) ∧
     ((cellNext .nand delay a b out timer).1 = true ↔ ¬ (a = true ∧ b = true)) ∧
     ((cellNext .nor delay a b out timer).1 = true ↔ a = false ∧ b = false) ∧
     ((cellNext .latch delay a b out timer).1 = true ↔ b = false ∧ (a = true ∨ out = true)) ∧
     (cellNext .onDelay delay a b out timer = (x, t) ↔
       (a = false ∧ x = false ∧ t = none) ∨
       (a = true ∧ out = true ∧ x = true ∧ t = timer) ∨
       (a = true ∧ out = false ∧ timer.isSome ∧ x = false ∧ t = timer) ∨
       (a = true ∧ out = false ∧ timer = none ∧ delay = 0 ∧ x = true ∧ t = none) ∨
       (a = true ∧ out = false ∧ timer = none ∧ 0 < delay ∧ x = false ∧ t = some delay))) ∧
  (∀ (s : State) (l : Lmu), ¬ Cyclic l.active.cells →
     let t := s.settleFrom l
     t = { s with
       lmu := { l with output := t.lmu.output, delay := t.lmu.delay, delivered := t.lmu.delivered }
       handed := s.handed ++ parityFaults s .lmu activeWords none
         ++ (allPermits.filter fun p => permitValue t.lmu p != l.delivered[permitIndex p]).map
             fun p => permitEvent p (permitValue t.lmu p) } ∧
     (∀ c : Fin 16, (t.lmu.output[c], t.lmu.delay[c]) =
       cellNext l.active.cells[c].kind l.active.cells[c].delay (inputA t.lmu l.active.cells[c])
         (inputB t.lmu l.active.cells[c]) l.output[c] l.delay[c]) ∧
     (∀ p : Permit, t.lmu.delivered[permitIndex p] = permitValue t.lmu p))

/-- R53, R54: the drive of each output line in either mode and either lockdown state, and what its normal
source follows; its present level is that drive. -/
def Obligations.OutputLinesAreDrivenByModeLockdownAndSource : Prop :=
  ∀ (l : Lmu) (u : Sdu) (n : Fin 32),
    let e := l.active.lines[n]
    let serving := conditionValue l .serviceMode
    let held := conditionValue l .lockdown
    (e.group = .stateOutput → e.stateFn = .emergencyBrake → lineDrive l u n = held) ∧
    (e.group = .unused ∨ e.group = .plainInput ∨ e.group = .tachInput → lineDrive l u n = false) ∧
    (e.group = .cellOutput ∨ e.group = .sounderOutput
        ∨ (e.group = .stateOutput ∧ e.stateFn ≠ .emergencyBrake) →
      lineDrive l u n =
        if serving = false then false
        else if held = false then normalSource l u e
        else match e.drive with
          | .follow => normalSource l u e
          | .off => false
          | .on => true) ∧
    (e.group = .cellOutput → normalSource l u e = l.output[e.cell]) ∧
    (e.group = .sounderOutput → normalSource l u e = sounderDrive u e.sounder) ∧
    (e.group = .stateOutput →
      (e.stateFn = .deskALamp → normalSource l u e = conditionValue l .deskAActive) ∧
      (e.stateFn = .deskBLamp → normalSource l u e = conditionValue l .deskBActive) ∧
      (e.stateFn = .stopIndicator → normalSource l u e = conditionValue l .stopLatched) ∧
      (e.stateFn = .guardIndicator → normalSource l u e = conditionValue l .guardActive) ∧
      (e.stateFn = .lockdownLamp → normalSource l u e = held)) ∧
    (sounderDrive u .bell = (u.players[sounderIndex .bell]).strike.isSome) ∧
    (∀ snd, snd ≠ .bell → sounderDrive u snd =
      ((u.players[sounderIndex snd]).playing.isSome && (u.players[sounderIndex snd]).phase == .on)) ∧
    (e.group = .cellOutput ∨ e.group = .sounderOutput ∨ e.group = .stateOutput →
      presentLevel l u n = lineDrive l u n)

/-- R60: the lowest ceiling is the least value over the active entries, or +100 when none is active.

R51, R59, R62, R68, R112: TRACTION_PERMIT events, the route unit's POINT_GUARD entry and the change of
the lockdown state at the TDU each set their entry under the resume lock rule; a change of the lock is
reported. Nothing else changes.

R60, R61, R14: SUPERVISOR_CEILING sets the SUPERVISOR entry under the resume lock rule, and is DONE whether or not
the entry changed; a change of the lock is the Supervisor's own change of CEILINGS, and one of the entry alone leaves
every reservation standing (log 35). -/
def Obligations.CeilingEntriesAreSetUnderTheLockRule : Prop :=
  (∀ t : Table CeilingEntry 9, (∀ i : Fin 9, t[i].value ≤ 100) →
     ((∀ i : Fin 9, t[i].active = false) → lowestCeiling t = 100) ∧
     ((∃ i : Fin 9, t[i].active = true) →
       (∃ i : Fin 9, t[i].active = true ∧ t[i].value = lowestCeiling t) ∧
       ∀ i : Fin 9, t[i].active = true → lowestCeiling t ≤ t[i].value)) ∧
  (∀ s : State, s.bad = [] →
     let after := fun (c : Instr) (i : Fin 9) (new : CeilingEntry) (u : Tdu) =>
       ∃ k : Bool, (k = true ↔ s.tdu.lock = true ∨ LockForced s.dau.state s.tdu s.tdu.ceilings[i] new) ∧
         exec c s = .next { s with
           tdu := { u with ceilings := s.tdu.ceilings.set i new, lock := k }
           handed := s.handed.erase c ++ lockNews s.tdu.lock k }
     after (.tractionPermitEvent false) 2 ⟨true, 0⟩ { s.tdu with tractionPermit := false } ∧
     after (.tractionPermitEvent true) 2 ⟨false, s.tdu.ceilings[2].value⟩
       { s.tdu with tractionPermit := true } ∧
     (∀ v, after (.pointGuardEntryChange true v) 3 ⟨true, v⟩ s.tdu) ∧
     (∀ v, after (.pointGuardEntryChange false v) 3 ⟨false, s.tdu.ceilings[3].value⟩ s.tdu) ∧
     after (.lockdownViewChange .tdu .held) 8 ⟨true, -100⟩ { s.tdu with lockView := .held } ∧
     after (.lockdownViewChange .tdu .clear) 8 ⟨false, s.tdu.ceilings[8].value⟩
       { s.tdu with lockView := .clear }) ∧
  (∀ (p : Port) (cond active : Bool) (value : Int) (args : List Byte) (s : State), s.bad = [] →
     withinInt (-100) 100 value = true → Carries args (putFlag active ++ putInt8 value) →
     CommandReaches s p cond .supervisorCeiling args →
     ∃ k : Bool, (k = true ↔ s.tdu.lock = true
         ∨ LockForced s.dau.state s.tdu s.tdu.ceilings[7] ⟨active, value⟩) ∧
       exec (.supervisorCeiling p cond args) s = .next
         { s.servedDone p cond (s.tdu.lock != k) .ceilings with
           tdu := { s.tdu with ceilings := s.tdu.ceilings.set 7 ⟨active, value⟩, lock := k } })

/-- R66, R67, R68, R75: a frame-timer expiry: the link accounting, with the loss of the link; the frame
composed from what then stands; and its sending. The severe fault carries the last effort sent before the
expiry (R174, log 12). What is handed on stands in the model's order (log 1).

R67, R68: the laws of the frame. No frame carries an effort above the lowest ceiling standing when it
was composed, and none carries positive effort with the resume lock set or in NO_DESK; while the lockdown
view is HELD, every frame carries EMERGENCY with -100. -/
def Obligations.FramesAreComposedWithinTheLaws : Prop :=
  (∀ s : State, s.bad = [] →
     let t := s.tdu
     let misses := if t.statusSeen = false ∧ t.lastFrame.isSome then min 8 (t.misses + 1) else t.misses
     let lost : Bool := decide (t.link = .up ∧ s.settings.linkLoss ≤ misses)
     let ceilings := if lost then t.ceilings.set 5 ⟨true, -60⟩ else t.ceilings
     ∃ k : Bool, (k = true ↔ t.lock = true
         ∨ (lost = true ∧ LockForced s.dau.state t t.ceilings[5] ⟨true, -60⟩)) ∧
       let lever := match deskHolder s.dau.state with
         | some d => if (t.demand.get d).selector = .neutral then 0 else (t.demand.get d).lever
         | none => 0
       let target := min (if k then min lever 0 else lever) (lowestCeiling ceilings)
       let effort := if t.lastEffort < target
         then t.lastEffort + min (s.settings.ramp : Int) (target - t.lastEffort) else target
       let mode := if t.lockView = .held then FrameMode.emergency
         else if 0 < effort then .drive else if effort < 0 then .brake else .coast
       exec .frameTimerExpiry s = .next { s with
         tdu := { t with
           ceilings := ceilings
           lock := k
           link := if lost then .lost else t.link
           misses := misses
           lastFrame := some ⟨mode, effort, leadingEndOf (deskHolder s.dau.state) t.taken, t.nextSeq⟩
           lastEffort := effort
           recent := (t.nextSeq :: t.recent).take 4
           nextSeq := t.nextSeq + 1
           statusSeen := false
           frameTimer := some s.settings.framePeriod }
         handed := s.handed.erase .frameTimerExpiry
           ++ (if lost then [.noticeRaise .linkChange,
                 .severeFault .tractionLinkLost .tdu .none true (some t.lastEffort)] else [])
           ++ lockNews t.lock k }) ∧
  (∀ s t : State, exec .frameTimerExpiry s = .next t → ∃ f, t.tdu.lastFrame = some f ∧
     f.effort ≤ lowestCeiling t.tdu.ceilings ∧
     (t.tdu.lock = true → f.effort ≤ 0) ∧
     (s.dau.state = .noDesk → f.effort ≤ 0) ∧
     (TractionOk s → s.tdu.lockView = .held → f.mode = .emergency ∧ f.effort = -100))

/-- Conventions, R59, R68, R70, R73: every step keeps the efforts of the traction unit in their range, and
the LOCKDOWN, LINK, VIGILANCE and MATRIX entries as the states they follow say. -/
def Obligations.TractionEntriesFollowTheirStatesAtEveryStep : Prop :=
  ∀ s t : State, TractionOk s → GuardValuesOk s → step s = .next t → TractionOk t ∧ GuardValuesOk t

/-- R72, R73, R74, R76: a status frame is read by its layout and valid when it echoes one of the last four
frames sent; a valid one brings the link up and reports a new propulsion fault, and one that is not valid
changes nothing. -/
def Obligations.StatusFrameBringsTheLinkUpWhenValid : Prop :=
  ∀ (octets : List Byte) (s : State), s.bad = [] →
    (∀ r, parseStatus octets = some r ↔ ∃ h e : Byte, octets = [h, e, crc8 [h, e]]
      ∧ r = ⟨h.setWidth 4, e.toInt, h.msb⟩) ∧
    (∀ r, parseStatus octets = some r → r.echo ∈ s.tdu.recent →
      exec (.statusFrame octets) s = .next { s with
        tdu := { s.tdu with
          lastStatus := some r
          statusSeen := true
          misses := 0
          link := .up
          ceilings := if s.tdu.link = .up then s.tdu.ceilings
            else s.tdu.ceilings.set 5 ⟨false, s.tdu.ceilings[5].value⟩ }
        handed := s.handed.erase (.statusFrame octets)
          ++ (if s.tdu.link = .up then [] else [.noticeRaise .linkChange])
          ++ (if r.propulsionFault && !(s.tdu.lastStatus.any fun l => l.propulsionFault)
              then [.noticeRaise .propulsionFault] else []) }) ∧
    ((∀ r, parseStatus octets = some r → r.echo ∉ s.tdu.recent) →
      exec (.statusFrame octets) s = .next (s.take (.statusFrame octets)))

/-- R69, R70, R71: what a pedal event, a moving report and the expiry of the grace timer do at each
vigilance state. Here and below, what goes to several units stands in the model's order (log 1).

R58: the expiry of the stale timer makes the STALE entry active at 0 under the resume lock rule and
raises DEMAND_STALE; a stopped timer does not expire.

R64, R65, R70: a standstill report at the TDU ends the supervision in HELD and WARNING, and compares the
active desk's selector with the taken direction, a held change being taken. -/
def Obligations.SupervisionTimersAndStandstillActAsTheirTablesSay : Prop :=
  (∀ (d : Desk) (value : Bool) (s : State), s.bad = [] →
     let warn := fun (e : Desk) => Instr.hardwareSoundAdd .vigilance (deskBuzzer e) s.settings.uses.vigilance
     let hush := Instr.hardwareSoundRemove .vigilance (deskBuzzer d)
     let out := fun (c : Instr) (x : Tdu) (l : List Instr) => (Host.Outcome.next { s with
       tdu := x, handed := s.handed.erase c ++ l } : Host.Outcome State Fault Refusal)
     (let u := { s.tdu with pedals := s.tdu.pedals.set d value }
      let go := out (.vigilancePedalEvent d value)
      exec (.vigilancePedalEvent d value) s =
       if s.dau.state = .active d then
         match s.tdu.vigilance, value with
         | .held, false => go { u with vigilance := .warning, graceTimer := some s.settings.graceTime } [warn d]
         | .warning, true => go { u with vigilance := .held, graceTimer := none } [hush]
         | .penalty, true =>
           if s.tdu.motion = .standstill then
             go { u with
               vigilance := .off, ceilings := s.tdu.ceilings.set 4 ⟨false, s.tdu.ceilings[4].value⟩ } [hush]
           else go u []
         | _, _ => go u []
       else go u []) ∧
     (let u := { s.tdu with motion := .moving }
      let go := out (.movingReport .tdu)
      (∀ e, s.dau.state = .active e → s.tdu.vigilance = .off →
       exec (.movingReport .tdu) s =
         if s.tdu.pedals.get e then go { u with vigilance := .held } []
         else go { u with vigilance := .warning, graceTimer := some s.settings.graceTime } [warn e]) ∧
      ((∀ e, s.dau.state ≠ .active e) ∨ s.tdu.vigilance ≠ .off →
       exec (.movingReport .tdu) s = go u [])) ∧
     (s.tdu.graceTimer ≠ none → s.tdu.vigilance = .warning →
       ∃ k : Bool, (k = true ↔ s.tdu.lock = true
           ∨ LockForced s.dau.state s.tdu s.tdu.ceilings[4] ⟨true, s.settings.penaltyCeiling⟩) ∧
         exec .graceTimerExpiry s = out .graceTimerExpiry
           { s.tdu with
             vigilance := .penalty
             graceTimer := none
             ceilings := s.tdu.ceilings.set 4 ⟨true, s.settings.penaltyCeiling⟩
             lock := k }
           (.noticeRaise .vigilance :: lockNews s.tdu.lock k)) ∧
     (s.tdu.graceTimer = none ∨ s.tdu.vigilance ≠ .warning →
       exec .graceTimerExpiry s = .next (s.take .graceTimerExpiry))) ∧
  (∀ s : State, s.bad = [] →
     (s.tdu.staleTimer ≠ none → ∃ k : Bool, (k = true ↔ s.tdu.lock = true
         ∨ LockForced s.dau.state s.tdu s.tdu.ceilings[6] ⟨true, 0⟩) ∧
       exec .staleTimerExpiry s = .next { s with
         tdu := { s.tdu with
           staleTimer := none, ceilings := s.tdu.ceilings.set 6 ⟨true, 0⟩, lock := k }
         handed := s.handed.erase .staleTimerExpiry ++ .noticeRaise .demandStale :: lockNews s.tdu.lock k }) ∧
     (s.tdu.staleTimer = none → exec .staleTimerExpiry s = .next (s.take .staleTimerExpiry))) ∧
  (∀ s : State, s.bad = [] →
     let t := s.tdu
     let c := Instr.standstillReport .tdu
     let ends := t.vigilance = .held ∨ t.vigilance = .warning
     ∃ u : Tdu, ∃ quiet : List Instr,
       (ends → u = { t with
         motion := .standstill, vigilance := .off,
         graceTimer := if t.vigilance = .warning then none else t.graceTimer }) ∧
       (¬ ends → u = { t with motion := .standstill }) ∧
       (∀ d, t.vigilance = .warning → deskHolder s.dau.state = some d →
         quiet = [.hardwareSoundRemove .vigilance (deskBuzzer d)]) ∧
       (t.vigilance ≠ .warning → quiet = []) ∧
       (deskHolder s.dau.state = none → exec c s = .next { s with
         tdu := u, handed := s.handed.erase c }) ∧
       (∀ d, deskHolder s.dau.state = some d →
         ((t.demand.get d).selector = .neutral → ∃ k : Bool, (k = true ↔ t.lock = true
             ∨ LockForced s.dau.state t t.ceilings[1] ⟨true, 0⟩) ∧
           exec c s = .next { s with
             tdu := { u with ceilings := t.ceilings.set 1 ⟨true, 0⟩, lock := k }
             handed := s.handed.erase c ++ quiet ++ lockNews t.lock k }) ∧
         (∀ dir, selectorDirection (t.demand.get d).selector = some dir →
           exec c s = .next { s with
             tdu := { u with
               ceilings := t.ceilings.set 1 ⟨false, t.ceilings[1].value⟩, taken := some dir }
             handed := s.handed.erase c ++ quiet
               ++ (if t.taken = some dir then []
                   else [.leadingEndPublished (leadingEndOf (some d) (some dir))]) })))

/-- R23, R58, R70, R77, R113: the entry into ACTIVE_x and into RELEASING_x at the TDU, and the guard alert
the RTU gives a desk that claims while an entry stands REFUSED or FAULTED. With no active desk none is handed on: a
desk that has lost its authority again by then is given none (R113).

R32, R78, R13: the TDU's share of the teardown: the demand records, the lock, the direction, the DESK
entry, the stale timer and the vigilance state; the slots emptied as a consequence of a desk command, or
the report of the lock's clearing (log 29). What is handed on stands in the model's order (log 1). -/
def Obligations.DeskChangesAndTeardownReachTheTractionUnit : Prop :=
  (∀ (d : Desk) (s : State), s.bad = [] →
     let t := s.tdu
     let ends := t.vigilance ≠ .off
     exec (.deskStateChange (.active d)) s = .next { s with
       tdu := { t with ceilings := t.ceilings.set 0 ⟨false, t.ceilings[0].value⟩, staleTimer := none }
       handed := s.handed.erase (.deskStateChange (.active d))
         ++ .leadingEndPublished (leadingEndOf (some d) t.taken)
           :: (if deskHolder s.dau.state = some d ∧ holding s.rtu.plan = true
               then [.hardwareSoundAdd .pointGuard (deskBuzzer d) s.settings.uses.guardAlert] else []) } ∧
     exec (.deskStateChange .noDesk) s = .next { s with
       tdu := { t with ceilings := t.ceilings.set 0 ⟨true, s.settings.noDeskCeiling⟩ }
       handed := s.handed.erase (.deskStateChange .noDesk) } ∧
     ∃ k : Bool, (k = true ↔ t.lock = true
         ∨ LockForced (.releasing d) t t.ceilings[0] ⟨true, s.settings.releasingCeiling⟩) ∧
       exec (.deskStateChange (.releasing d)) s = .next { s with
         tdu := { t with
           ceilings :=
             let c := (t.ceilings.set 0 ⟨true, s.settings.releasingCeiling⟩).set 6
               ⟨false, t.ceilings[6].value⟩
             if ends then c.set 4 ⟨false, t.ceilings[4].value⟩ else c
           lock := k
           staleTimer := none
           vigilance := .off
           graceTimer := if ends then none else t.graceTimer }
         handed := s.handed.erase (.deskStateChange (.releasing d))
           ++ (if ends then [.hardwareSoundRemove .vigilance (deskBuzzer d)] else [])
           ++ lockNews t.lock k }) ∧
  (∀ (former : Desk) (byCommand : Bool) (s : State), s.bad = [] →
     let t := s.tdu
     let c := Instr.noDeskTeardown .tdu former byCommand
     let ends := t.vigilance ≠ .off
     ∃ x : State, exec c s = .next x ∧
       x = { s with
         rst := { s.rst with slots := x.rst.slots }
         tdu := { t with
           demand := ⟨⟨0, .neutral⟩, ⟨0, .neutral⟩⟩
           ceilings := x.tdu.ceilings
           lock := false
           taken := none
           staleTimer := none
           vigilance := .off
           graceTimer := if ends then none else t.graceTimer }
         handed := s.handed.erase c ++ .leadingEndPublished .none
           :: (if ends then [.hardwareSoundRemove .vigilance (deskBuzzer former)] else [])
           ++ (if t.lock && !byCommand then [.structuralChangeReport .ceilings] else []) } ∧
       (∀ i : Fin 9, x.tdu.ceilings[i] =
         if i = 0 then ⟨true, s.settings.noDeskCeiling⟩ else if i = 1 then ⟨true, 0⟩
         else if i = 6 ∨ (i = 4 ∧ ends) then ⟨false, t.ceilings[i].value⟩ else t.ceilings[i]) ∧
       (∀ q r, s.rst.slots.get q = some r → x.rst.slots.get q =
         if byCommand = true ∧ ((r = .ceilings ∧ t.lock = true) ∨ (r = .demandA ∧ t.demand.a ≠ ⟨0, .neutral⟩)
           ∨ (r = .demandB ∧ t.demand.b ≠ ⟨0, .neutral⟩)) then none else some r) ∧
       (∀ q, s.rst.slots.get q = none → x.rst.slots.get q = none))

/-- R83, R84, R85, R86, R87, R94: a tach pulse counts toward the metre, a metre counts down the window and
the pending actions, those due are delivered in list order, the last NOTIFY among them becoming the last location
event as it fires, and the motion changes at the second pulse. The four moving reports stand in the model's order
(log 1), after the parity faults of the settings the pulse uses (R20, R96, log 8).

R84, R85: the expiry of the standstill timer ends motion, with a report to the four units, or clears the
first-pulse flag; a stopped timer does not expire. -/
def Obligations.PulsesCountMetresAndDecideMotion : Prop :=
  (∀ s : State, 0 < s.settings.windowLength →
     let l := s.lcu
     let whole : Bool := decide (s.settings.pulsesPerMetre ≤ l.pulses + 1)
     let due := l.actions.filter fun a => decide (a.remaining ≤ 1)
     let arms := due.any fun a => a.act.action == .armRoute
     let fired := due.map fun a => deliveredAs a.entry a.beacon a.act
     let starts := l.motion = .standstill ∧ l.firstPulse = true
     let reads := fun w => settingWords [.pulsesPerMetre, .standstillWindow] w
       || (whole && arms && settingWords [.windowLength] w)
     exec .tachPulse s = .next { s with
       lcu := { l with
         pulses := if whole then 0 else l.pulses + 1
         distance := if whole then min 65535 (l.distance + 1) else l.distance
         window := if whole then (if arms then max (l.window - 1) s.settings.windowLength else l.window - 1)
           else l.window
         actions := if whole
           then (l.actions.filter fun a => decide (1 < a.remaining)).map fun a =>
             { a with remaining := a.remaining - 1 }
           else l.actions
         standstillTimer := some s.settings.standstillWindow
         motion := if starts then .moving else l.motion
         firstPulse := if l.motion = .standstill then !l.firstPulse else l.firstPulse
         lastEvent := if whole then notedAs (due.map fun a => (a.entry, a.beacon, a.act)) l.lastEvent
           else l.lastEvent }
       handed := s.handed.erase .tachPulse ++ parityFaults s .lcu reads none
         ++ (if whole then
               (if l.window = 1 then [.windowClose] else [])
                 ++ (if l.window ≤ 1 then openingFirst fired else fired)
             else [])
         ++ (if starts then [.movingReport .dau, .movingReport .tdu, .movingReport .lmu, .movingReport .fnu]
             else []) }) ∧
  (∀ s : State,
     (s.lcu.standstillTimer = none →
       exec .standstillTimerExpiry s = .next (s.take .standstillTimerExpiry)) ∧
     (s.lcu.standstillTimer ≠ none → s.lcu.motion = .moving →
       exec .standstillTimerExpiry s = .next { s with
         lcu := { s.lcu with standstillTimer := none, motion := .standstill }
         handed := s.handed.erase .standstillTimerExpiry
           ++ [.standstillReport .dau, .standstillReport .tdu, .standstillReport .lmu,
             .standstillReport .fnu] }) ∧
     (s.lcu.standstillTimer ≠ none → s.lcu.motion = .standstill →
       exec .standstillTimerExpiry s = .next { s with
         lcu := { s.lcu with standstillTimer := none, firstPulse := false }
         handed := s.handed.erase .standstillTimerExpiry }))

/-- R90 to R94: the end of the silent bit period of a checked BEACON (R129) clears the distance, and every entry that
answers it, in index order, fires at once with offset 0, joins the pending list while that has room, or is dropped
and reported; the last of the NOTIFYs fired and the drops noted is the last location event. The receiver goes to
RECOVERING (R128). The sample points are the rows' (log 17), and the faults of bad words (log 8) come first
(log 38). -/
def Obligations.BeaconFiresJoinsOrDropsEveryEntryThatAnswers : Prop :=
  ∀ (v : Bool) (identity : BitVec 12) (s : State), 0 < s.settings.windowLength →
    s.tlu.receiver = .receiving → s.tlu.wait ≤ 1 → received s.tlu.bits = some (.beacon identity) →
    ∃ found : List (LocationEntry × Nat),
      found.Sublist s.lcu.table.toList.zipIdx ∧
      (∀ i : Fin 16, (s.lcu.table[i], i.val) ∈ found ↔ Answers s.lcu.table[i] identity s.lcu.leading) ∧
      let later := found.filter fun x => decide (0 < x.1.offset)
      let joined := later.take (8 - s.lcu.actions.length)
      let dropped := later.drop (8 - s.lcu.actions.length)
      let arms := found.any fun x => x.1.offset == 0 && x.1.act.action == .armRoute
      let out := found.flatMap fun x =>
        if x.1.offset = 0 then [deliveredAs x.2 identity x.1.act]
        else if x ∈ dropped then [dropReport x.1.act] else []
      let noted := found.filterMap fun x =>
        if x.1.offset = 0 then
          (if x.1.act.action = .notify
            then some (⟨.notify, x.2, identity.toNat, .notify⟩ : LocationEvent) else none)
        else if x ∈ dropped ∧ dropsSevere x.1.act = false
          then some ⟨.overflow, x.2, identity.toNat, x.1.act.action⟩ else none
      let reads := fun w => locationWords w || (arms && settingWords [.windowLength] w)
      ∀ c ∈ [Instr.beaconTelegram [v], .pointStateTelegram [v], .trackRxError [v]],
      exec c s = .next { s with
        tlu := { s.tlu with
          receiver := .recovering, silent := 0, bits := [], wait := 2, run := carrierRun v s.tlu.run }
        lcu := { s.lcu with
          distance := 0
          lastBeacon := some identity
          window := if arms then max s.lcu.window s.settings.windowLength else s.lcu.window
          actions := s.lcu.actions ++ joined.map fun x => ⟨x.2, identity, x.1.act, x.1.offset⟩
          lastEvent := match noted.getLast? with
            | some e => some e
            | none => s.lcu.lastEvent }
        handed := s.handed.erase c ++ parityFaults s .lcu reads none
          ++ (if s.lcu.window = 0 then openingFirst out else out) }

/-- R101: ROUTE_INSERT makes its checks in their order; when all pass, a waiting CANCEL for the junction is
withdrawn and the new entry joins at its position. -/
def Obligations.RouteInsertChecksInOrderAndInserts : Prop :=
  ∀ (p : Port) (cond : Bool) (a : InsertArgs) (args : List Byte) (s : State), s.bad = [] →
    a.ok = true → Carries args (putInsertArgs a) → CommandReaches s p cond .routeInsert args →
    (s.rtu.plan.length < a.position →
      exec (.routeInsert p cond args) s = .next (s.servedRefused p cond .outOfRange)) ∧
    (a.position ≤ s.rtu.plan.length →
      ((∃ e ∈ s.rtu.plan, e.junction = a.junction) →
        exec (.routeInsert p cond args) s = .next (s.servedRefused p cond .duplicate)) ∧
      ((∀ e ∈ s.rtu.plan, e.junction ≠ a.junction) →
        (12 ≤ s.rtu.plan.length →
          exec (.routeInsert p cond args) s = .next (s.servedRefused p cond .listFull)) ∧
        (s.rtu.plan.length < 12 →
          ((∃ f, s.rtu.inFlight = some f ∧ f.kind = .cancel ∧ f.junction = a.junction) →
            exec (.routeInsert p cond args) s = .next (s.served p ⟨.retry, .none, []⟩)) ∧
          ((∀ f, s.rtu.inFlight = some f → f.kind = .cancel → f.junction ≠ a.junction) →
            exec (.routeInsert p cond args) s = .next
              { s.servedDone p cond true .plan with
                rtu := { s.rtu with
                  plan := s.rtu.plan.take a.position
                    ++ ⟨a.junction, a.code, a.platform, a.priority, p, .queued, 0, false, 0, none, none⟩
                      :: s.rtu.plan.drop a.position
                  cancels := s.rtu.cancels.filter fun c => c.junction != a.junction }
                handed := s.handed ++ [.noticeRaise .routeChange] }))))

/-- R102, R104: ROUTE_SET_CODE and ROUTE_OVERRIDE at each state of the entry; the changed flag of R12 does
not count the guard timer, which is no field of the record, and counts a change of an entry's state and counts alone,
which R14 and R99 have reservations survive (log 42). The window is the route unit's view of it (R99,
R124), and what goes to several units stands in the model's order (log 1). -/
def Obligations.SetCodeRearmsAndOverrideReleasesAnEntry : Prop :=
  ∀ (p : Port) (cond : Bool) (j code : Nat) (args : List Byte) (s : State), s.bad = [] → PlanOk s →
    junctionOk j = true → code ≤ 7 →
    (Carries args (putNat16 j ++ putNat8 code) → CommandReaches s p cond .routeSetCode args →
      (∀ f, s.rtu.inFlight = some f → f.junction ≠ j) →
      ((∀ e ∈ s.rtu.plan, e.junction ≠ j) →
        exec (.routeSetCode p cond args) s = .next (s.servedRefused p cond .wrongState)) ∧
      (∀ e ∈ s.rtu.plan, e.junction = j →
        (e.state = .queued → exec (.routeSetCode p cond args) s = .next
          { s.servedDone p cond (e.code != code) .plan with
            rtu := { s.rtu with plan := changedAt s.rtu.plan j { e with code := code } }
            handed := s.handed ++ [.noticeRaise .routeChange] }) ∧
        (e.state = .armed ∨ e.state = .sent ∨ e.state = .refused ∨ e.state = .faulted →
          (s.rtu.windowOpen = true →
            let e' := { e with
              code := code, state := .armed, requestsOwed := s.settings.repeats, transmissions := 0
              updateOwed := false, lastPoint := none, guard := some s.settings.guardTime }
            exec (.routeSetCode p cond args) s = .next
              { s.servedDone p cond ({ e' with guard := none } != { e with guard := none }) .plan with
                rtu := { s.rtu with plan := changedAt s.rtu.plan j e' }
                handed := s.handed ++ planNews s false (changedAt s.rtu.plan j e') ++ [.owedReport] }) ∧
          (s.rtu.windowOpen = false →
            exec (.routeSetCode p cond args) s = .next (s.servedRefused p cond .wrongState))) ∧
        (e.state = .confirmed ∨ e.state = .overridden →
          exec (.routeSetCode p cond args) s = .next (s.servedRefused p cond .wrongState)))) ∧
    (Carries args (putNat16 j) → CommandReaches s p cond .routeOverride args →
      ((∀ e ∈ s.rtu.plan, e.junction ≠ j) →
        exec (.routeOverride p cond args) s = .next (s.servedRefused p cond .wrongState)) ∧
      (∀ e ∈ s.rtu.plan, e.junction = j →
        (e.state = .armed ∨ e.state = .sent ∨ e.state = .refused ∨ e.state = .faulted →
          let plan := changedAt s.rtu.plan j { e with state := .overridden, guard := none }
          exec (.routeOverride p cond args) s = .next
            { s.servedDone p cond true .plan with
              rtu := { s.rtu with plan := plan }
              handed := s.handed ++ planNews s false plan }) ∧
        (e.state = .queued ∨ e.state = .confirmed ∨ e.state = .overridden →
          exec (.routeOverride p cond args) s = .next (s.servedRefused p cond .wrongState))))

/-- R103, R105, R118: ROUTE_CANCEL removes the entry, and queues a CANCEL while the window is open when a
REQUEST has ended, or drops it where the list holds four; PLAN_SYNC changes nothing and is DONE when nothing
is outstanding. What goes to several units stands in the model's order (log 1).

R18: the four commands answered RETRY in the cases of the rule; a request answered RETRY changes no
record and no reservation slot. -/
def Obligations.RouteCancelPlanSyncAndRetry : Prop :=
  (∀ (p : Port) (cond : Bool) (args : List Byte) (s : State), s.bad = [] →
     (∀ j, junctionOk j = true → Carries args (putNat16 j) → CommandReaches s p cond .routeCancel args →
       (∀ f, s.rtu.inFlight = some f → f.junction ≠ j) → PlanOk s →
       ((∀ e ∈ s.rtu.plan, e.junction ≠ j) →
         exec (.routeCancel p cond args) s = .next (s.servedRefused p cond .wrongState)) ∧
       (∀ e ∈ s.rtu.plan, e.junction = j →
         let plan := s.rtu.plan.filter fun x => x.junction != j
         let u := s.rtu.withPlan plan s.rtu.cancels
         let out := fun (v : Rtu) (l : List Instr) => (Host.Outcome.next
           { s.servedDone p cond true .plan with
             rtu := v, handed := s.handed ++ planNews s false plan ++ l } : Host.Outcome State Fault Refusal)
         exec (.routeCancel p cond args) s =
           if s.rtu.windowOpen = true ∧ 1 ≤ e.transmissions then
             if s.rtu.cancels.length < 4 then
               out { u with cancels := s.rtu.cancels ++ [⟨j, e.code⟩] } [.owedReport]
             else out { u with exception := some (.telegramDiscarded, j) } [.noticeRaise .telegramDiscarded]
           else out u [])) ∧
     (NoArguments args → CommandReaches s p cond .planSync args → s.rtu.cancels = [] →
       (∀ e ∈ s.rtu.plan, e.updateOwed = false) →
       exec (.planSync p cond args) s = .next (s.servedDone p cond false .plan))) ∧
  (∀ (p : Port) (cond : Bool) (args : List Byte) (s : State),
     meetsBad s (fun w => planWords w || settingWords [.repeats, .guardTime, .creep] w) = false →
     (∀ a : InsertArgs, a.ok = true → Carries args (putInsertArgs a) →
       CommandReaches s p cond .routeInsert args →
       a.position ≤ s.rtu.plan.length → findEntry s.rtu.plan a.junction = none →
       s.rtu.plan.length < 12 → (∃ f, s.rtu.inFlight = some f ∧ f.kind = .cancel ∧ f.junction = a.junction) →
       exec (.routeInsert p cond args) s = .next (s.served p ⟨.retry, .none, []⟩)) ∧
     (∀ j code, junctionOk j = true → code ≤ 7 → Carries args (putNat16 j ++ putNat8 code) →
       CommandReaches s p cond .routeSetCode args → (∃ f, s.rtu.inFlight = some f ∧ f.junction = j) →
       exec (.routeSetCode p cond args) s = .next (s.served p ⟨.retry, .none, []⟩)) ∧
     (∀ j, junctionOk j = true → Carries args (putNat16 j) → CommandReaches s p cond .routeCancel args →
       (∃ f, s.rtu.inFlight = some f ∧ f.junction = j) →
       exec (.routeCancel p cond args) s = .next (s.served p ⟨.retry, .none, []⟩)) ∧
     (NoArguments args → CommandReaches s p cond .planSync args →
       (s.rtu.cancels ≠ [] ∨ ∃ e ∈ s.rtu.plan, e.updateOwed = true) →
       exec (.planSync p cond args) s = .next (s.served p ⟨.retry, .none, []⟩)))

/-- R107: ARM_ROUTE bypasses the QUEUED entries ahead and arms a QUEUED entry; one that finds no entry is
noted, and one that finds another state is disregarded.

R108, R111: a clearance removes the entry, as passed or as a run-through with its severe fault; the
expiry of a guard timer faults an ARMED or SENT entry. What goes to several units stands in the model's order
(log 1). -/
def Obligations.ArmingClearanceAndGuardTimersActOnTheEntry : Prop :=
  (∀ (j : Nat) (s : State), s.bad = [] → PlanOk s →
     ((∀ e ∈ s.rtu.plan, e.junction ≠ j) → exec (.armRoute j) s = .next { s with
       rtu := { s.rtu with exception := some (.noRoute, j) }
       handed := s.handed.erase (.armRoute j) ++ [.noticeRaise .locationEvent] }) ∧
     (∀ before e after, s.rtu.plan = before ++ e :: after → e.junction = j →
       (e.state ≠ .queued → exec (.armRoute j) s = .next (s.take (.armRoute j))) ∧
       (e.state = .queued →
         let plan := before.filter (fun x => x.state != .queued)
           ++ { e with state := .armed, requestsOwed := s.settings.repeats,
                       guard := some s.settings.guardTime } :: after
         exec (.armRoute j) s = .next { s with
           rtu := s.rtu.withPlan plan s.rtu.cancels
           handed := s.handed.erase (.armRoute j)
             ++ (if before.any fun x => x.state == .queued then [.structuralChangeReport .plan] else [])
             ++ planNews s false plan ++ [.owedReport] }))) ∧
  (∀ (j : Nat) (s : State), s.bad = [] → PlanOk s →
     ((∀ e ∈ s.rtu.plan, e.junction ≠ j) →
       exec (.clearance j) s = .next { s with
         rtu := { s.rtu with exception := some (.unplannedClearance, j) }
         handed := s.handed.erase (.clearance j) ++ [.noticeRaise .locationEvent] } ∧
       exec (.guardTimerExpiry j) s = .next (s.take (.guardTimerExpiry j))) ∧
     (∀ e ∈ s.rtu.plan, e.junction = j →
       (let plan := s.rtu.plan.filter fun x => x.junction != j
        exec (.clearance j) s = .next { s with
         rtu := s.rtu.withPlan plan s.rtu.cancels
         handed := s.handed.erase (.clearance j) ++ [.structuralChangeReport .plan] ++ planNews s false plan
           ++ (if e.state = .confirmed ∨ e.state = .overridden then []
               else [.severeFault .pointRunThrough .rtu (.junction j) false none]) }) ∧
       (e.guard ≠ none → e.state = .armed ∨ e.state = .sent →
         let plan := changedAt s.rtu.plan j { e with state := .faulted, guard := none }
         exec (.guardTimerExpiry j) s = .next { s with
           rtu := s.rtu.withPlan plan s.rtu.cancels
           handed := s.handed.erase (.guardTimerExpiry j) ++ planNews s true plan }) ∧
       (e.guard = none ∨ (e.state ≠ .armed ∧ e.state ≠ .sent) →
         exec (.guardTimerExpiry j) s = .next (s.take (.guardTimerExpiry j)))))

/-- R109, R110: the end of the silent bit period of a checked POINT_STATE (R129): one of another run is counted, one
without an entry is stray, and one for an entry sets its requests owed to 0, its last point state, and its state by
the table. The receiver goes to RECOVERING (R128). The sample points are the rows' (log 17); what goes to several
units stands in the model's order (log 1).

R116, R124: a late decision owes an UPDATE to every entry for the platform that has sent a REQUEST, or with the
window closed, as the route unit sees it, notes the first of them. -/
def Obligations.PointStatesAndLateDecisionsReachTheirEntries : Prop :=
  (∀ (v : Bool) (j code : Nat) (report : PointReport) (run : Nat) (s : State), s.bad = [] →
     PlanOk s → s.tlu.receiver = .receiving → s.tlu.wait ≤ 1 →
     received s.tlu.bits = some (.pointState j code report run) →
     ∀ c ∈ [Instr.beaconTelegram [v], .pointStateTelegram [v], .trackRxError [v]],
     let out := fun (u : Rtu) (l : List Instr) => (Host.Outcome.next { s with
       tlu := { s.tlu with
         receiver := .recovering, silent := 0, bits := [], wait := 2, run := carrierRun v s.tlu.run }
       rtu := u
       handed := s.handed.erase c ++ l } : Host.Outcome State Fault Refusal)
     (run ≠ s.rst.vehicle.run →
       exec c s = out { s.rtu with otherRun := min 255 (s.rtu.otherRun + 1) } []) ∧
     (run = s.rst.vehicle.run → (∀ e ∈ s.rtu.plan, e.junction ≠ j) →
       exec c s = out { s.rtu with exception := some (.strayPointState, j) }
         [.noticeRaise .pointStateStray]) ∧
     (run = s.rst.vehicle.run → ∀ e ∈ s.rtu.plan, e.junction = j →
       let new := afterReport e.state report (code == e.code)
       let plan := changedAt s.rtu.plan j { e with
         requestsOwed := 0, lastPoint := some ⟨report, code⟩, state := new
         guard := if new = e.state then e.guard else none }
       exec c s = out (s.rtu.withPlan plan s.rtu.cancels)
         (if new = e.state then [] else planNews s (new == .refused || new == .faulted) plan))) ∧
  (∀ (p : Nat) (s : State), s.bad = [] →
     let told := fun (e : PlanEntry) => e.platform == some p && decide (1 ≤ e.transmissions)
     let c := Instr.lateDecisionReport p
     ((∀ e ∈ s.rtu.plan, told e = false) → exec c s = .next (s.take c)) ∧
     (∀ e, FirstWith s.rtu.plan (fun x => told x = true) e →
       (s.rtu.windowOpen = true →
         exec c s = .next { s with
           rtu := s.rtu.withPlan
             (s.rtu.plan.map fun x => if told x then { x with updateOwed := true } else x) s.rtu.cancels
           handed := s.handed.erase c
             ++ (if s.rtu.plan.any fun x => told x && !x.updateOwed then [.owedReport] else []) }) ∧
       (s.rtu.windowOpen = false →
         exec c s = .next { s with
           rtu := { s.rtu with exception := some (.lateStopUnreported, e.junction) }
           handed := s.handed.erase c ++ [.noticeRaise .telegramDiscarded] })))

/-- R114, R133, R134, R135: a selection is attempted only with the transmitter IDLE, the mode SERVICE and the
window open, and takes the oldest CANCEL, or outside lockdown the first UPDATE, or the REQUEST of the
rotation; with nothing to take nothing changes.

R87, R133, R136, R138: the events that attempt a selection: an owed report, a window opening, which the header
of the plan shows from then on (R99), stored with good parity where it changes (R19, log 8), the expiry of the gap
timer, which makes the transmitter IDLE, and the end of lockdown; lockdown entered attempts none, and a stopped gap
timer does not expire. -/
def Obligations.SelectionIsAttemptedAndTakesTheFirstThatApplies : Prop :=
  (∀ s : State, s.bad = [] →
     let v := s.rst.vehicle
     let t := s.tlu
     (t.transmitter ≠ .idle ∨ t.modeView ≠ .service ∨ t.windowOpen = false → s.attemptSelection = s) ∧
     (t.transmitter = .idle → t.modeView = .service → t.windowOpen = true →
       (∀ c rest, s.rtu.cancels = c :: rest → s.attemptSelection =
         s.sends ⟨.cancel, c.junction, c.code, false, 0, v.line, v.run⟩ t.lastRequest) ∧
       (s.rtu.cancels = [] → t.lockView = .held → s.attemptSelection = s) ∧
       (s.rtu.cancels = [] → t.lockView = .clear →
         (∀ e, FirstWith s.rtu.plan (fun x => x.updateOwed = true) e → ∃ stopping : Bool,
           (stopping = true ↔ Stopping s e) ∧ s.attemptSelection =
             s.sends ⟨.update, e.junction, e.code, stopping, e.priority, v.line, v.run⟩ t.lastRequest) ∧
         ((∀ e ∈ s.rtu.plan, e.updateOwed = false) →
           (∀ e, Rotates s.rtu.plan t.lastRequest e → ∃ stopping : Bool,
             (stopping = true ↔ Stopping s e) ∧ s.attemptSelection =
               s.sends ⟨.request, e.junction, e.code, stopping, e.priority, v.line, v.run⟩
                 (some e.junction)) ∧
           ((∀ e ∈ s.rtu.plan, e.requestsOwed = 0) → s.attemptSelection = s))))) ∧
  (∀ s : State,
     exec .owedReport s = .next (s.take .owedReport).attemptSelection ∧
     exec .windowOpen s = .next ({ s.take .windowOpen with
       rtu := { s.rtu with windowOpen := true }
       tlu := { s.tlu with windowOpen := true }
       bad := s.bad.filter fun w => s.rtu.windowOpen || w != .field .plan 4 } : State).attemptSelection ∧
     (s.tlu.gapTimer ≠ none → exec .gapTimerExpiry s = .next ({ s.take .gapTimerExpiry with
       tlu := { s.tlu with gapTimer := none, transmitter := .idle } } : State).attemptSelection) ∧
     (s.tlu.gapTimer = none → exec .gapTimerExpiry s = .next (s.take .gapTimerExpiry)) ∧
     (s.tlu.lockView = .held → exec (.lockdownViewChange .tlu .clear) s = .next
       ({ s.take (.lockdownViewChange .tlu .clear) with
         tlu := { s.tlu with lockView := .clear } } : State).attemptSelection) ∧
     (s.tlu.lockView = .clear → exec (.lockdownViewChange .tlu .clear) s = .next
       (s.take (.lockdownViewChange .tlu .clear))) ∧
     exec (.lockdownViewChange .tlu .held) s = .next
       { s.take (.lockdownViewChange .tlu .held) with tlu := { s.tlu with lockView := .held } })

/-- R115: a change of the plan or the list leaves the telegram in flight, and its subject present exactly where it
was and the changed plan, or for a CANCEL the changed list, still has the junction (log 24).

R115, R136: the end of the telegram in flight starts the gap and acts on the telegram's subject where it
is still present; with nothing in flight there is no end. -/
def Obligations.TelegramEndActsOnItsSubjectAndStartsTheGap : Prop :=
  (∀ (u : Rtu) (plan : List PlanEntry) (cancels : List Cancel),
    let x := u.withPlan plan cancels
    x = { u with plan := plan, cancels := cancels, inFlight := x.inFlight } ∧
    (u.inFlight = none → x.inFlight = none) ∧
    ∀ f, u.inFlight = some f → ∃ stays : Bool, x.inFlight = some ⟨f.kind, f.junction, stays⟩ ∧
      (stays = true ↔ f.present = true ∧
        if f.kind = .cancel then ∃ c ∈ cancels, c.junction = f.junction
        else ∃ e ∈ plan, e.junction = f.junction)) ∧
  ∀ s : State, s.bad = [] → PlanOk s →
    (s.tlu.transmitter ≠ .sending → exec .telegramEnd s = .next (s.take .telegramEnd)) ∧
    (s.tlu.transmitter = .sending →
      let out := fun (u : Rtu) (l : List Instr) => (Host.Outcome.next { s with
        tlu := { s.tlu with transmitter := .gap, inFlight := none, gapTimer := some s.settings.gap }
        rtu := { u with inFlight := none }
        handed := s.handed.erase .telegramEnd ++ l } : Host.Outcome State Fault Refusal)
      (s.rtu.inFlight = none → exec .telegramEnd s = out s.rtu []) ∧
      (∀ f, s.rtu.inFlight = some f →
        (f.present = false → exec .telegramEnd s = out s.rtu []) ∧
        (f.present = true →
          (f.kind = .cancel → exec .telegramEnd s =
            out { s.rtu with cancels := s.rtu.cancels.filter fun c => c.junction != f.junction } []) ∧
          (∀ e ∈ s.rtu.plan, e.junction = f.junction →
            (f.kind = .update → exec .telegramEnd s =
              out { s.rtu with plan := changedAt s.rtu.plan f.junction { e with updateOwed := false } } []) ∧
            (f.kind = .request →
              let plan := changedAt s.rtu.plan f.junction { e with
                requestsOwed := e.requestsOwed - 1
                transmissions := e.transmissions + 1
                state := if e.state = .armed then .sent else e.state }
              exec .telegramEnd s = out { s.rtu with plan := plan }
                (if e.state = .armed then planNews s false plan else []))))))

/-- R88, R119: the close of the window: nothing is owed any more, only a CANCEL in flight stays in the list,
and what was given up is noted once; the track link unit's view and the header's are closed. -/
def Obligations.WindowCloseGivesUpWhatIsOwed : Prop :=
  ∀ s : State, s.bad = [] →
    let stays := fun (c : Cancel) => s.rtu.inFlight.any fun f =>
      f.kind == .cancel && f.junction == c.junction && f.present
    let gone := s.rtu.cancels.filter fun c => !stays c
    let owing := s.rtu.plan.filter fun e => decide (0 < e.requestsOwed) || e.updateOwed
    let first := (gone.map (·.junction) ++ owing.map (·.junction)).head?
    let u := ({ s.rtu with windowOpen := false } : Rtu).withPlan
      (s.rtu.plan.map fun e => { e with requestsOwed := 0, updateOwed := false }) (s.rtu.cancels.filter stays)
    exec .windowClose s = .next { s with
      tlu := { s.tlu with windowOpen := false }
      rtu := match first with
        | some j => { u with exception := some (.telegramDiscarded, j) }
        | none => u
      handed := s.handed.erase .windowClose
        ++ (if first.isSome then [.noticeRaise .telegramDiscarded] else []) }

/-- R128, R129, R131: the three rows of the receiver are successive sample points, whatever their name (log 17).
Carrier at two in a row begins a telegram; its bit periods are read 16 points apart, a burst whose leading edge
came one point late or early moving them with it; a telegram dropped by a test is counted under its kind,
staying at 255, and noticed; one that meets every test is delivered (R130) at the end of its silent bit period, 14
points after that period's mid-sample, and not before; in RECOVERING no telegram is taken, and four silent bit periods
end it. -/
def Obligations.ReceiverCountsDroppedTelegramsAndRecoversInSilence : Prop :=
  (∀ (heard : List Bool) (s : State),
    ∀ c ∈ [Instr.beaconTelegram heard, .pointStateTelegram heard, .trackRxError heard],
      exec c s = .next (heard.foldl State.sample (s.take c))) ∧
  (∀ (v : Bool) (s : State),
    let t := { s.tlu with
      run := if v then min 2 (s.tlu.run + 1) else 0
      wait := s.tlu.wait - 1 }
    let out := fun (x : Tlu) => ({ s with tlu := x } : State)
    (s.tlu.receiver = .hunting →
      (v = true → 0 < s.tlu.run →
        s.sample v = out { t with receiver := .receiving, bits := [true], wait := 16 }) ∧
      (v = false ∨ s.tlu.run = 0 → s.sample v = out t)) ∧
    (s.tlu.receiver = .receiving →
      (1 < s.tlu.wait → s.sample v = out t) ∧
      (s.tlu.wait ≤ 1 → ∀ r, received s.tlu.bits = some r → (∀ k, r ≠ .error k) → s.sample v =
        (out { t with receiver := .recovering, silent := 0, bits := [], wait := 2 }).deliver (some r)) ∧
      (s.tlu.wait ≤ 1 → (∀ r, received s.tlu.bits = some r → ∃ k, r = .error k) →
        (∀ r, received (s.tlu.bits ++ [v]) = some r → (∀ k, r ≠ .error k) → s.sample v = out { t with
          bits := s.tlu.bits ++ [v], wait := 14 }) ∧
        (received (s.tlu.bits ++ [v]) = none → s.sample v = out { t with
          bits := s.tlu.bits ++ [v]
          wait := if v = false then 16 else if s.tlu.run = 0 then 17 else if s.tlu.run = 1 then 16 else 15 }) ∧
        (∀ k, received (s.tlu.bits ++ [v]) = some (.error k) → s.sample v = { out { t with
            receiver := .recovering
            silent := 0
            bits := []
            wait := 16
            checkCount := if k = .check then min 255 (s.tlu.checkCount + 1) else s.tlu.checkCount
            framingCount := if k = .framing then min 255 (s.tlu.framingCount + 1) else s.tlu.framingCount
            lengthCount := if k = .length then min 255 (s.tlu.lengthCount + 1) else s.tlu.lengthCount } with
          handed := s.handed ++ [.noticeRaise .trackRxError] }))) ∧
    (s.tlu.receiver = .recovering →
      (1 < s.tlu.wait → s.sample v = out t) ∧
      (s.tlu.wait ≤ 1 → s.sample v = out
        (if v then { t with wait := 16, silent := 0 }
         else if s.tlu.silent = 3 then { t with wait := 16, silent := 4, receiver := .hunting, run := 0 }
         else { t with wait := 16, silent := s.tlu.silent + 1 })))) ∧
  (∀ (carrier : Bool) (s : State),
    exec (.receiverRecoveringBit carrier) s = .next { s with
      tlu :=
        if s.tlu.receiver = .recovering then
          if carrier then { s.tlu with silent := 0 }
          else if s.tlu.silent = 3 then { s.tlu with silent := 4, receiver := .hunting, run := 0 }
          else { s.tlu with silent := s.tlu.silent + 1 }
        else s.tlu
      handed := s.handed.erase (.receiverRecoveringBit carrier) })

/-- R128, R129, R131: the tests of a telegram from its first burst on, each with its error kind; a telegram
whose markers, length and check are right is delivered. The receiver makes each test at the bit period that
decides it, and at every other bit period the telegram goes on.

R127, R128, R129, R130, R191: what a sender puts on the loop is received as it was sent: every BEACON, and
every POINT_STATE, as bit periods and, at a receiver in HUNTING, as sample points (log 17). -/
def Obligations.TelegramsAreTestedAndReceivedAsSent : Prop :=
  (∀ heard : List Bool,
     let bit := carrierAt heard
     let kind := telegramOctet heard 0
     let n := if kind = 0x41 then 4 else 6
     let octets := (List.range n).map (telegramOctet heard)
     (bit 0 = false → receive heard = .noise) ∧
     (bit 0 = true → bit 1 = false → receive heard = .error .framing) ∧
     (bit 0 = true → bit 1 = true →
       (kind ≠ 0x41 → kind ≠ 0x42 → receive heard = .error .length) ∧
       (kind = 0x41 ∨ kind = 0x42 →
         (bit (2 + 8 * n) = false → receive heard = .error .framing) ∧
         (bit (2 + 8 * n) = true → bit (3 + 8 * n) = true → receive heard = .error .length) ∧
         (bit (2 + 8 * n) = true → bit (3 + 8 * n) = false →
           (crc8 octets.dropLast ≠ octets.getLastD 0 → receive heard = .error .check) ∧
           (crc8 octets.dropLast = octets.getLastD 0 → receive heard =
             if kind = 0x41 then beaconFields octets else pointFields octets))))) ∧
  (∀ bits : List Bool,
     let kind := telegramOctet bits 0
     let n := if kind = 0x41 then 4 else 6
     let known := kind = 0x41 ∨ kind = 0x42
     carrierAt bits 0 = true → (2 < bits.length → carrierAt bits 1 = true) →
     (10 < bits.length → known) → (3 + 8 * n < bits.length → carrierAt bits (2 + 8 * n) = true) →
     bits.length ≤ 4 + 8 * n →
     received bits =
       if (bits.length = 2 ∧ carrierAt bits 1 = false) ∨ (bits.length = 10 ∧ ¬ known)
         ∨ (bits.length = 3 + 8 * n ∧ carrierAt bits (2 + 8 * n) = false) ∨ bits.length = 4 + 8 * n
       then some (receive bits) else none) ∧
  ((∀ identity : BitVec 12, receive (telegramCarrier (beaconOctets identity)) = .beacon identity) ∧
   (∀ (j code : Nat) (report : PointReport) (run : Nat), j ≤ 4095 → code ≤ 7 → run ≤ 127 →
     receive (telegramCarrier (pointStateOctets j code report run)) = .pointState j code report run)) ∧
  (∀ t : Tlu, t.receiver = .hunting → t.run = 0 →
    (∀ identity : BitVec 12,
      receptions t (telegramSamples (beaconOctets identity)) = [.beacon identity]) ∧
    (∀ (j code : Nat) (report : PointReport) (run : Nat), j ≤ 4095 → code ≤ 7 → run ≤ 127 →
      receptions t (telegramSamples (pointStateOctets j code report run)) =
        [.pointState j code report run]))

/-- R148, R154, R155: what a press does to the stop record and hands on, in each situation of the table; the
change of the latch is published (R147).

R149, R150, R51: STOP_SET is a press from the cab, refused at a stop; STOP_CLEAR and each delivery of
AT_STOP true clear the record and leave an open zone open; the fall of AT_STOP changes its value alone. A command
changes STOPS for reservations exactly when it changes the latch (R147, R12, log 23). What goes to several units
stands in the model's order (log 1). -/
def Obligations.PressesAndStopCommandsChangeTheStopRecord : Prop :=
  (∀ (desk : DeskState) (cfg : Settings) (station : Nat) (kind : StopKind) (u : Sru),
     (u.atStop = true →
       u.press desk cfg station .stop = (u, []) ∧
       u.press desk cfg station .wheelchair =
         ({ u with lastStop := some (.wheelchairAtStop, station) }, [.noticeRaise .stopRequest])) ∧
     (u.atStop = false →
       (∀ e, FirstWith u.list (fun x => x.station = station) e → e.kind = .wheelchair ∨ kind = .stop →
         u.press desk cfg station kind = (u, [])) ∧
       ∀ list : List StopEntry,
         ((∀ x ∈ u.list, x.station ≠ station) ∧ list = u.list ++ [⟨station, kind⟩])
           ∨ (kind = .wheelchair ∧ (∃ e, FirstWith u.list (fun x => x.station = station) e ∧ e.kind = .stop)
             ∧ list = u.list.map fun x => if x.station = station then ⟨x.station, .wheelchair⟩ else x) →
         let late := u.zone.isSome && u.decision == .passAhead
         let platform := (u.zone.map (·.platform)).getD 0
         let chair := hasChair list && !hasChair u.list
         u.press desk cfg station kind =
           ({ u with
               list := list
               decision := if late then .stopAhead else u.decision
               lastStop := if late then some (.late, platform)
                 else if u.list = [] then some (.latched, station) else u.lastStop },
             (if u.list = [] then
                 [.conditionChange .stopLatched true, .noticeRaise .stopRequest,
                   .hardwareSoundAdd .stopUnit .chime cfg.uses.stopChime]
               else [])
             ++ (if late then
                 [.noticeRaise .stopDecision, .lateDecisionReport platform] ++ buzzerNews desk cfg.uses.lateStop
               else if chair then buzzerNews desk cfg.uses.wheelchair else [])))) ∧
  (∀ (p : Port) (cond : Bool) (kind : StopKind) (args : List Byte) (s : State), s.bad = [] →
     let u := s.sru
     let cleared := { u with
       list := []
       decision := if u.zone.isSome then .none else u.decision
       stoppedInZone := if u.zone.isSome then true else u.stoppedInZone }
     let unlatched := if u.list = [] then [] else [Instr.conditionChange .stopLatched false]
     (Carries args (putEnum stopKindList kind) → CommandReaches s p cond .stopSet args →
       (u.atStop = true → exec (.stopSet p cond args) s = .next (s.servedRefused p cond .wrongState)) ∧
       (u.atStop = false →
         let r := u.press s.dau.state s.settings 0 kind
         exec (.stopSet p cond args) s = .next
           { s.servedDone p cond (u.list.isEmpty != r.1.list.isEmpty) .stops with sru := r.1, handed := s.handed ++ r.2 })) ∧
     (NoArguments args → CommandReaches s p cond .stopClear args →
       exec (.stopClear p cond args) s = .next
         { s.servedDone p cond (!u.list.isEmpty) .stops with
           sru := cleared, handed := s.handed ++ unlatched }) ∧
     exec (.atStopEvent true) s = .next { s with
       sru := { cleared with atStop := true }
       handed := s.handed.erase (.atStopEvent true)
         ++ (if u.list = [] then [] else [.structuralChangeReport .stops]) ++ unlatched } ∧
     exec (.atStopEvent false) s = .next { s with
       sru := { u with atStop := false }
       handed := s.handed.erase (.atStopEvent false) })

/-- R152, R153: a zone entry opens the zone and decides; a leave of the open zone's platform closes it and
notes a missed stop; any other leave is disregarded. The notice and the buzzer's request, which go to two units, stand
in the model's order (log 1). -/
def Obligations.ZoneEnterDecidesAndZoneLeaveNotesAMissedStop : Prop :=
  ∀ (p : Nat) (mandatory : Bool) (s : State), s.bad = [] →
    let u := s.sru
    let stops := decide (u.list ≠ []) || mandatory
    let missed := u.decision = .stopAhead ∧ u.stoppedInZone = false ∧ u.list ≠ []
    exec (.stopZoneEnter p mandatory) s = .next { s with
      sru := { u with
        zone := some ⟨p, mandatory⟩
        stoppedInZone := false
        decision := if stops then .stopAhead else .passAhead
        lastStop := some (.decided, p) }
      handed := s.handed.erase (.stopZoneEnter p mandatory) ++ [.noticeRaise .stopDecision]
        ++ (if stops then buzzerNews s.dau.state s.settings.uses.stopAhead else []) } ∧
    (∀ z, u.zone = some z → z.platform = p →
      (missed → exec (.stopZoneLeave p) s = .next { s with
        sru := { u with
          zone := none, decision := .none, stoppedInZone := false, lastStop := some (.missed, p) }
        handed := s.handed.erase (.stopZoneLeave p) ++ [.noticeRaise .stopDecision] }) ∧
      (¬ missed → exec (.stopZoneLeave p) s = .next { s with
        sru := { u with zone := none, decision := .none, stoppedInZone := false }
        handed := s.handed.erase (.stopZoneLeave p) })) ∧
    ((∀ z, u.zone = some z → z.platform ≠ p) →
      exec (.stopZoneLeave p) s = .next (s.take (.stopZoneLeave p)))

/-- R142: a sample point at the loop's receiver: a departure from idle is a start bit when it stands at its
mid-sample and noise when it does not; the bits of a character are read 16 points apart, and a character on the
line is taken as its eight data bits, without error exactly when its parity is even and its stop bit idle. A one
bit is the idle level and the mid-sample is point 8 of 16 (log 18).

R143, R144: a start bit found while a reply is awaited begins that reply and stops the timer. A character of
the reply ends it as bad where it came with an error, where the first is not the polled address, and where the
third does not check: at the first such character; the third that does none of these ends it as good; after
the first and the second the next must begin within a character time (log 18). Any other character is counted,
staying at 255.

R143: the end of a poll starts the reply timer, and raises the fault of a bad word of the reply timeout it reads (R20,
log 8); a poll that was overtaken only leaves the line, the first poll of a commit behind it or not (log 18). The rows
of the loop are successive sample points, whatever their name (log 18). -/
def Obligations.RepliesAreJudgedAndPollsEnd : Prop :=
  (∀ (away : Bool) (r : LineReceiver),
     (r.bits = none →
       (r.away = 0 → r.sample away = ({ r with away := if away then 1 else 0 }, .none)) ∧
       (0 < r.away → r.away < 8 → r.sample away = ({ r with away := r.away + 1 }, .none)) ∧
       (8 ≤ r.away → away = true → r.sample away = (⟨0, some [], 16⟩, .start)) ∧
       (8 ≤ r.away → away = false → r.sample away = ({ r with away := 0 }, .none))) ∧
     (∀ bits, r.bits = some bits →
       (1 < r.wait → r.sample away = ({ r with wait := r.wait - 1 }, .none)) ∧
       (r.wait ≤ 1 → bits.length < 9 →
         r.sample away = ({ r with bits := some (bits ++ [away]), wait := 16 }, .none)) ∧
       (r.wait ≤ 1 → bits.length = 9 → ∃ (octet : Byte) (intact : Bool),
         r.sample away = (⟨0, none, 0⟩, .char octet intact) ∧
         (∀ i < 8, octet.getLsbD (7 - i) = !bits.getD i false) ∧
         (intact = true ↔ (bits.countP (fun b => !b)) % 2 = 0 ∧ away = false)))) ∧
  (∀ b : Byte, (lineEvents ⟨0, none, 0⟩ ((lineChar b).flatMap fun l => List.replicate 16 l)).filter
     (fun e => e != .none) = [.start, .char b true]) ∧
  (∀ (away : Bool) (u : Sru),
     let x := { u with line := (u.line.sample away).1 }
     ((u.line.sample away).2 = .start → u.lineSample away =
       (if u.pollState = .awaiting then
          { x with pollState := .receiving, replyTimer := none, ours := true, got := [] }
        else { x with ours := decide (u.pollState = .receiving) }, none)) ∧
     (∀ octet intact, (u.line.sample away).2 = .char octet intact →
       (¬ (u.ours = true ∧ u.pollState = .receiving) → u.lineSample away =
         ({ x with unsolicited := min 255 (u.unsolicited + 1) }, none)) ∧
       (u.ours = true → u.pollState = .receiving →
         let got := u.got ++ [octet]
         let fails := intact = false ∨ (got.getD 0 0).toNat ≠ u.address
           ∨ (got.length = 3 ∧ got.getD 2 0 ≠ crc8 [got.getD 0 0, got.getD 1 0])
         (fails → u.lineSample away = (x, some .bad)) ∧
         (¬ fails → got.length = 3 → u.lineSample away =
           (x, some (.good ⟨(got.getD 1 0).getLsbD 0, (got.getD 1 0).getLsbD 1, (got.getD 1 0).getLsbD 2⟩))) ∧
         (¬ fails → got.length ≠ 3 → u.lineSample away =
           ({ x with got := got, ours := false, quiet := 0 }, none)))) ∧
     ((u.line.sample away).2 = .none →
       (u.pollState ≠ .receiving ∨ x.line.bits ≠ none → u.lineSample away = (x, none)) ∧
       (u.pollState = .receiving → x.line.bits = none →
         (u.quiet < 182 → u.lineSample away = ({ x with quiet := u.quiet + 1 }, none)) ∧
         (182 ≤ u.quiet → u.lineSample away = (x, some .bad))))) ∧
  (∀ (heard : List Bool) (s : State),
     exec (.goodReply heard) s = .next (heard.foldl State.loopSample (s.take (.goodReply heard))) ∧
     (heard ≠ [] →
       exec (.badReply heard) s = .next (heard.foldl State.loopSample (s.take (.badReply heard)))) ∧
     ∀ away, (s.sru.lineSample away).2 = none →
       s.loopSample away = { s with sru := (s.sru.lineSample away).1 }) ∧
  (∀ s : State,
     (s.sru.pollState = .sending → s.sru.driven.length ≤ 1 → exec .pollEnd s = .next { s with
       sru := { s.sru with
         pollState := .awaiting, replyTimer := some s.settings.replyTimeout, driven := [] }
       handed := s.handed.erase .pollEnd ++ parityFaults s .sru (settingWords [.replyTimeout]) none }) ∧
     (s.sru.pollState ≠ .sending ∨ 2 ≤ s.sru.driven.length → exec .pollEnd s = .next { s with
       sru := { s.sru with driven := s.sru.driven.tail }
       handed := s.handed.erase .pollEnd }) ∧
     exec .unsolicitedCharacter s = .next { s with
       sru := { s.sru with unsolicited := min 255 (s.sru.unsolicited + 1) }
       handed := s.handed.erase .unsolicitedCharacter })

/-- R143, R145, R146, R148: the sample point that ends a reply of the polled station as good: its entry, the last
health event, its press, and the next poll.

R143, R145, R146: the sample point that ends a reply as bad, and the reply timer's expiry, which is the row with
no sample point: a miss, its health, and the next poll; a stopped timer does not expire. The sample points and
the expiry are log 18; what goes to several units stands in the model's order (log 1). -/
def Obligations.GoodAndBadRepliesUpdateTheStation : Prop :=
  (∀ (i : Fin 24) (v : Bool) (w : Sru) (r : Reply) (s : State), s.bad = [] →
     s.sru.lineSample v = (w, some (.good r)) → w.address = i.val + 1 → s.settings.stationCount ≤ 24 →
     ∀ c ∈ [Instr.goodReply [v], .badReply [v]],
       let t := w.stations[i]
       let health := if r.fault ≠ t.fault
         then some (if r.fault then HealthEvent.faultSet else .faultCleared)
         else if t.health = .absent then some .recovered else none
       let u := { w with
         stations := w.stations.set i ⟨.present, 0, r.fault, true⟩
         lastHealth := match health with
           | some h => some (i.val + 1, h)
           | none => w.lastHealth }
       let q := if r.wheelchair then u.press s.dau.state s.settings (i.val + 1) .wheelchair
         else if r.stop then u.press s.dau.state s.settings (i.val + 1) .stop else (u, [])
       let next := nextAddress s.settings (i.val + 1)
       exec c s = .next { s with
         sru := q.1.polls next ((q.1.stations[next - 1]?.map (·.ackDue)).getD false)
         handed := s.handed.erase c ++ (if health.isSome then [.noticeRaise .stationHealth] else [])
           ++ (if w.list.isEmpty == q.1.list.isEmpty then [] else [.structuralChangeReport .stops])
           ++ q.2 }) ∧
  (∀ (i : Fin 24) (s : State), s.bad = [] → s.settings.stationCount ≤ 24 →
     let missed := fun (w : Sru) (c : Instr) =>
       let t := w.stations[i]
       let misses := min 3 (t.misses + 1)
       let gone := misses = 3 ∧ t.health ≠ .absent
       let u := { w with
         stations := w.stations.set i
           ⟨if misses = 3 then .absent else .suspect, misses, t.fault, false⟩
         lastHealth := if gone then some (i.val + 1, .absent) else w.lastHealth }
       let next := nextAddress s.settings (i.val + 1)
       (Host.Outcome.next { s with
         sru := u.polls next ((u.stations[next - 1]?.map (·.ackDue)).getD false)
         handed := s.handed.erase c ++ (if gone then [.noticeRaise .stationHealth] else []) }
           : Host.Outcome State Fault Refusal)
     (∀ v w, s.sru.lineSample v = (w, some .bad) → w.address = i.val + 1 →
       ∀ c ∈ [Instr.goodReply [v], .badReply [v]], exec c s = missed w c) ∧
     (s.sru.replyTimer ≠ none → s.sru.address = i.val + 1 →
       exec (.badReply []) s = missed s.sru (.badReply []))) ∧
  (∀ s : State, s.sru.replyTimer = none → exec (.badReply []) s = .next (s.take (.badReply [])))

/-- R166, R168: a request offered to the list replaces its source's request on the sounder, joins where there
is room, or evicts the youngest of the lowest below it; it finds no room exactly when none is below it. Only the
players of the new request's sounder and of an evicted request's may change, and the arbiter's law holds after.

R168: of the requests that wait for a sounder the arbiter takes the oldest of the highest priority, or under
ROTATE the oldest of those whose source was not the last to sound there, where there is one. A request that is
taken starts at step 1 in phase ON, with a strike on BELL (R161), and its source is the last to sound. One that joins
preempts only a request of lower priority, or finds the sounder idle. A player that goes idle keeps its step and phase
(log 20). -/
def Obligations.OfferedRequestsReplaceJoinOrEvict : Prop :=
  (∀ (cfg : Settings) (q : SoundRequest) (u : Sdu), SoundOk u → SoundPlays u →
    u.patterns[q.pattern].steps ≠ [] →
    (∀ r, u.offer cfg q = some r → SoundOk r.1 ∧ r.1.patterns = u.patterns) ∧
    (Holds u.requests q.source q.sounder → ∃ r, u.offer cfg q = some r ∧
      r.1.requests = without u.requests q.source q.sounder ++ [q] ∧ r.1.lastEvent = u.lastEvent
        ∧ r.2 = [] ∧ ∀ x : Sounder, x ≠ q.sounder → player r.1 x = player u x) ∧
    (¬ Holds u.requests q.source q.sounder →
      (u.requests.length < 12 → ∃ r, u.offer cfg q = some r ∧ r.1.requests = u.requests ++ [q] ∧
        r.1.lastEvent = u.lastEvent ∧ r.2 = [] ∧
        (∀ x : Sounder, x ≠ q.sounder → player r.1 x = player u x) ∧
        (∀ y, playingRequest u q.sounder = some y → q.priority ≤ y.priority →
          player r.1 q.sounder = player u q.sounder) ∧
        ((∀ y, playingRequest u q.sounder = some y → y.priority < q.priority) →
          r.1 = ((({ u with requests := u.requests ++ [q] } : Sdu).begin cfg q).settlePhase cfg
            q.sounder).1)) ∧
      (u.requests.length = 12 →
        (∀ v, Evicted u.requests q.priority v → ∃ r, u.offer cfg q = some r ∧
          r.1.requests = without u.requests v.source v.sounder ++ [q] ∧
          r.1.lastEvent = some ⟨.evicted, v.source, v.sounder⟩ ∧ r.2 = [.noticeRaise .soundDropped] ∧
          ∀ x : Sounder, x ≠ q.sounder → x ≠ v.sounder → player r.1 x = player u x) ∧
        ((∀ x ∈ u.requests, q.priority ≤ x.priority) → u.offer cfg q = none)))) ∧
  (∀ (last : Option SoundSource) (l : List SoundRequest) (q : SoundRequest),
    let top := fun (x : SoundRequest) => ∀ y ∈ l, y.priority ≤ x.priority
    let turn := fun (x : SoundRequest) => (∀ y ∈ l, y.priority ≤ x.priority) ∧ last ≠ some x.source
    (chooseNext .oldestFirst last l = some q ↔ FirstWith l top q) ∧
    (chooseNext .rotate last l = some q ↔
      FirstWith l turn q ∨ ((∀ x ∈ l, ¬ turn x) ∧ FirstWith l top q))) ∧
  (∀ (cfg : Settings) (u : Sdu),
    (∀ q : SoundRequest,
      let on := (u.patterns[q.pattern].steps[0]?.map (·.on)).getD 0
      let x := u.begin cfg q
      x = { u with players := x.players } ∧ (∀ y, y ≠ q.sounder → player x y = player u y) ∧
      player x q.sounder = ⟨some q.source, 1, .on, if on = 0 then none else some on, some q.source,
        if q.sounder = .bell ∧ on ≠ 0 then some (min cfg.strikeWidth on) else none⟩ ∧
      (on ≠ 0 → x.settlePhase cfg q.sounder = (x, []))) ∧
    ∀ snd : Sounder,
      let wait := u.requests.filter fun q => q.sounder == snd
      let p := player u snd
      (∀ q, chooseNext cfg.tieModes[sounderIndex snd] p.lastSource wait = some q →
        u.next cfg snd = u.begin cfg q) ∧
      (wait = [] → u.next cfg snd =
        setPlayer u snd { p with playing := none, timer := none, strike := none }))

/-- R164: SOUND_START makes its checks in their order; a request that finds room joins with its priority
capped at 5. -/
def Obligations.SoundStartChecksInOrderAndOffers : Prop :=
  ∀ (p : Port) (cond : Bool) (a : StartArgs) (args : List Byte) (s : State), s.bad = [] →
    a.ok = true → Carries args (putStartArgs a) → CommandReaches s p cond .soundStart args →
    (¬ MayPlay s.dau.state p a.sounder →
      exec (.soundStart p cond args) s = .next (s.servedRefused p cond .notAuthorised)) ∧
    (MayPlay s.dau.state p a.sounder →
      (s.sdu.patterns[a.pattern].steps = [] →
        exec (.soundStart p cond args) s = .next (s.servedRefused p cond .badPattern)) ∧
      (s.sdu.patterns[a.pattern].steps ≠ [] →
        (s.sdu.offer s.settings (portCall p a) = none →
          exec (.soundStart p cond args) s = .next (s.servedRefused p cond .listFull)) ∧
        (∀ r, s.sdu.offer s.settings (portCall p a) = some r →
          exec (.soundStart p cond args) s = .next
            { s.servedDone p cond true .sound with sdu := r.1, handed := s.handed ++ r.2 })))

/-- R165, R167, R168: SOUND_STOP and a hardware removal take the source's request off its sounder, the sounder
being handed on by the arbiter's law where it played that request and left as it is where it did not; where the
source holds none there, nothing changes. In CONFIGURING a hardware removal is disregarded (R169). -/
def Obligations.RemovalsTakeTheSourcesRequestOffItsSounder : Prop :=
  ∀ s : State, s.bad = [] → SoundOk s.sdu → SoundPlays s.sdu →
    let goesOn := fun (src : SoundSource) (snd : Sounder) (u : Sdu) =>
      ((player s.sdu snd).playing = some src → u = ((({ s.sdu with
          requests := without s.sdu.requests src snd } : Sdu).next s.settings snd).settlePhase
            s.settings snd).1) ∧
      ((player s.sdu snd).playing ≠ some src → u.players = s.sdu.players)
    (∀ (p : Port) (cond : Bool) (snd : Sounder) (args : List Byte),
      Carries args (putEnum allSounders snd) → CommandReaches s p cond .soundStop args →
      (¬ Holds s.sdu.requests (portSource p) snd →
        exec (.soundStop p cond args) s = .next (s.servedDone p cond false .sound)) ∧
      (Holds s.sdu.requests (portSource p) snd → ∃ u, exec (.soundStop p cond args) s = .next
          { s.servedDone p cond true .sound with sdu := u } ∧
        u = { s.sdu with requests := without s.sdu.requests (portSource p) snd, players := u.players } ∧
        (∀ x, x ≠ snd → player u x = player s.sdu x) ∧ SoundOk u ∧ goesOn (portSource p) snd u)) ∧
    (∀ (src : SoundSource) (snd : Sounder),
      (s.rst.mode = .configuring ∨ ¬ Holds s.sdu.requests src snd →
        exec (.hardwareSoundRemove src snd) s = .next (s.take (.hardwareSoundRemove src snd))) ∧
      (s.rst.mode = .service → Holds s.sdu.requests src snd →
        ∃ u, exec (.hardwareSoundRemove src snd) s = .next { s with
            sdu := u
            handed := s.handed.erase (.hardwareSoundRemove src snd) ++ [.structuralChangeReport .sound] } ∧
          u = { s.sdu with requests := without s.sdu.requests src snd, players := u.players } ∧
          (∀ x, x ≠ snd → player u x = player s.sdu x) ∧ SoundOk u ∧ goesOn src snd u))

/-- R163, R167, R169: a hardware add offers its request, an empty pattern, which hands on no structural change (log
19), or a full list keeping it out with a notice; the direct permits add and remove the MATRIX requests; a change of
the lockdown state adds or removes the two LOCKDOWN requests, BUZZER_A first. In CONFIGURING adds are disregarded and
the permits and the state are recorded alone. What goes to several units stands in the model's order (log 1). -/
def Obligations.HardwareSourcesAddTheirRequests : Prop :=
  ∀ s : State, s.bad = [] →
    let out := fun (c : Instr) (r : Sdu × List Instr) => (Host.Outcome.next { s with
      sdu := r.1, handed := s.handed.erase c ++ r.2 } : Host.Outcome State Fault Refusal)
    let cfg := s.settings
    (∀ (src : SoundSource) (snd : Sounder) (pattern : Fin 16),
      let c := Instr.hardwareSoundAdd src snd pattern
      (s.rst.mode = .configuring → exec c s = .next (s.take c)) ∧
      (s.rst.mode = .service → exec c s = out c (s.sdu.hardwareAdd cfg src snd pattern))) ∧
    (∀ (u : Sdu) (src : SoundSource) (snd : Sounder) (pattern : Fin 16),
      (u.patterns[pattern].steps = [] → u.hardwareAdd cfg src snd pattern =
        ({ u with lastEvent := some ⟨.emptyPattern, src, snd⟩ }, [.noticeRaise .soundDropped])) ∧
      (u.patterns[pattern].steps ≠ [] →
        (∀ r, u.offer cfg (hardwareCall u src snd pattern) = some r →
          u.hardwareAdd cfg src snd pattern = (r.1, .structuralChangeReport .sound :: r.2)) ∧
        (u.offer cfg (hardwareCall u src snd pattern) = none →
          u.hardwareAdd cfg src snd pattern =
            ({ u with lastEvent := some ⟨.dropped, src, snd⟩ },
              [.structuralChangeReport .sound, .noticeRaise .soundDropped])))) ∧
    (∀ value : Bool,
      let horn := { s.sdu with hornDirect := value }
      let bell := { s.sdu with bellDirect := value }
      let onHorn := Instr.directSoundPermitEvent .horn value
      let onBell := Instr.directSoundPermitEvent .bell value
      (s.rst.mode = .configuring →
        exec onHorn s = out onHorn (horn, []) ∧ exec onBell s = out onBell (bell, [])) ∧
      (s.rst.mode = .service →
        exec onHorn s = out onHorn (if value then horn.hardwareAdd cfg .matrix .horn cfg.uses.hornDirect
          else horn.hardwareRemove cfg .matrix .horn) ∧
        exec onBell s = out onBell (if value then bell.hardwareAdd cfg .matrix .bell cfg.uses.bellDirect
          else bell.hardwareRemove cfg .matrix .bell))) ∧
    (∀ view : LockState,
      let c := Instr.lockdownViewChange .sdu view
      let u := { s.sdu with lockView := view }
      (s.rst.mode = .configuring → exec c s = out c (u, [])) ∧
      (s.rst.mode = .service → view = .held →
        let a := u.hardwareAdd cfg .lockdown .buzzerA cfg.uses.lockdown
        let b := a.1.hardwareAdd cfg .lockdown .buzzerB cfg.uses.lockdown
        exec c s = out c (b.1, a.2 ++ b.2)) ∧
      (s.rst.mode = .service → view = .clear →
        let a := u.hardwareRemove cfg .lockdown .buzzerA
        let b := a.1.hardwareRemove cfg .lockdown .buzzerB
        exec c s = out c (b.1, a.2 ++ b.2)))

/-- R160, R161: the phase after each phase, its timer and its strike where its time is above 0, the fall of
the repeats, the end of a request; after an expiry every sounder that plays has its timer running, for a
phase of no time passes at once. The end of a strike silences BELL. A stopped timer does not expire. -/
def Obligations.PhaseExpiryGoesOnAsItsTableSays : Prop :=
  ∀ (snd : Sounder) (s : State), s.bad = [] → SoundOk s.sdu → SoundPlays s.sdu → PlayersTimed s.sdu →
    let c := Instr.phaseTimerExpiry snd
    let p := player s.sdu snd
    (p.timer = none → exec c s = .next (s.take c)) ∧
    (∀ q, p.timer ≠ none → playingRequest s.sdu snd = some q →
      let steps := s.sdu.patterns[q.pattern].steps
      let time := fun (k : Nat) (ph : Phase) => match ph with
        | .on => (steps[k - 1]?.getD ⟨0, 0⟩).on
        | .off => (steps[k - 1]?.getD ⟨0, 0⟩).off
      let enters := fun (u : Sdu) (k : Nat) (ph : Phase) => (Host.Outcome.next { s with
        sdu := setPlayer u snd { p with
          step := k
          phase := ph
          timer := some (time k ph)
          strike := if snd = .bell ∧ ph = .on then some (min s.settings.strikeWidth (time k ph)) else none }
        handed := s.handed.erase c } : Host.Outcome State Fault Refusal)
      (∃ u out, exec c s = .next { s with sdu := u, handed := s.handed.erase c ++ out } ∧
        PlayersTimed u ∧ SoundOk u ∧ u.patterns = s.sdu.patterns ∧ u.lastEvent = s.sdu.lastEvent ∧
        ∀ x, x ≠ snd → player u x = player s.sdu x) ∧
      (p.phase = .on → 0 < time p.step .off → exec c s = enters s.sdu p.step .off) ∧
      (p.phase = .off → p.step < steps.length → 0 < time (p.step + 1) .on →
        exec c s = enters s.sdu (p.step + 1) .on) ∧
      (p.phase = .off → steps.length ≤ p.step →
        (q.repeats = none → 0 < time 1 .on → exec c s = enters s.sdu 1 .on) ∧
        (∀ n, q.repeats = some n → 1 < n → 0 < time 1 .on →
          exec c s = enters { s.sdu with requests := s.sdu.requests.map fun x =>
            if x.source = q.source ∧ x.sounder = q.sounder then { x with repeats := some (n - 1) }
            else x } 1 .on) ∧
        (∀ n, q.repeats = some n → n ≤ 1 → ∃ u, exec c s = .next { s with
            sdu := u, handed := s.handed.erase c ++ [.structuralChangeReport .sound] } ∧
          u.requests = without s.sdu.requests q.source q.sounder))) ∧
    exec .strikeEnd s = .next { s with
      sdu := setPlayer s.sdu .bell { player s.sdu .bell with strike := none }
      handed := s.handed.erase .strikeEnd }

/-- R162, R168: every step keeps the law of the sound list: at most 12 requests, one for a source and a
sounder, no sounder idle with a request for it, and none playing below a request that waits.

R159, R160, R169: every step keeps, with that law, that every pattern that has steps plays in some time, that every
request names one, that every sounder that plays has its phase timer running, and that in CONFIGURING the sound
list is empty. -/
def Obligations.EverySounderPlaysAHighestRequestAtEveryStep : Prop :=
  (∀ s t : State, SoundOk s.sdu → step s = .next t → SoundOk t.sdu) ∧
  (∀ s t : State, SoundRuns s → step s = .next t → SoundRuns t)

/-- R173 to R176, R13, R20: a severe fault with the record armed is captured whole, and one with it clear is
counted and enters lockdown whatever its kind; lockdown already HELD changes nothing more. Every slot naming FAULT is
emptied with it. The effort is the last one sent, or the one that came with the fault (R174, log 12); the four view
changes stand in the model's order (log 1).

R19, R184: the words a capture, a count or a notice raised with it writes have good parity from then on. -/
def Obligations.SevereFaultsAreCapturedOrCounted : Prop :=
  (∀ (kind : FaultKind) (source : UnitName) (context : FaultContext) (recoverable : Bool)
    (effort : Option Int) (s : State), s.bad = [] →
    let c := Instr.severeFault kind source context recoverable effort
    let f := s.fnu
    let out := fun (x : Fnu) (l : List Instr) => (Host.Outcome.next { s with
      rst := { s.rst with slots := emptySlots .fault s.rst.slots }
      fnu := x, handed := s.handed.erase c ++ l } : Host.Outcome State Fault Refusal)
    let captured := { f.raise .faultCaptured with
      armed := false
      capture := ⟨some kind, none, source, context, f.motion, s.dau.state, effort.getD s.tdu.lastEffort,
        recoverable, false, 1⟩ }
    let counted := { f with capture := { f.capture with
      second := if f.capture.second = none then some kind else f.capture.second
      count := min 255 (f.capture.count + 1) } }
    (f.armed = true → LocksAtOnce kind → f.lock = .clear →
      exec c s = out ({ captured with lock := .held }.raise .lockdownChange) (lockNewsTo .held)) ∧
    (f.armed = true → ¬ LocksAtOnce kind ∨ f.lock = .held → exec c s = out captured []) ∧
    (f.armed = false → f.lock = .clear →
      exec c s = out ({ counted with lock := .held }.raise .lockdownChange) (lockNewsTo .held)) ∧
    (f.armed = false → f.lock = .held → exec c s = out counted [])) ∧
  (∀ (kind : FaultKind) (source : UnitName) (context : FaultContext) (recoverable : Bool)
    (effort : Option Int) (s t : State),
    exec (.severeFault kind source context recoverable effort) s = .next t →
    t.bad.Sublist s.bad ∧
    (s.fnu.armed = true → ∀ n < 10, .field .fault n ∉ t.bad) ∧
    (s.fnu.armed = false → .field .fault 9 ∉ t.bad) ∧
    (s.fnu.armed = true ∨ s.fnu.lock = .clear → ∀ p, .notice p 0 ∉ t.bad ∧ .notice p 2 ∉ t.bad))

/-- R177, R178, R184: FAULT_ACK reads the acknowledged field alone, acknowledges and arms an unacknowledged record,
stores both words with good parity (R19) and leaves the rest of it; a LOCKDOWN_RELEASE reads the armed flag and the
lockdown state, and where it raises its notice the notice sets (log 8), and one that meets its four conditions makes
the lockdown state CLEAR and hands the change on, in the model's order (log 1). Each is otherwise refused with
WRONG_STATE and changes nothing. -/
def Obligations.FaultAckArmsAndLockdownReleaseClears : Prop :=
  ∀ (p : Port) (cond : Bool) (args : List Byte) (s : State), NoArguments args →
    let f := s.fnu
    let free := f.lock = .held ∧ f.motion = .standstill ∧ f.armed = true ∧ f.emergencyStop = false
    (CommandReaches s p cond .faultAck args → .field .fault 8 ∉ s.bad →
      (f.capture.acknowledged = false → exec (.faultAck p cond args) s = .next
        { s.servedDone p cond true .fault with
          fnu := { f with armed := true, capture := { f.capture with acknowledged := true } }
          bad := s.bad.filter fun w => w != .field .fault 8 && w != .field .fault 10 }) ∧
      (f.capture.acknowledged = true →
        exec (.faultAck p cond args) s = .next (s.servedRefused p cond .wrongState))) ∧
    (CommandReaches s p cond .lockdownRelease args → meetsBad s (lockReleaseReads s.fnu) = false →
      (free → exec (.lockdownRelease p cond args) s = .next
        { s.servedDone p cond true .fault with
          fnu := { f with lock := .clear }.raise .lockdownChange
          handed := s.handed ++ lockNewsTo .clear }) ∧
      (¬ free → exec (.lockdownRelease p cond args) s = .next (s.servedRefused p cond .wrongState)))

/-- R180: a raise sets the cause pending for all three ports and takes it out of their seen sets, and leaves
every other cause and the enabled sets; nothing else changes.

R51, R85, R94, R172: the other events at the fault and notice unit: an EMERGENCY_STOP permit event keeps
the value, and each delivery of true raises the severe fault; a motion report is kept; a NOTIFY action raises
LOCATION_EVENT and shows as the last location event, which one handed on by the location unit has become as it
fired (R90). -/
def Obligations.NoticesStopValueAndMotionAreKept : Prop :=
  (∀ (c : Cause) (s : State), s.bad = [] →
     exec (.noticeRaise c) s = .next { s with
       fnu := s.fnu.raise c, handed := s.handed.erase (.noticeRaise c) } ∧
     (∀ p x, let old := s.fnu.notices.get p
       let new := (s.fnu.raise c).notices.get p
       (inSet new.pending x = true ↔ x = c ∨ inSet old.pending x = true) ∧
       (inSet new.seen x = true ↔ x ≠ c ∧ inSet old.seen x = true) ∧ new.enabled = old.enabled) ∧
     s.fnu.raise c = { s.fnu with notices := (s.fnu.raise c).notices }) ∧
  (∀ s : State, s.bad = [] →
     exec (.emergencyStopEvent true) s = .next { s with
       fnu := { s.fnu with emergencyStop := true }
       handed := s.handed.erase (.emergencyStopEvent true)
         ++ [.severeFault .emergencyStop .lmu .none true none] } ∧
     exec (.emergencyStopEvent false) s = .next { s with
       fnu := { s.fnu with emergencyStop := false }
       handed := s.handed.erase (.emergencyStopEvent false) } ∧
     exec (.movingReport .fnu) s = .next { s with
       fnu := { s.fnu with motion := .moving }, handed := s.handed.erase (.movingReport .fnu) } ∧
     exec (.standstillReport .fnu) s = .next { s with
       fnu := { s.fnu with motion := .standstill }, handed := s.handed.erase (.standstillReport .fnu) } ∧
     ∀ entry beacon : Nat, exec (.notifyAction entry beacon) s = .next { s with
       lcu := { s.lcu with
         lastEvent := if .notifyAction entry beacon ∈ s.handed then s.lcu.lastEvent
           else some ⟨.notify, entry, beacon, .notify⟩ }
       fnu := s.fnu.raise .locationEvent
       handed := s.handed.erase (.notifyAction entry beacon) })

/-- R182: NOTICE_CLEAR takes out of the port's pending and seen sets the causes carried that it has seen;
NOTICE_ENABLE replaces its enabled set. Neither acts on another port's sets.

R184: NOTICE_ENABLE reads the port's pending set alone, and stores the enabled set with good parity (R19, log 8). -/
def Obligations.NoticeClearAndEnableActOnThePortsOwnSets : Prop :=
  ∀ (p : Port) (cond : Bool) (causes : BitVec 16) (args : List Byte) (s : State),
    Carries args (putNat16 causes.toNat) →
    let n := s.fnu.notices.get p
    let done := fun (x : NoticeSets) => (Host.Outcome.next { s.servedDone p cond true .notices with
      fnu := { s.fnu with notices := s.fnu.notices.set p x } } : Host.Outcome State Fault Refusal)
    (s.bad = [] → CommandReaches s p cond .noticeClear args → ∃ x : NoticeSets,
      exec (.noticeClear p cond args) s = done x ∧ x.enabled = n.enabled ∧
      ∀ c, (inSet x.pending c = true ↔
          inSet n.pending c = true ∧ ¬ (inSet causes c = true ∧ inSet n.seen c = true)) ∧
        (inSet x.seen c = true ↔ inSet n.seen c = true ∧ inSet causes c = false)) ∧
    (.notice p 0 ∉ s.bad → CommandReaches s p cond .noticeEnable args →
      exec (.noticeEnable p cond args) s = .next { s.servedDone p cond true .notices with
        fnu := { s.fnu with notices := s.fnu.notices.set p { n with enabled := causes } }
        bad := s.bad.filter fun w => w != .notice p 1 })

/-- R183: a port's notice line is asserted exactly when it has a pending cause that is enabled for it; so a
raise of a cause that is pending everywhere and enabled nowhere changes no line, and after power-on every
enabled set is empty and no line is asserted. -/
def Obligations.NoticeLineFollowsAPendingEnabledCause : Prop :=
  (∀ n : NoticeSets, noticeLine n = true ↔
    ∃ c : Cause, inSet n.pending c = true ∧ inSet n.enabled c = true) ∧
  (∀ (c : Cause) (s t : State), exec (.noticeRaise c) s = .next t →
    (∀ p, inSet (s.fnu.notices.get p).pending c = true ∧ inSet (s.fnu.notices.get p).enabled c = false) →
    ∀ p, noticeLine (t.fnu.notices.get p) = noticeLine (s.fnu.notices.get p)) ∧
  (∀ p, (State.reset.fnu.notices.get p).enabled = 0 ∧ noticeLine (State.reset.fnu.notices.get p) = false)

/-- R189, R52, R143, R133, R169: CONFIG_COMMIT makes its three checks in their order; when all pass, the mode
becomes SERVICE, the tables are copied and the matrix settles from its restarted cells, polling starts at
station 1, a selection is attempted, and the standing sound requests are offered, on the direct permits recorded before
the commit's own settle (log 41). One that joins reports a structural
change of SOUND (log 33). A bad word of MODE, which is met before the mode is checked (log 16), or of the written
tables refuses the command with STORE_ERROR, each bad word raising its fault (R20, log 8). The first poll
follows an overtaken one still on the line (log 18), and what goes to several units stands in the model's order
(log 1). -/
def Obligations.ConfigCommitChecksInOrderAndStartsService : Prop :=
  ∀ (p : Port) (cond : Bool) (args : List Byte) (s : State), NoArguments args →
    CommandReaches s p cond .configCommit args →
    let w := s.lmu.written
    let valid := ∀ x ∈ [Permit.keyA, .keyB, .tractionPermit, .atStop],
      Commits w w.permits[permitIndex x].source
    (meetsBad s modeWord = true →
      exec (.configCommit p cond args) s = .next { s.servedRefused p cond .storeError with
        handed := s.handed ++ parityFaults s .rst modeWord none }) ∧
    (s.rst.mode = .service → meetsBad s modeWord = false →
      exec (.configCommit p cond args) s = .next (s.servedRefused p cond .wrongState)) ∧
    (s.rst.mode = .configuring → meetsBad s modeWord = false → ¬ valid →
      exec (.configCommit p cond args) s = .next (s.servedRefused p cond .configIncomplete)) ∧
    (s.rst.mode = .configuring → meetsBad s modeWord = false → valid → meetsBad s writtenTables = true →
      exec (.configCommit p cond args) s = .next { s.servedRefused p cond .storeError with
        handed := s.handed ++ parityFaults s .rst writtenTables none }) ∧
    (s.rst.mode = .configuring → valid → s.bad = [] →
      let keeps := fun (n : Fin 32) => s.lmu.active.lines[n].group = .plainInput
        ∧ w.lines[n].group = .plainInput ∧ s.lmu.active.lines[n].debounce = w.lines[n].debounce
      let cfg := s.settings
      ∃ l : Lmu,
        l = { s.lmu with
          active := w, taken := l.taken, debounce := l.debounce
          output := Vector.replicate 16 false, delay := Vector.replicate 16 none
          conditions := s.lmu.conditions.set (conditionIndex .serviceMode) true } ∧
        (∀ n : Fin 32, (keeps n → l.taken[n] = s.lmu.taken[n] ∧ l.debounce[n] = s.lmu.debounce[n]) ∧
          (¬ keeps n → l.debounce[n] = none
            ∧ (w.lines[n].group = .plainInput → l.taken[n] = s.lmu.raw[n]))) ∧
        let sent := ({ s with tlu := { s.tlu with modeView := .service } } : State).attemptSelection
        let a := if s.sdu.hornDirect then s.sdu.hardwareAdd cfg .matrix .horn cfg.uses.hornDirect
          else (s.sdu, [])
        let b := if s.sdu.bellDirect then a.1.hardwareAdd cfg .matrix .bell cfg.uses.bellDirect
          else (a.1, [])
        let c := if s.sdu.lockView = .held then b.1.hardwareAdd cfg .lockdown .buzzerA cfg.uses.lockdown
          else (b.1, [])
        let d := if s.sdu.lockView = .held then c.1.hardwareAdd cfg .lockdown .buzzerB cfg.uses.lockdown
          else (c.1, [])
        exec (.configCommit p cond args) s = .next { s.servedDone p cond true .mode with
          rst := { (s.servedDone p cond true .mode).rst with mode := .service }
          lmu := l.settle.1
          sru := if cfg.stationCount = 0 then s.sru
            else s.sru.polls 1 (s.sru.stations[(0 : Fin 24)]).ackDue
          tlu := sent.tlu
          rtu := sent.rtu
          sdu := d.1
          handed := s.handed ++ l.settle.2 ++ a.2 ++ b.2 ++ c.2 ++ d.2 })

/-- R190, R122, R95, R88, R151, R143, R169: RECONFIGURE is taken in SERVICE, in NO_DESK, at standstill, and then
empties the slots, the plan, the lists and the sound list, idles the players, which keep step and phase (log 20), and
stops polling; the station table is kept (R141), with the acknowledge due of a station whose poll is overtaken
(log 39); the mode becomes CONFIGURING. The guard's end, the stop latch's and the mode's reach the traction and
the matrix unit within it, in the order of R190 (log 21), after the events on their way to the units it acts on; it
hands on only notices and what the matrix delivers, to several units in the model's order (log 1). The motion is the location unit's (log 11). In any other case it
is refused with WRONG_STATE and changes nothing. -/
def Obligations.ReconfigureEmptiesTheUnitsAndLeavesService : Prop :=
  ∀ (p : Port) (cond : Bool) (args : List Byte) (s : State), s.bad = [] → NoArguments args →
    CommandReaches s p cond .reconfigure args →
    let free := s.rst.mode = .service ∧ s.dau.state = .noDesk ∧ s.lcu.motion = .standstill
    (¬ free → exec (.reconfigure p cond args) s = .next (s.servedRefused p cond .wrongState)) ∧
    (free →
      let x := s.takeAll (s.handed.filter beforeReconfigure)
      let falls := fun (l : Lmu) (c : Condition) => if conditionValue l c then
          Lmu.settle { l with conditions := l.conditions.set (conditionIndex c) false }
        else (l, [])
      let guarded := contributing x.rtu.plan
      let m1 := if guarded then falls x.lmu .guardActive else (x.lmu, [])
      let m2 := if s.sru.list = [] then (m1.1, []) else falls m1.1 .stopLatched
      let m3 := falls m2.1 .serviceMode
      let u := ({ x.rtu with windowOpen := false } : Rtu).withPlan [] []
      exec (.reconfigure p cond args) s = .next { s.servedDone p cond true .mode with
        rst := { (s.servedDone p cond true .mode).rst with
          slots := ⟨none, none, none⟩, mode := .configuring }
        lmu := m3.1
        tdu := if guarded then
            { s.tdu with ceilings := s.tdu.ceilings.set 3 ⟨false, s.tdu.ceilings[3].value⟩ } else s.tdu
        rtu := match x.rtu.cancels with
          | c :: _ => { u with exception := some (.telegramDiscarded, c.junction) }
          | [] => u
        lcu := { s.lcu with actions := [], window := 0 }
        sru := { s.sru with
          list := [], zone := none, decision := .none, stoppedInZone := false
          pollState := .stopped, replyTimer := none, ours := false, quiet := 0, got := [] }
        sdu := { s.sdu with
          requests := []
          players := s.sdu.players.map fun x => { x with playing := none, timer := none, strike := none } }
        tlu := { x.tlu with windowOpen := false, modeView := .configuring, lastRequest := none }
        handed := x.handed
          ++ (if x.rtu.plan = [] then [] else [.noticeRaise .routeChange])
          ++ (if x.rtu.cancels = [] then [] else [.noticeRaise .telegramDiscarded])
          ++ m1.2 ++ m2.2 ++ m3.2 })

/-- R32, R121, R151, R169, R95, R8, R13: the other units' shares of the teardown, with what each hands on and
the slots it empties, at once where a desk command brought it and by its report otherwise (log 29). What goes to
several units stands in the model's order (log 1), and the cancel list is kept (log 32).

R23, R32: before the engine serves a request, the desk authority unit and each unit with a share of the teardown
take, in the order in which they were handed on, their events up to the last desk state change or share outstanding, as
long as there is one, and then the leading end and POINT_GUARD entry that come of them (log 4); nothing of a desk state
change or a teardown is outstanding then. -/
def Obligations.TeardownIsDoneByEveryUnitBeforeARequest : Prop :=
  (∀ (former : Desk) (byCommand : Bool) (s : State), s.bad = [] →
     let c := fun (u : TeardownTaker) => Instr.noDeskTeardown u former byCommand
     let slots := fun (changed : Bool) (r : Record) =>
       if changed && byCommand then emptySlots r s.rst.slots else s.rst.slots
     let report := fun (changed : Bool) (r : Record) =>
       if changed && !byCommand then [Instr.structuralChangeReport r] else []
     exec (c .lcu) s = .next { s with
       lcu := { s.lcu with actions := [] }, handed := s.handed.erase (c .lcu) } ∧
     (let latched : Bool := decide (s.sru.list ≠ [])
      exec (c .sru) s = .next { s with
       rst := { s.rst with slots := slots latched .stops }
       sru := { s.sru with list := [], zone := none, decision := .none, stoppedInZone := false }
       handed := s.handed.erase (c .sru)
         ++ (if latched then [.conditionChange .stopLatched false] else []) ++ report latched .stops }) ∧
     (let owed := if s.rtu.windowOpen = false then [] else
         (s.rtu.plan.filter fun e => decide (1 ≤ e.transmissions)).map fun e =>
           (⟨e.junction, e.code⟩ : Cancel)
      let room := 4 - s.rtu.cancels.length
      let u := s.rtu.withPlan [] (s.rtu.cancels ++ owed.take room)
      let planned : Bool := decide (s.rtu.plan ≠ [])
      exec (c .rtu) s = .next { s with
       rst := { s.rst with slots := slots planned .plan }
       rtu := match (owed.drop room).getLast? with
         | some x => { u with exception := some (.telegramDiscarded, x.junction) }
         | none => u
       handed := s.handed.erase (c .rtu)
         ++ (owed.take room).map (fun _ => .owedReport)
         ++ (owed.drop room).map (fun _ => .noticeRaise .telegramDiscarded)
         ++ guardNews s.settings.creep s.rtu.plan []
         ++ (if planned then [.noticeRaise .routeChange] else []) ++ report planned .plan }) ∧
     (SoundOk s.sdu → SoundPlays s.sdu →
       let removed := s.sdu.requests.any (torn former)
       ∃ u : Sdu,
         u = { s.sdu with requests := s.sdu.requests.filter fun q => !torn former q, players := u.players } ∧
         SoundOk u ∧
         (∀ snd, (∀ q, playingRequest s.sdu snd = some q → torn former q = false) →
           player u snd = player s.sdu snd) ∧
         exec (c .sdu) s = .next { s with
           rst := { s.rst with slots := slots removed .sound }
           sdu := u
           handed := s.handed.erase (c .sdu) ++ report removed .sound })) ∧
  (∀ s : State,
     teardownDone s.completeTeardown ∧
     (∀ p r, s.serve p r = s.completeTeardown.serve p r) ∧
     (teardownDone s → s.completeTeardown = s) ∧
     (∀ c before after, s.handed = before ++ c :: after →
       (∀ e ∈ before, shareRow e = false) → shareRow c = true → (∃ e ∈ c :: after, deskEvent e = true) →
       ∃ t, exec c s = .next t ∧ s.completeTeardown = t.completeTeardown) ∧
     (∀ c before after, s.handed = before ++ c :: after → (∀ e ∈ s.handed, deskEvent e = false) →
       (∀ e ∈ before, shareConsequence e = false) → shareConsequence c = true →
       ∃ t, exec c s = .next t ∧ s.completeTeardown = t.completeTeardown))

/-- R20, R55, R81, R97, R106, R157, R171, R184: a unit that meets bad words in its own work completes it as if they
were good and raises STORE_PARITY for each, and for no other; which words each event reads is laid down row by row in
`ownWork` (log 8), the rows of the two receivers one sample point at a time. The record store raises the same for the
words it reads in its own work at a service.

R20: a command that meets a bad word among those it reads (log 8) is refused with STORE_ERROR, changes nothing, and its
owner raises the faults; the checks of its arguments, and for SOUND_START of the port's authority, stand before it
(log 16). -/
def Obligations.BadWordsRaiseStoreParityAndRefuseCommands : Prop :=
  (∀ (c : Instr) (s t u : State), servedRow c = false →
    exec c s = .next t → exec c { s with bad := [] } = .next u →
    t = { u with bad := t.bad, handed := t.handed } ∧ t.bad.Sublist s.bad ∧
    u.handed.Sublist t.handed ∧
    (∀ x ∈ t.handed, x ∈ u.handed ∨ ∃ w ∈ s.bad, ∃ unit effort,
      x = .severeFault .storeParity unit (.record (wordRecord w)) false effort) ∧
    (onePoint c = true → t.handed.Perm (u.handed ++ ownFaults s t c))) ∧
  (∀ (p : Port) (r : Request) (s : State), teardownDone s →
    ∃ rest, (s.serve p r).handed = s.handed ++ parityFaults s .rst (storeReads s p r) none ++ rest) ∧
  (∀ (p : Port) (cond : Bool) (args : List Byte) (s : State),
    let refused := fun (unit : UnitName) (reads : StoreWord → Bool) => (Host.Outcome.next
      { s.servedRefused p cond .storeError with handed := s.handed ++ parityFaults s unit reads none }
        : Host.Outcome State Fault Refusal)
    (∀ x ∈ wordReaders s p, CommandReaches s p cond x.1 args → ArgumentsFit args x.1 →
      meetsBad s x.2.2 = true → exec (commandRow p cond args x.1) s = refused x.2.1 x.2.2) ∧
    (∀ j code : Nat, junctionOk j = true → code ≤ 7 → Carries args (putNat16 j ++ putNat8 code) →
      CommandReaches s p cond .routeSetCode args → meetsBad s (routeReads (setCodeSettings s.rtu j)) = true →
      exec (.routeSetCode p cond args) s = refused .rtu (routeReads (setCodeSettings s.rtu j))) ∧
    (∀ k : StopKind, Carries args (putEnum stopKindList k) → CommandReaches s p cond .stopSet args →
      meetsBad s (stopSetReads s k) = true →
      exec (.stopSet p cond args) s = refused .sru (stopSetReads s k)) ∧
    (∀ a : StartArgs, a.ok = true → Carries args (putStartArgs a) → CommandReaches s p cond .soundStart args →
      MayPlay s.dau.state p a.sounder → meetsBad s (offerReads s.settings s.sdu (portCall p a)) = true →
      exec (.soundStart p cond args) s = refused .sdu (offerReads s.settings s.sdu (portCall p a))) ∧
    (∀ snd : Sounder, Carries args (putEnum allSounders snd) → CommandReaches s p cond .soundStop args →
      meetsBad s (removeReads s.settings s.sdu (portSource p) snd) = true →
      exec (.soundStop p cond args) s = refused .sdu (removeReads s.settings s.sdu (portSource p) snd)))

/-- R9, R17, R92, R98, R101, R117, R162, R172: every step keeps the capacities of the lists, one entry for a
junction, one request for a source and a sounder, slots that name reservable records alone, the pass-over
count at 4 at most, and the armed flag as the acknowledged field.

R40, R46, R117, R147: with these, every step keeps the written and the active cells without a cycle and each line
table with at most one TACH_INPUT line, one CANCEL for a junction and none for a junction of the plan, no station
twice in the stop list, and the decision NONE while the zone is closed. -/
def Obligations.ListsSlotsAndFlagsKeepTheirBoundsAtEveryStep : Prop :=
  (∀ s t : State, Kept s → step s = .next t → Kept t) ∧
  (∀ s t : State, Kept s → Coherent s → step s = .next t → Coherent t)

/-- What the invariants say holds after power-on. -/
def Obligations.InvariantsHoldAfterPowerOn : Prop :=
  Kept State.reset ∧ Coherent State.reset ∧ TractionOk State.reset ∧ GuardValuesOk State.reset ∧
    SoundOk State.reset.sdu ∧ SoundPlays State.reset.sdu ∧ PlayersTimed State.reset.sdu ∧
    SoundRuns State.reset
end

