-- ==== Sys2Proof/Laws/State.lean ====
section
/-! SUPPORT. One lemma for each field of the state and each update: what the update leaves there. -/

namespace Sys2Proof.Machine

variable (s : State)

/-! ### putDau -/

@[simp] theorem State.putDau_pif (x : Dau) (out : List Instr) :
    (s.putDau x out).pif = s.pif := rfl
@[simp] theorem State.putDau_rst (x : Dau) (out : List Instr) :
    (s.putDau x out).rst = s.rst := rfl
@[simp] theorem State.putDau_dau (x : Dau) (out : List Instr) :
    (s.putDau x out).dau = x := rfl
@[simp] theorem State.putDau_lmu (x : Dau) (out : List Instr) :
    (s.putDau x out).lmu = s.lmu := rfl
@[simp] theorem State.putDau_tdu (x : Dau) (out : List Instr) :
    (s.putDau x out).tdu = s.tdu := rfl
@[simp] theorem State.putDau_lcu (x : Dau) (out : List Instr) :
    (s.putDau x out).lcu = s.lcu := rfl
@[simp] theorem State.putDau_rtu (x : Dau) (out : List Instr) :
    (s.putDau x out).rtu = s.rtu := rfl
@[simp] theorem State.putDau_tlu (x : Dau) (out : List Instr) :
    (s.putDau x out).tlu = s.tlu := rfl
@[simp] theorem State.putDau_sru (x : Dau) (out : List Instr) :
    (s.putDau x out).sru = s.sru := rfl
@[simp] theorem State.putDau_sdu (x : Dau) (out : List Instr) :
    (s.putDau x out).sdu = s.sdu := rfl
@[simp] theorem State.putDau_fnu (x : Dau) (out : List Instr) :
    (s.putDau x out).fnu = s.fnu := rfl
@[simp] theorem State.putDau_settings (x : Dau) (out : List Instr) :
    (s.putDau x out).settings = s.settings := rfl
@[simp] theorem State.putDau_bad (x : Dau) (out : List Instr) :
    (s.putDau x out).bad = s.bad.filter fun w => !(s.dau.rewrote x w || notedWords out w) := rfl
@[simp] theorem State.putDau_handed (x : Dau) (out : List Instr) :
    (s.putDau x out).handed = s.handed ++ out := rfl
@[simp] theorem State.putDau_draws (x : Dau) (out : List Instr) :
    (s.putDau x out).draws = s.draws := rfl
@[simp] theorem State.putDau_pending (x : Dau) (out : List Instr) :
    (s.putDau x out).pending = s.pending := rfl

/-! ### putLmu -/

@[simp] theorem State.putLmu_pif (x : Lmu) (out : List Instr) :
    (s.putLmu x out).pif = s.pif := rfl
@[simp] theorem State.putLmu_rst (x : Lmu) (out : List Instr) :
    (s.putLmu x out).rst = s.rst := rfl
@[simp] theorem State.putLmu_dau (x : Lmu) (out : List Instr) :
    (s.putLmu x out).dau = s.dau := rfl
@[simp] theorem State.putLmu_lmu (x : Lmu) (out : List Instr) :
    (s.putLmu x out).lmu = x := rfl
@[simp] theorem State.putLmu_tdu (x : Lmu) (out : List Instr) :
    (s.putLmu x out).tdu = s.tdu := rfl
@[simp] theorem State.putLmu_lcu (x : Lmu) (out : List Instr) :
    (s.putLmu x out).lcu = s.lcu := rfl
@[simp] theorem State.putLmu_rtu (x : Lmu) (out : List Instr) :
    (s.putLmu x out).rtu = s.rtu := rfl
@[simp] theorem State.putLmu_tlu (x : Lmu) (out : List Instr) :
    (s.putLmu x out).tlu = s.tlu := rfl
@[simp] theorem State.putLmu_sru (x : Lmu) (out : List Instr) :
    (s.putLmu x out).sru = s.sru := rfl
@[simp] theorem State.putLmu_sdu (x : Lmu) (out : List Instr) :
    (s.putLmu x out).sdu = s.sdu := rfl
@[simp] theorem State.putLmu_fnu (x : Lmu) (out : List Instr) :
    (s.putLmu x out).fnu = s.fnu := rfl
@[simp] theorem State.putLmu_settings (x : Lmu) (out : List Instr) :
    (s.putLmu x out).settings = s.settings := rfl
@[simp] theorem State.putLmu_bad (x : Lmu) (out : List Instr) :
    (s.putLmu x out).bad = s.bad := rfl
@[simp] theorem State.putLmu_handed (x : Lmu) (out : List Instr) :
    (s.putLmu x out).handed = s.handed ++ out := rfl
@[simp] theorem State.putLmu_draws (x : Lmu) (out : List Instr) :
    (s.putLmu x out).draws = s.draws := rfl
@[simp] theorem State.putLmu_pending (x : Lmu) (out : List Instr) :
    (s.putLmu x out).pending = s.pending := rfl

/-! ### putTdu -/

@[simp] theorem State.putTdu_pif (x : Tdu) (out : List Instr) :
    (s.putTdu x out).pif = s.pif := rfl
@[simp] theorem State.putTdu_rst (x : Tdu) (out : List Instr) :
    (s.putTdu x out).rst = s.rst := rfl
@[simp] theorem State.putTdu_dau (x : Tdu) (out : List Instr) :
    (s.putTdu x out).dau = s.dau := rfl
@[simp] theorem State.putTdu_lmu (x : Tdu) (out : List Instr) :
    (s.putTdu x out).lmu = s.lmu := rfl
@[simp] theorem State.putTdu_tdu (x : Tdu) (out : List Instr) :
    (s.putTdu x out).tdu = x := rfl
@[simp] theorem State.putTdu_lcu (x : Tdu) (out : List Instr) :
    (s.putTdu x out).lcu = s.lcu := rfl
@[simp] theorem State.putTdu_rtu (x : Tdu) (out : List Instr) :
    (s.putTdu x out).rtu = s.rtu := rfl
@[simp] theorem State.putTdu_tlu (x : Tdu) (out : List Instr) :
    (s.putTdu x out).tlu = s.tlu := rfl
@[simp] theorem State.putTdu_sru (x : Tdu) (out : List Instr) :
    (s.putTdu x out).sru = s.sru := rfl
@[simp] theorem State.putTdu_sdu (x : Tdu) (out : List Instr) :
    (s.putTdu x out).sdu = s.sdu := rfl
@[simp] theorem State.putTdu_fnu (x : Tdu) (out : List Instr) :
    (s.putTdu x out).fnu = s.fnu := rfl
@[simp] theorem State.putTdu_settings (x : Tdu) (out : List Instr) :
    (s.putTdu x out).settings = s.settings := rfl
@[simp] theorem State.putTdu_bad (x : Tdu) (out : List Instr) :
    (s.putTdu x out).bad = s.bad.filter fun w => !s.tdu.rewrote x w := rfl
@[simp] theorem State.putTdu_handed (x : Tdu) (out : List Instr) :
    (s.putTdu x out).handed = s.handed ++ out := rfl
@[simp] theorem State.putTdu_draws (x : Tdu) (out : List Instr) :
    (s.putTdu x out).draws = s.draws := rfl
@[simp] theorem State.putTdu_pending (x : Tdu) (out : List Instr) :
    (s.putTdu x out).pending = s.pending := rfl

/-! ### putLcu -/

@[simp] theorem State.putLcu_pif (x : Lcu) (out : List Instr) :
    (s.putLcu x out).pif = s.pif := rfl
@[simp] theorem State.putLcu_rst (x : Lcu) (out : List Instr) :
    (s.putLcu x out).rst = s.rst := rfl
@[simp] theorem State.putLcu_dau (x : Lcu) (out : List Instr) :
    (s.putLcu x out).dau = s.dau := rfl
@[simp] theorem State.putLcu_lmu (x : Lcu) (out : List Instr) :
    (s.putLcu x out).lmu = s.lmu := rfl
@[simp] theorem State.putLcu_tdu (x : Lcu) (out : List Instr) :
    (s.putLcu x out).tdu = s.tdu := rfl
@[simp] theorem State.putLcu_lcu (x : Lcu) (out : List Instr) :
    (s.putLcu x out).lcu = x := rfl
@[simp] theorem State.putLcu_rtu (x : Lcu) (out : List Instr) :
    (s.putLcu x out).rtu = s.rtu := rfl
@[simp] theorem State.putLcu_tlu (x : Lcu) (out : List Instr) :
    (s.putLcu x out).tlu = s.tlu := rfl
@[simp] theorem State.putLcu_sru (x : Lcu) (out : List Instr) :
    (s.putLcu x out).sru = s.sru := rfl
@[simp] theorem State.putLcu_sdu (x : Lcu) (out : List Instr) :
    (s.putLcu x out).sdu = s.sdu := rfl
@[simp] theorem State.putLcu_fnu (x : Lcu) (out : List Instr) :
    (s.putLcu x out).fnu = s.fnu := rfl
@[simp] theorem State.putLcu_settings (x : Lcu) (out : List Instr) :
    (s.putLcu x out).settings = s.settings := rfl
@[simp] theorem State.putLcu_bad (x : Lcu) (out : List Instr) :
    (s.putLcu x out).bad = s.bad := rfl
@[simp] theorem State.putLcu_handed (x : Lcu) (out : List Instr) :
    (s.putLcu x out).handed = s.handed ++ out := rfl
@[simp] theorem State.putLcu_draws (x : Lcu) (out : List Instr) :
    (s.putLcu x out).draws = s.draws := rfl
@[simp] theorem State.putLcu_pending (x : Lcu) (out : List Instr) :
    (s.putLcu x out).pending = s.pending := rfl

/-! ### putRtu -/

@[simp] theorem State.putRtu_pif (x : Rtu) (out : List Instr) :
    (s.putRtu x out).pif = s.pif := rfl
@[simp] theorem State.putRtu_rst (x : Rtu) (out : List Instr) :
    (s.putRtu x out).rst = s.rst := rfl
@[simp] theorem State.putRtu_dau (x : Rtu) (out : List Instr) :
    (s.putRtu x out).dau = s.dau := rfl
@[simp] theorem State.putRtu_lmu (x : Rtu) (out : List Instr) :
    (s.putRtu x out).lmu = s.lmu := rfl
@[simp] theorem State.putRtu_tdu (x : Rtu) (out : List Instr) :
    (s.putRtu x out).tdu = s.tdu := rfl
@[simp] theorem State.putRtu_lcu (x : Rtu) (out : List Instr) :
    (s.putRtu x out).lcu = s.lcu := rfl
@[simp] theorem State.putRtu_rtu (x : Rtu) (out : List Instr) :
    (s.putRtu x out).rtu = x := rfl
@[simp] theorem State.putRtu_tlu (x : Rtu) (out : List Instr) :
    (s.putRtu x out).tlu = s.tlu := rfl
@[simp] theorem State.putRtu_sru (x : Rtu) (out : List Instr) :
    (s.putRtu x out).sru = s.sru := rfl
@[simp] theorem State.putRtu_sdu (x : Rtu) (out : List Instr) :
    (s.putRtu x out).sdu = s.sdu := rfl
@[simp] theorem State.putRtu_fnu (x : Rtu) (out : List Instr) :
    (s.putRtu x out).fnu = s.fnu := rfl
@[simp] theorem State.putRtu_settings (x : Rtu) (out : List Instr) :
    (s.putRtu x out).settings = s.settings := rfl
@[simp] theorem State.putRtu_bad (x : Rtu) (out : List Instr) :
    (s.putRtu x out).bad = s.bad.filter fun w => !(s.rtu.rewrote x w || notedWords out w) := rfl
@[simp] theorem State.putRtu_handed (x : Rtu) (out : List Instr) :
    (s.putRtu x out).handed = s.handed ++ out := rfl
@[simp] theorem State.putRtu_draws (x : Rtu) (out : List Instr) :
    (s.putRtu x out).draws = s.draws := rfl
@[simp] theorem State.putRtu_pending (x : Rtu) (out : List Instr) :
    (s.putRtu x out).pending = s.pending := rfl

/-! ### putTlu -/

@[simp] theorem State.putTlu_pif (x : Tlu) (out : List Instr) :
    (s.putTlu x out).pif = s.pif := rfl
@[simp] theorem State.putTlu_rst (x : Tlu) (out : List Instr) :
    (s.putTlu x out).rst = s.rst := rfl
@[simp] theorem State.putTlu_dau (x : Tlu) (out : List Instr) :
    (s.putTlu x out).dau = s.dau := rfl
@[simp] theorem State.putTlu_lmu (x : Tlu) (out : List Instr) :
    (s.putTlu x out).lmu = s.lmu := rfl
@[simp] theorem State.putTlu_tdu (x : Tlu) (out : List Instr) :
    (s.putTlu x out).tdu = s.tdu := rfl
@[simp] theorem State.putTlu_lcu (x : Tlu) (out : List Instr) :
    (s.putTlu x out).lcu = s.lcu := rfl
@[simp] theorem State.putTlu_rtu (x : Tlu) (out : List Instr) :
    (s.putTlu x out).rtu = s.rtu := rfl
@[simp] theorem State.putTlu_tlu (x : Tlu) (out : List Instr) :
    (s.putTlu x out).tlu = x := rfl
@[simp] theorem State.putTlu_sru (x : Tlu) (out : List Instr) :
    (s.putTlu x out).sru = s.sru := rfl
@[simp] theorem State.putTlu_sdu (x : Tlu) (out : List Instr) :
    (s.putTlu x out).sdu = s.sdu := rfl
@[simp] theorem State.putTlu_fnu (x : Tlu) (out : List Instr) :
    (s.putTlu x out).fnu = s.fnu := rfl
@[simp] theorem State.putTlu_settings (x : Tlu) (out : List Instr) :
    (s.putTlu x out).settings = s.settings := rfl
@[simp] theorem State.putTlu_bad (x : Tlu) (out : List Instr) :
    (s.putTlu x out).bad = s.bad := rfl
@[simp] theorem State.putTlu_handed (x : Tlu) (out : List Instr) :
    (s.putTlu x out).handed = s.handed ++ out := rfl
@[simp] theorem State.putTlu_draws (x : Tlu) (out : List Instr) :
    (s.putTlu x out).draws = s.draws := rfl
@[simp] theorem State.putTlu_pending (x : Tlu) (out : List Instr) :
    (s.putTlu x out).pending = s.pending := rfl

/-! ### putSru -/

@[simp] theorem State.putSru_pif (x : Sru) (out : List Instr) :
    (s.putSru x out).pif = s.pif := rfl
@[simp] theorem State.putSru_rst (x : Sru) (out : List Instr) :
    (s.putSru x out).rst = s.rst := rfl
@[simp] theorem State.putSru_dau (x : Sru) (out : List Instr) :
    (s.putSru x out).dau = s.dau := rfl
@[simp] theorem State.putSru_lmu (x : Sru) (out : List Instr) :
    (s.putSru x out).lmu = s.lmu := rfl
@[simp] theorem State.putSru_tdu (x : Sru) (out : List Instr) :
    (s.putSru x out).tdu = s.tdu := rfl
@[simp] theorem State.putSru_lcu (x : Sru) (out : List Instr) :
    (s.putSru x out).lcu = s.lcu := rfl
@[simp] theorem State.putSru_rtu (x : Sru) (out : List Instr) :
    (s.putSru x out).rtu = s.rtu := rfl
@[simp] theorem State.putSru_tlu (x : Sru) (out : List Instr) :
    (s.putSru x out).tlu = s.tlu := rfl
@[simp] theorem State.putSru_sru (x : Sru) (out : List Instr) :
    (s.putSru x out).sru = x := rfl
@[simp] theorem State.putSru_sdu (x : Sru) (out : List Instr) :
    (s.putSru x out).sdu = s.sdu := rfl
@[simp] theorem State.putSru_fnu (x : Sru) (out : List Instr) :
    (s.putSru x out).fnu = s.fnu := rfl
@[simp] theorem State.putSru_settings (x : Sru) (out : List Instr) :
    (s.putSru x out).settings = s.settings := rfl
@[simp] theorem State.putSru_bad (x : Sru) (out : List Instr) :
    (s.putSru x out).bad = s.bad.filter fun w => !(s.sru.rewrote x w || notedWords out w) := rfl
@[simp] theorem State.putSru_handed (x : Sru) (out : List Instr) :
    (s.putSru x out).handed = s.handed ++ out := rfl
@[simp] theorem State.putSru_draws (x : Sru) (out : List Instr) :
    (s.putSru x out).draws = s.draws := rfl
@[simp] theorem State.putSru_pending (x : Sru) (out : List Instr) :
    (s.putSru x out).pending = s.pending := rfl

/-! ### putSdu -/

@[simp] theorem State.putSdu_pif (x : Sdu) (out : List Instr) :
    (s.putSdu x out).pif = s.pif := rfl
@[simp] theorem State.putSdu_rst (x : Sdu) (out : List Instr) :
    (s.putSdu x out).rst = s.rst := rfl
@[simp] theorem State.putSdu_dau (x : Sdu) (out : List Instr) :
    (s.putSdu x out).dau = s.dau := rfl
@[simp] theorem State.putSdu_lmu (x : Sdu) (out : List Instr) :
    (s.putSdu x out).lmu = s.lmu := rfl
@[simp] theorem State.putSdu_tdu (x : Sdu) (out : List Instr) :
    (s.putSdu x out).tdu = s.tdu := rfl
@[simp] theorem State.putSdu_lcu (x : Sdu) (out : List Instr) :
    (s.putSdu x out).lcu = s.lcu := rfl
@[simp] theorem State.putSdu_rtu (x : Sdu) (out : List Instr) :
    (s.putSdu x out).rtu = s.rtu := rfl
@[simp] theorem State.putSdu_tlu (x : Sdu) (out : List Instr) :
    (s.putSdu x out).tlu = s.tlu := rfl
@[simp] theorem State.putSdu_sru (x : Sdu) (out : List Instr) :
    (s.putSdu x out).sru = s.sru := rfl
@[simp] theorem State.putSdu_sdu (x : Sdu) (out : List Instr) :
    (s.putSdu x out).sdu = x := rfl
@[simp] theorem State.putSdu_fnu (x : Sdu) (out : List Instr) :
    (s.putSdu x out).fnu = s.fnu := rfl
@[simp] theorem State.putSdu_settings (x : Sdu) (out : List Instr) :
    (s.putSdu x out).settings = s.settings := rfl
@[simp] theorem State.putSdu_bad (x : Sdu) (out : List Instr) :
    (s.putSdu x out).bad = s.bad.filter fun w => !(s.sdu.rewrote x w || notedWords out w) := rfl
@[simp] theorem State.putSdu_handed (x : Sdu) (out : List Instr) :
    (s.putSdu x out).handed = s.handed ++ out := rfl
@[simp] theorem State.putSdu_draws (x : Sdu) (out : List Instr) :
    (s.putSdu x out).draws = s.draws := rfl
@[simp] theorem State.putSdu_pending (x : Sdu) (out : List Instr) :
    (s.putSdu x out).pending = s.pending := rfl

/-! ### putFnu -/

@[simp] theorem State.putFnu_pif (x : Fnu) (out : List Instr) :
    (s.putFnu x out).pif = s.pif := rfl
@[simp] theorem State.putFnu_rst (x : Fnu) (out : List Instr) :
    (s.putFnu x out).rst = s.rst := rfl
@[simp] theorem State.putFnu_dau (x : Fnu) (out : List Instr) :
    (s.putFnu x out).dau = s.dau := rfl
@[simp] theorem State.putFnu_lmu (x : Fnu) (out : List Instr) :
    (s.putFnu x out).lmu = s.lmu := rfl
@[simp] theorem State.putFnu_tdu (x : Fnu) (out : List Instr) :
    (s.putFnu x out).tdu = s.tdu := rfl
@[simp] theorem State.putFnu_lcu (x : Fnu) (out : List Instr) :
    (s.putFnu x out).lcu = s.lcu := rfl
@[simp] theorem State.putFnu_rtu (x : Fnu) (out : List Instr) :
    (s.putFnu x out).rtu = s.rtu := rfl
@[simp] theorem State.putFnu_tlu (x : Fnu) (out : List Instr) :
    (s.putFnu x out).tlu = s.tlu := rfl
@[simp] theorem State.putFnu_sru (x : Fnu) (out : List Instr) :
    (s.putFnu x out).sru = s.sru := rfl
@[simp] theorem State.putFnu_sdu (x : Fnu) (out : List Instr) :
    (s.putFnu x out).sdu = s.sdu := rfl
@[simp] theorem State.putFnu_fnu (x : Fnu) (out : List Instr) :
    (s.putFnu x out).fnu = x := rfl
@[simp] theorem State.putFnu_settings (x : Fnu) (out : List Instr) :
    (s.putFnu x out).settings = s.settings := rfl
@[simp] theorem State.putFnu_bad (x : Fnu) (out : List Instr) :
    (s.putFnu x out).bad = s.bad.filter fun w => !s.fnu.rewrote x w := rfl
@[simp] theorem State.putFnu_handed (x : Fnu) (out : List Instr) :
    (s.putFnu x out).handed = s.handed ++ out := rfl
@[simp] theorem State.putFnu_draws (x : Fnu) (out : List Instr) :
    (s.putFnu x out).draws = s.draws := rfl
@[simp] theorem State.putFnu_pending (x : Fnu) (out : List Instr) :
    (s.putFnu x out).pending = s.pending := rfl

/-! ### hand -/

@[simp] theorem State.hand_pif (out : List Instr) :
    (s.hand out).pif = s.pif := rfl
@[simp] theorem State.hand_rst (out : List Instr) :
    (s.hand out).rst = s.rst := rfl
@[simp] theorem State.hand_dau (out : List Instr) :
    (s.hand out).dau = s.dau := rfl
@[simp] theorem State.hand_lmu (out : List Instr) :
    (s.hand out).lmu = s.lmu := rfl
@[simp] theorem State.hand_tdu (out : List Instr) :
    (s.hand out).tdu = s.tdu := rfl
@[simp] theorem State.hand_lcu (out : List Instr) :
    (s.hand out).lcu = s.lcu := rfl
@[simp] theorem State.hand_rtu (out : List Instr) :
    (s.hand out).rtu = s.rtu := rfl
@[simp] theorem State.hand_tlu (out : List Instr) :
    (s.hand out).tlu = s.tlu := rfl
@[simp] theorem State.hand_sru (out : List Instr) :
    (s.hand out).sru = s.sru := rfl
@[simp] theorem State.hand_sdu (out : List Instr) :
    (s.hand out).sdu = s.sdu := rfl
@[simp] theorem State.hand_fnu (out : List Instr) :
    (s.hand out).fnu = s.fnu := rfl
@[simp] theorem State.hand_settings (out : List Instr) :
    (s.hand out).settings = s.settings := rfl
@[simp] theorem State.hand_bad (out : List Instr) :
    (s.hand out).bad = s.bad := rfl
@[simp] theorem State.hand_handed (out : List Instr) :
    (s.hand out).handed = s.handed ++ out := rfl
@[simp] theorem State.hand_draws (out : List Instr) :
    (s.hand out).draws = s.draws := rfl
@[simp] theorem State.hand_pending (out : List Instr) :
    (s.hand out).pending = s.pending := rfl

/-! ### take -/

@[simp] theorem State.take_pif (c : Instr) :
    (s.take c).pif = s.pif := rfl
@[simp] theorem State.take_rst (c : Instr) :
    (s.take c).rst = s.rst := rfl
@[simp] theorem State.take_dau (c : Instr) :
    (s.take c).dau = s.dau := rfl
@[simp] theorem State.take_lmu (c : Instr) :
    (s.take c).lmu = s.lmu := rfl
@[simp] theorem State.take_tdu (c : Instr) :
    (s.take c).tdu = s.tdu := rfl
@[simp] theorem State.take_lcu (c : Instr) :
    (s.take c).lcu = s.lcu := rfl
@[simp] theorem State.take_rtu (c : Instr) :
    (s.take c).rtu = s.rtu := rfl
@[simp] theorem State.take_tlu (c : Instr) :
    (s.take c).tlu = s.tlu := rfl
@[simp] theorem State.take_sru (c : Instr) :
    (s.take c).sru = s.sru := rfl
@[simp] theorem State.take_sdu (c : Instr) :
    (s.take c).sdu = s.sdu := rfl
@[simp] theorem State.take_fnu (c : Instr) :
    (s.take c).fnu = s.fnu := rfl
@[simp] theorem State.take_settings (c : Instr) :
    (s.take c).settings = s.settings := rfl
@[simp] theorem State.take_bad (c : Instr) :
    (s.take c).bad = s.bad := rfl
@[simp] theorem State.take_handed (c : Instr) :
    (s.take c).handed = s.handed.erase c := rfl
@[simp] theorem State.take_draws (c : Instr) :
    (s.take c).draws = s.draws := rfl
@[simp] theorem State.take_pending (c : Instr) :
    (s.take c).pending = s.pending := rfl

/-! ### rewrite -/

@[simp] theorem State.rewrite_pif (f : StoreWord → Bool) :
    (s.rewrite f).pif = s.pif := rfl
@[simp] theorem State.rewrite_rst (f : StoreWord → Bool) :
    (s.rewrite f).rst = s.rst := rfl
@[simp] theorem State.rewrite_dau (f : StoreWord → Bool) :
    (s.rewrite f).dau = s.dau := rfl
@[simp] theorem State.rewrite_lmu (f : StoreWord → Bool) :
    (s.rewrite f).lmu = s.lmu := rfl
@[simp] theorem State.rewrite_tdu (f : StoreWord → Bool) :
    (s.rewrite f).tdu = s.tdu := rfl
@[simp] theorem State.rewrite_lcu (f : StoreWord → Bool) :
    (s.rewrite f).lcu = s.lcu := rfl
@[simp] theorem State.rewrite_rtu (f : StoreWord → Bool) :
    (s.rewrite f).rtu = s.rtu := rfl
@[simp] theorem State.rewrite_tlu (f : StoreWord → Bool) :
    (s.rewrite f).tlu = s.tlu := rfl
@[simp] theorem State.rewrite_sru (f : StoreWord → Bool) :
    (s.rewrite f).sru = s.sru := rfl
@[simp] theorem State.rewrite_sdu (f : StoreWord → Bool) :
    (s.rewrite f).sdu = s.sdu := rfl
@[simp] theorem State.rewrite_fnu (f : StoreWord → Bool) :
    (s.rewrite f).fnu = s.fnu := rfl
@[simp] theorem State.rewrite_settings (f : StoreWord → Bool) :
    (s.rewrite f).settings = s.settings := rfl
@[simp] theorem State.rewrite_bad (f : StoreWord → Bool) :
    (s.rewrite f).bad = s.bad.filter fun w => !f w := rfl
@[simp] theorem State.rewrite_handed (f : StoreWord → Bool) :
    (s.rewrite f).handed = s.handed := rfl
@[simp] theorem State.rewrite_draws (f : StoreWord → Bool) :
    (s.rewrite f).draws = s.draws := rfl
@[simp] theorem State.rewrite_pending (f : StoreWord → Bool) :
    (s.rewrite f).pending = s.pending := rfl

/-- With no bad word there is nothing to make good. -/
theorem State.rewrite_of_bad_nil (h : s.bad = []) (f : StoreWord → Bool) : s.rewrite f = s := by
  rw [State.rewrite, h]
  exact congrArg (fun b => { s with bad := b }) h.symm

/-! ### emptySlotsNaming -/

@[simp] theorem State.emptySlotsNaming_pif (r : Record) :
    (s.emptySlotsNaming r).pif = s.pif := rfl
@[simp] theorem State.emptySlotsNaming_rst (r : Record) :
    (s.emptySlotsNaming r).rst = { s.rst with slots := emptySlots r s.rst.slots } := rfl
@[simp] theorem State.emptySlotsNaming_dau (r : Record) :
    (s.emptySlotsNaming r).dau = s.dau := rfl
@[simp] theorem State.emptySlotsNaming_lmu (r : Record) :
    (s.emptySlotsNaming r).lmu = s.lmu := rfl
@[simp] theorem State.emptySlotsNaming_tdu (r : Record) :
    (s.emptySlotsNaming r).tdu = s.tdu := rfl
@[simp] theorem State.emptySlotsNaming_lcu (r : Record) :
    (s.emptySlotsNaming r).lcu = s.lcu := rfl
@[simp] theorem State.emptySlotsNaming_rtu (r : Record) :
    (s.emptySlotsNaming r).rtu = s.rtu := rfl
@[simp] theorem State.emptySlotsNaming_tlu (r : Record) :
    (s.emptySlotsNaming r).tlu = s.tlu := rfl
@[simp] theorem State.emptySlotsNaming_sru (r : Record) :
    (s.emptySlotsNaming r).sru = s.sru := rfl
@[simp] theorem State.emptySlotsNaming_sdu (r : Record) :
    (s.emptySlotsNaming r).sdu = s.sdu := rfl
@[simp] theorem State.emptySlotsNaming_fnu (r : Record) :
    (s.emptySlotsNaming r).fnu = s.fnu := rfl
@[simp] theorem State.emptySlotsNaming_settings (r : Record) :
    (s.emptySlotsNaming r).settings = s.settings := rfl
@[simp] theorem State.emptySlotsNaming_bad (r : Record) :
    (s.emptySlotsNaming r).bad = s.bad := rfl
@[simp] theorem State.emptySlotsNaming_handed (r : Record) :
    (s.emptySlotsNaming r).handed = s.handed := rfl
@[simp] theorem State.emptySlotsNaming_draws (r : Record) :
    (s.emptySlotsNaming r).draws = s.draws := rfl
@[simp] theorem State.emptySlotsNaming_pending (r : Record) :
    (s.emptySlotsNaming r).pending = s.pending := rfl

/-! ### setSlot -/

@[simp] theorem State.setSlot_pif (p : Port) (o : Option Record) :
    (s.setSlot p o).pif = s.pif := rfl
@[simp] theorem State.setSlot_rst (p : Port) (o : Option Record) :
    (s.setSlot p o).rst = { s.rst with slots := s.rst.slots.set p o } := rfl
@[simp] theorem State.setSlot_dau (p : Port) (o : Option Record) :
    (s.setSlot p o).dau = s.dau := rfl
@[simp] theorem State.setSlot_lmu (p : Port) (o : Option Record) :
    (s.setSlot p o).lmu = s.lmu := rfl
@[simp] theorem State.setSlot_tdu (p : Port) (o : Option Record) :
    (s.setSlot p o).tdu = s.tdu := rfl
@[simp] theorem State.setSlot_lcu (p : Port) (o : Option Record) :
    (s.setSlot p o).lcu = s.lcu := rfl
@[simp] theorem State.setSlot_rtu (p : Port) (o : Option Record) :
    (s.setSlot p o).rtu = s.rtu := rfl
@[simp] theorem State.setSlot_tlu (p : Port) (o : Option Record) :
    (s.setSlot p o).tlu = s.tlu := rfl
@[simp] theorem State.setSlot_sru (p : Port) (o : Option Record) :
    (s.setSlot p o).sru = s.sru := rfl
@[simp] theorem State.setSlot_sdu (p : Port) (o : Option Record) :
    (s.setSlot p o).sdu = s.sdu := rfl
@[simp] theorem State.setSlot_fnu (p : Port) (o : Option Record) :
    (s.setSlot p o).fnu = s.fnu := rfl
@[simp] theorem State.setSlot_settings (p : Port) (o : Option Record) :
    (s.setSlot p o).settings = s.settings := rfl
@[simp] theorem State.setSlot_bad (p : Port) (o : Option Record) :
    (s.setSlot p o).bad = s.bad := rfl
@[simp] theorem State.setSlot_handed (p : Port) (o : Option Record) :
    (s.setSlot p o).handed = s.handed := rfl
@[simp] theorem State.setSlot_draws (p : Port) (o : Option Record) :
    (s.setSlot p o).draws = s.draws := rfl
@[simp] theorem State.setSlot_pending (p : Port) (o : Option Record) :
    (s.setSlot p o).pending = s.pending := rfl

/-! ### setMode -/

@[simp] theorem State.setMode_pif (m : Mode) :
    (s.setMode m).pif = s.pif := rfl
@[simp] theorem State.setMode_rst (m : Mode) :
    (s.setMode m).rst = { s.rst with mode := m } := rfl
@[simp] theorem State.setMode_dau (m : Mode) :
    (s.setMode m).dau = s.dau := rfl
@[simp] theorem State.setMode_lmu (m : Mode) :
    (s.setMode m).lmu = s.lmu := rfl
@[simp] theorem State.setMode_tdu (m : Mode) :
    (s.setMode m).tdu = s.tdu := rfl
@[simp] theorem State.setMode_lcu (m : Mode) :
    (s.setMode m).lcu = s.lcu := rfl
@[simp] theorem State.setMode_rtu (m : Mode) :
    (s.setMode m).rtu = s.rtu := rfl
@[simp] theorem State.setMode_tlu (m : Mode) :
    (s.setMode m).tlu = s.tlu := rfl
@[simp] theorem State.setMode_sru (m : Mode) :
    (s.setMode m).sru = s.sru := rfl
@[simp] theorem State.setMode_sdu (m : Mode) :
    (s.setMode m).sdu = s.sdu := rfl
@[simp] theorem State.setMode_fnu (m : Mode) :
    (s.setMode m).fnu = s.fnu := rfl
@[simp] theorem State.setMode_settings (m : Mode) :
    (s.setMode m).settings = s.settings := rfl
@[simp] theorem State.setMode_bad (m : Mode) :
    (s.setMode m).bad = s.bad := rfl
@[simp] theorem State.setMode_handed (m : Mode) :
    (s.setMode m).handed = s.handed := rfl
@[simp] theorem State.setMode_draws (m : Mode) :
    (s.setMode m).draws = s.draws := rfl
@[simp] theorem State.setMode_pending (m : Mode) :
    (s.setMode m).pending = s.pending := rfl

/-! ### countPass -/

@[simp] theorem State.countPass_pif (p : Port) :
    (s.countPass p).pif = s.pif := rfl
@[simp] theorem State.countPass_rst (p : Port) :
    (s.countPass p).rst = { s.rst with passOver := nextPassOver s p, served := some p } := rfl
@[simp] theorem State.countPass_dau (p : Port) :
    (s.countPass p).dau = s.dau := rfl
@[simp] theorem State.countPass_lmu (p : Port) :
    (s.countPass p).lmu = s.lmu := rfl
@[simp] theorem State.countPass_tdu (p : Port) :
    (s.countPass p).tdu = s.tdu := rfl
@[simp] theorem State.countPass_lcu (p : Port) :
    (s.countPass p).lcu = s.lcu := rfl
@[simp] theorem State.countPass_rtu (p : Port) :
    (s.countPass p).rtu = s.rtu := rfl
@[simp] theorem State.countPass_tlu (p : Port) :
    (s.countPass p).tlu = s.tlu := rfl
@[simp] theorem State.countPass_sru (p : Port) :
    (s.countPass p).sru = s.sru := rfl
@[simp] theorem State.countPass_sdu (p : Port) :
    (s.countPass p).sdu = s.sdu := rfl
@[simp] theorem State.countPass_fnu (p : Port) :
    (s.countPass p).fnu = s.fnu := rfl
@[simp] theorem State.countPass_settings (p : Port) :
    (s.countPass p).settings = s.settings := rfl
@[simp] theorem State.countPass_bad (p : Port) :
    (s.countPass p).bad = s.bad := rfl
@[simp] theorem State.countPass_handed (p : Port) :
    (s.countPass p).handed = s.handed := rfl
@[simp] theorem State.countPass_draws (p : Port) :
    (s.countPass p).draws = s.draws := rfl
@[simp] theorem State.countPass_pending (p : Port) :
    (s.countPass p).pending = s.pending := rfl

/-! ### engineWork -/

@[simp] theorem State.engineWork_pif (p : Port) (r : Request) :
    (s.engineWork p r).pif = s.pif := rfl
@[simp] theorem State.engineWork_rst (p : Port) (r : Request) :
    (s.engineWork p r).rst = { s.rst with passOver := nextPassOver s p, served := some p } := rfl
@[simp] theorem State.engineWork_dau (p : Port) (r : Request) :
    (s.engineWork p r).dau = s.dau := rfl
@[simp] theorem State.engineWork_lmu (p : Port) (r : Request) :
    (s.engineWork p r).lmu = s.lmu := rfl
@[simp] theorem State.engineWork_tdu (p : Port) (r : Request) :
    (s.engineWork p r).tdu = s.tdu := rfl
@[simp] theorem State.engineWork_lcu (p : Port) (r : Request) :
    (s.engineWork p r).lcu = s.lcu := rfl
@[simp] theorem State.engineWork_rtu (p : Port) (r : Request) :
    (s.engineWork p r).rtu = s.rtu := rfl
@[simp] theorem State.engineWork_tlu (p : Port) (r : Request) :
    (s.engineWork p r).tlu = s.tlu := rfl
@[simp] theorem State.engineWork_sru (p : Port) (r : Request) :
    (s.engineWork p r).sru = s.sru := rfl
@[simp] theorem State.engineWork_sdu (p : Port) (r : Request) :
    (s.engineWork p r).sdu = s.sdu := rfl
@[simp] theorem State.engineWork_fnu (p : Port) (r : Request) :
    (s.engineWork p r).fnu = s.fnu := rfl
@[simp] theorem State.engineWork_settings (p : Port) (r : Request) :
    (s.engineWork p r).settings = s.settings := rfl
@[simp] theorem State.engineWork_bad (p : Port) (r : Request) :
    (s.engineWork p r).bad = s.bad := rfl
@[simp] theorem State.engineWork_handed (p : Port) (r : Request) :
    (s.engineWork p r).handed = s.handed ++ parityFaults s .rst (storeReads s p r) none := rfl
@[simp] theorem State.engineWork_draws (p : Port) (r : Request) :
    (s.engineWork p r).draws = s.draws := rfl
@[simp] theorem State.engineWork_pending (p : Port) (r : Request) :
    (s.engineWork p r).pending = s.pending := rfl

/-! ### atPort -/

@[simp] theorem State.atPort_pif (p : Port) (g : PortSlots → PortSlots) :
    (s.atPort p g).pif = s.pif.set p (g (s.pif.get p)) := rfl
@[simp] theorem State.atPort_rst (p : Port) (g : PortSlots → PortSlots) :
    (s.atPort p g).rst = s.rst := rfl
@[simp] theorem State.atPort_dau (p : Port) (g : PortSlots → PortSlots) :
    (s.atPort p g).dau = s.dau := rfl
@[simp] theorem State.atPort_lmu (p : Port) (g : PortSlots → PortSlots) :
    (s.atPort p g).lmu = s.lmu := rfl
@[simp] theorem State.atPort_tdu (p : Port) (g : PortSlots → PortSlots) :
    (s.atPort p g).tdu = s.tdu := rfl
@[simp] theorem State.atPort_lcu (p : Port) (g : PortSlots → PortSlots) :
    (s.atPort p g).lcu = s.lcu := rfl
@[simp] theorem State.atPort_rtu (p : Port) (g : PortSlots → PortSlots) :
    (s.atPort p g).rtu = s.rtu := rfl
@[simp] theorem State.atPort_tlu (p : Port) (g : PortSlots → PortSlots) :
    (s.atPort p g).tlu = s.tlu := rfl
@[simp] theorem State.atPort_sru (p : Port) (g : PortSlots → PortSlots) :
    (s.atPort p g).sru = s.sru := rfl
@[simp] theorem State.atPort_sdu (p : Port) (g : PortSlots → PortSlots) :
    (s.atPort p g).sdu = s.sdu := rfl
@[simp] theorem State.atPort_fnu (p : Port) (g : PortSlots → PortSlots) :
    (s.atPort p g).fnu = s.fnu := rfl
@[simp] theorem State.atPort_settings (p : Port) (g : PortSlots → PortSlots) :
    (s.atPort p g).settings = s.settings := rfl
@[simp] theorem State.atPort_bad (p : Port) (g : PortSlots → PortSlots) :
    (s.atPort p g).bad = s.bad := rfl
@[simp] theorem State.atPort_handed (p : Port) (g : PortSlots → PortSlots) :
    (s.atPort p g).handed = s.handed := rfl
@[simp] theorem State.atPort_draws (p : Port) (g : PortSlots → PortSlots) :
    (s.atPort p g).draws = s.draws := rfl
@[simp] theorem State.atPort_pending (p : Port) (g : PortSlots → PortSlots) :
    (s.atPort p g).pending = s.pending := rfl

/-- With nothing handed on no last event is noted. -/
@[simp] theorem notedWords_nil (w : StoreWord) : notedWords [] w = false := rfl

/-! ### Replacing a unit with nothing handed on -/

theorem State.putDau_nil (x : Dau) : s.putDau x [] = { s with dau := x, bad := s.bad.filter fun w => !s.dau.rewrote x w } := by
  simp [State.putDau]

theorem State.putLmu_nil (x : Lmu) : s.putLmu x [] = { s with lmu := x } := by
  simp [State.putLmu]

theorem State.putTdu_nil (x : Tdu) : s.putTdu x [] = { s with tdu := x, bad := s.bad.filter fun w => !s.tdu.rewrote x w } := by
  simp [State.putTdu]

theorem State.putLcu_nil (x : Lcu) : s.putLcu x [] = { s with lcu := x } := by
  simp [State.putLcu]

theorem State.putRtu_nil (x : Rtu) : s.putRtu x [] = { s with rtu := x, bad := s.bad.filter fun w => !s.rtu.rewrote x w } := by
  simp [State.putRtu]

theorem State.putTlu_nil (x : Tlu) : s.putTlu x [] = { s with tlu := x } := by
  simp [State.putTlu]

theorem State.putSru_nil (x : Sru) : s.putSru x [] = { s with sru := x, bad := s.bad.filter fun w => !s.sru.rewrote x w } := by
  simp [State.putSru]

theorem State.putSdu_nil (x : Sdu) : s.putSdu x [] = { s with sdu := x, bad := s.bad.filter fun w => !s.sdu.rewrote x w } := by
  simp [State.putSdu]

theorem State.putFnu_nil (x : Fnu) : s.putFnu x [] = { s with fnu := x, bad := s.bad.filter fun w => !s.fnu.rewrote x w } := by
  simp [State.putFnu]

end Sys2Proof.Machine
end

