-- ==== Sys2Proof/Laws/Engine.lean ====
section
/-! SUPPORT. The ports' tables, the reservation slots, and what the engine makes of a request it serves at
once: the lemmas a proof about a port row cites. -/

namespace Sys2Proof.Machine

/-! ### One value for each port -/

@[simp] theorem PerPort.get_set_same {α : Type} (t : PerPort α) (p : Port) (x : α) :
    (t.set p x).get p = x := by cases p <;> rfl

theorem PerPort.get_set_other {α : Type} (t : PerPort α) {p q : Port} (h : q ≠ p) (x : α) :
    (t.set p x).get q = t.get q := by cases p <;> cases q <;> first | rfl | exact absurd rfl h

@[simp] theorem PerPort.set_set {α : Type} (t : PerPort α) (p : Port) (x y : α) :
    (t.set p x).set p y = t.set p y := by cases p <;> rfl

@[simp] theorem PerPort.set_get {α : Type} (t : PerPort α) (p : Port) : t.set p (t.get p) = t := by
  cases p <;> rfl

@[simp] theorem PerPort.get_map {α β : Type} (f : α → β) (t : PerPort α) (p : Port) :
    (t.map f).get p = f (t.get p) := by cases p <;> rfl

@[simp] theorem PerDesk.get_set_same {α : Type} (t : PerDesk α) (d : Desk) (x : α) :
    (t.set d x).get d = x := by cases d <;> rfl

theorem PerDesk.get_set_other {α : Type} (t : PerDesk α) {d e : Desk} (h : e ≠ d) (x : α) :
    (t.set d x).get e = t.get e := by cases d <;> cases e <;> first | rfl | exact absurd rfl h

/-- R13: after a structural change no slot names the record; the others stay. -/
@[simp] theorem get_emptySlots (r : Record) (slots : PerPort (Option Record)) (p : Port) :
    (emptySlots r slots).get p = if slots.get p = some r then none else slots.get p := by
  simp [emptySlots]

/-! ### The teardown barrier (R32) -/

/-- With no element that has the property nothing is kept. -/
theorem throughLast_eq_nil {good : Instr → Bool} {l : List Instr} (h : ∀ c ∈ l, good c = false) :
    throughLast good l = [] := by
  have : l.reverse.dropWhile (fun c => !good c) = [] := by
    rw [List.dropWhile_eq_nil_iff]
    intro c hc
    simp [h c (List.mem_reverse.mp hc)]
  simp [throughLast, this]

theorem State.takeShares_eq {s : State} (h : teardownDone s) : s.takeShares = s := by
  simp [State.takeShares, throughLast_eq_nil fun c hc => (h c hc).1, State.takeAll]

theorem State.takeDeskEvents_eq {s : State} (h : teardownDone s) : s.takeDeskEvents = s := by
  simp [State.takeDeskEvents, State.takeShares_eq h]

/-- With nothing outstanding of a desk state change or a teardown, nothing is completed. -/
theorem State.completeTeardown_eq {s : State} (h : teardownDone s) : s.completeTeardown = s := by
  have e : s.handed.filter shareConsequence = [] := by
    rw [List.filter_eq_nil_iff]
    intro c hc
    simp [(h c hc).2]
  simp [State.completeTeardown, State.takeDeskEvents_eq h, e, State.takeAll]

/-! ### A request served at once -/

@[simp] theorem nextPassOver_withRequest (s : State) (p : Port) (r : Request) :
    nextPassOver (s.withRequest p r) p = nextPassOver s p := by
  cases p <;> rfl

/-- With its own words good the record store raises no fault as it serves. -/
theorem State.engineWork_eq {s : State} {p : Port} {r : Request}
    (h : meetsBad s (storeReads s p r) = false) : s.engineWork p r = s.countPass p := by
  have e : parityFaults s .rst (storeReads s p r) none = [] := by
    simp only [meetsBad, List.any_eq_false] at h
    simp only [parityFaults, List.map_eq_nil_iff, List.filter_eq_nil_iff]
    exact h
  simp [State.engineWork, e, State.hand]

/-- R3: a request that is ready is served at once. -/
theorem State.request_ready {s : State} {p : Port} {r : Request} (h : Ready s p r) :
    s.request p r =
      ((((s.withRequest p r).countPass p).answerRequest p r).1.respond p
        (((s.withRequest p r).countPass p).answerRequest p r).2) := by
  obtain ⟨hw, hc, ht, hs⟩ := h
  have hd : teardownDone (s.withRequest p r) := ht
  have hg : ((s.withRequest p r).pif.get p).waiting = some r := by simp [State.withRequest]
  have e : s.request p r = (s.withRequest p r).serve p r := by
    simp only [State.request, hw]
    rw [if_pos ⟨hg, hc⟩]
    rfl
  rw [e, State.serve, State.completeTeardown_eq hd, State.engineWork_eq (s := s.withRequest p r) hs]

/-- R187: a slot that holds another request keeps it, and nothing else changes. -/
theorem State.request_busy {s : State} {p : Port} {r q : Request} (h : (s.pif.get p).waiting = some q)
    (hne : q ≠ r) : s.request p r = s := by
  simp [State.request, h, hne]

/-- R6 steps 1 to 4: a command that reaches its owner. -/
theorem State.answer_command {s : State} {p : Port} {cond : Bool} {c : CommandName} {args : List Byte}
    (ha : Admitted s p cond (commandTarget c)) (hm : modeAdmits s.rst.mode (commandTarget c) = true)
    (hp : mayCommand s.dau.state p c = true) :
    s.answerRequest p (.command cond (commandCode c) args) =
      ((((commandAnswer p args s c).state.cancelOthers p (commandAnswer p args s c).changed
          (commandTarget c)).consume p cond (commandAnswer p args s c).verdict),
        responseOf (commandAnswer p args s c).verdict) := by
  have hc : commandOfCode (commandCode c) = some c := by cases c <;> decide
  have hn : (cond && s.rst.slots.get p != some (commandTarget c)) = false := by
    cases cond with
    | false => rfl
    | true => simp [ha rfl]
  simp [State.answerRequest, hc, State.serveChecked, hn, hm, hp]

/-- R6 steps 1 to 4: a WRITE that reaches its owner. -/
theorem State.answer_write {s : State} {p : Port} {cond : Bool} {r : Record} {index : Byte}
    {contents : List Byte} (ha : Admitted s p cond r) (hm : modeAdmits s.rst.mode r = true)
    (hp : mayWrite s.dau.state p r = true) :
    s.answerRequest p (.write cond (recordCode r) index contents) =
      ((((writeAnswer index contents s r).state.cancelOthers p (writeAnswer index contents s r).changed
          r).consume p cond (writeAnswer index contents s r).verdict),
        responseOf (writeAnswer index contents s r).verdict) := by
  have hc : recordOfCode (recordCode r) = some r := by cases r <;> decide
  have hn : (cond && s.rst.slots.get p != some r) = false := by
    cases cond with
    | false => rfl
    | true => simp [ha rfl]
  simp [State.answerRequest, hc, State.serveChecked, hn, hm, hp]

/-! ### What a served request leaves outside its owner -/

theorem State.respond_served (s : State) (p : Port) (r : Request) (resp : Response) :
    ((s.withRequest p r).countPass p).respond p resp = s.served p resp := by
  simp [State.respond, State.atPort, State.withRequest, State.countPass, State.served, nextPassOver,
    isWaiting]
  cases p <;> rfl

/-! ### A command or a WRITE that comes to its owner, whole -/

/-- The state the owner of a request that is ready finds: the request waits, the pass-over count moved. -/
def State.background (s : State) (p : Port) (r : Request) : State := (s.withRequest p r).countPass p

@[simp] theorem background_slots (s : State) (p : Port) (r : Request) :
    (s.background p r).rst.slots = s.rst.slots := rfl

@[simp] theorem background_mode (s : State) (p : Port) (r : Request) :
    (s.background p r).rst.mode = s.rst.mode := rfl

@[simp] theorem background_vehicle (s : State) (p : Port) (r : Request) :
    (s.background p r).rst.vehicle = s.rst.vehicle := rfl

@[simp] theorem background_dau (s : State) (p : Port) (r : Request) : (s.background p r).dau = s.dau := rfl

@[simp] theorem background_lmu (s : State) (p : Port) (r : Request) : (s.background p r).lmu = s.lmu := rfl

@[simp] theorem background_tdu (s : State) (p : Port) (r : Request) : (s.background p r).tdu = s.tdu := rfl

@[simp] theorem background_lcu (s : State) (p : Port) (r : Request) : (s.background p r).lcu = s.lcu := rfl

@[simp] theorem background_rtu (s : State) (p : Port) (r : Request) : (s.background p r).rtu = s.rtu := rfl

@[simp] theorem background_tlu (s : State) (p : Port) (r : Request) : (s.background p r).tlu = s.tlu := rfl

@[simp] theorem background_sru (s : State) (p : Port) (r : Request) : (s.background p r).sru = s.sru := rfl

@[simp] theorem background_sdu (s : State) (p : Port) (r : Request) : (s.background p r).sdu = s.sdu := rfl

@[simp] theorem background_fnu (s : State) (p : Port) (r : Request) : (s.background p r).fnu = s.fnu := rfl

@[simp] theorem background_settings (s : State) (p : Port) (r : Request) :
    (s.background p r).settings = s.settings := rfl

@[simp] theorem background_bad (s : State) (p : Port) (r : Request) : (s.background p r).bad = s.bad := rfl

@[simp] theorem background_handed (s : State) (p : Port) (r : Request) :
    (s.background p r).handed = s.handed := rfl

@[simp] theorem background_draws (s : State) (p : Port) (r : Request) :
    (s.background p r).draws = s.draws := rfl

@[simp] theorem background_pending (s : State) (p : Port) (r : Request) :
    (s.background p r).pending = s.pending := rfl

@[simp] theorem meetsBad_background (s : State) (p : Port) (r : Request) (f : StoreWord → Bool) :
    meetsBad (s.background p r) f = meetsBad s f := rfl

/-- What the engine leaves of an owner's answer: the slots, and the response. -/
def Answer.finish (a : Answer) (p : Port) (cond : Bool) (r : Record) : State :=
  ((a.state.cancelOthers p a.changed r).consume p cond a.verdict).respond p (responseOf a.verdict)

/-- R6: a command that reaches its owner leaves what the owner answers. -/
theorem State.request_command {s : State} {p : Port} {cond : Bool} {c : CommandName} {args : List Byte}
    (h : CommandReaches s p cond c args) :
    s.request p (.command cond (commandCode c) args) =
      (commandAnswer p args (s.background p (.command cond (commandCode c) args)) c).finish p cond
        (commandTarget c) := by
  obtain ⟨hr, ha, hm, hp⟩ := h
  rw [State.request_ready hr, State.answer_command (s := (s.withRequest p _).countPass p) ha hm hp]
  rfl

/-- R6: a WRITE that reaches its owner leaves what the owner answers. -/
theorem State.request_write {s : State} {p : Port} {cond : Bool} {r : Record} {index : Byte}
    {contents : List Byte} (h : WriteReaches s p cond r index contents) :
    s.request p (.write cond (recordCode r) index contents) =
      (writeAnswer index contents (s.background p (.write cond (recordCode r) index contents)) r).finish p
        cond r := by
  obtain ⟨hr, ha, hm, hp⟩ := h
  rw [State.request_ready hr, State.answer_write (s := (s.withRequest p _).countPass p) ha hm hp]
  rfl

/-- A refusal by the owner leaves what every refusal leaves. -/
theorem Answer.finish_refuse (s : State) (p : Port) (q : Request) (cond : Bool) (r : Record)
    (why : Reason) :
    (Answer.refuse (s.background p q) why).finish p cond r = s.servedRefused p cond why := by
  have hv : ((Verdict.refused why != Verdict.retry) : Bool) = true := by cases why <;> decide
  cases p <;> cases cond <;>
    simp [Answer.finish, Answer.refuse, State.cancelOthers, State.consume, hv, State.respond, State.atPort,
      State.background, State.withRequest, State.countPass, State.servedRefused, State.served,
      State.setSlot, responseOf, refusal] <;> rfl

/-- A verdict RETRY leaves what every service leaves. -/
theorem Answer.finish_retry (s : State) (p : Port) (q : Request) (cond : Bool) (r : Record) :
    (⟨s.background p q, .retry, false⟩ : Answer).finish p cond r = s.served p ⟨.retry, .none, []⟩ := by
  cases p <;> cases cond <;>
    simp [Answer.finish, State.cancelOthers, State.consume, State.respond, State.atPort, State.background,
      State.withRequest, State.countPass, State.served, responseOf] <;> rfl

/-- A verdict DONE: the response, and the slots of R11 and R12. -/
theorem Answer.finish_done (x : State) (p : Port) (cond changed : Bool) (r : Record)
    (payload : List Byte) :
    (⟨x, .done payload, changed⟩ : Answer).finish p cond r =
      { x with
        pif := x.pif.set p
          { waiting := none, response := ⟨.done, .none, payload⟩, returned := (x.pif.get p).returned }
        rst := { x.rst with slots := slotsAfter p cond changed r x.rst.slots } } := by
  cases cond <;> cases changed <;> rfl

@[simp] theorem background_passOver (s : State) (p : Port) (r : Request) :
    (s.background p r).rst.passOver = nextPassOver s p := by cases p <;> rfl

@[simp] theorem background_returned (s : State) (p : Port) (r : Request) :
    ((s.background p r).pif.get p).returned = (s.pif.get p).returned := by cases p <;> rfl

@[simp] theorem background_pif_set (s : State) (p : Port) (r : Request) (x : PortSlots) :
    (s.background p r).pif.set p x = s.pif.set p x := by cases p <;> rfl

end Sys2Proof.Machine
end

