-- ==== Sys2Proof/Laws/Operands.lean ====
section
/-! SUPPORT. What one field written into octets is read back as (R191): one lemma for each kind of field. -/

namespace Sys2Proof.Machine

theorem getOctet_cons (b : Byte) (l : List Byte) : getOctet (b :: l) = some (b, l) := rfl

theorem getNat8_putNat8 {lo hi n : Nat} (h1 : lo ≤ n) (h2 : n ≤ hi) (h3 : hi ≤ 255) (l : List Byte) :
    getNat8 lo hi (putNat8 n ++ l) = some (n, l) := by
  have : n % 256 = n := by omega
  simp [getNat8, putNat8, getOctet, this, h1, h2]

theorem getNat16_putNat16 {lo hi n : Nat} (h1 : lo ≤ n) (h2 : n ≤ hi) (h3 : hi ≤ 65535)
    (l : List Byte) : getNat16 lo hi (putNat16 n ++ l) = some (n, l) := by
  have e1 : n / 256 % 256 = n / 256 := by omega
  have e2 : n / 256 * 256 + n % 256 = n := by omega
  simp [getNat16, putNat16, getOctet, e1, e2, h1, h2]

theorem getInt8_putInt8 {lo hi z : Int} (h1 : lo ≤ z) (h2 : z ≤ hi) (h3 : -128 ≤ lo) (h4 : hi ≤ 127)
    (l : List Byte) : getInt8 lo hi (putInt8 z ++ l) = some (z, l) := by
  have : (BitVec.ofInt 8 z).toInt = z := by
    rw [BitVec.toInt_ofInt]
    apply Int.bmod_eq_of_le <;> omega
  simp [getInt8, putInt8, getOctet, this, h1, h2]

theorem getFlag_putFlag (b : Bool) (l : List Byte) : getFlag (putFlag b ++ l) = some (b, l) := by
  cases b <;> simp [getFlag, putFlag, getOctet]

theorem getEnum_putEnum {α : Type} [DecidableEq α] {all : List α} {x : α} (h : x ∈ all)
    (h2 : all.length ≤ 256) (l : List Byte) : getEnum all (putEnum all x ++ l) = some (x, l) := by
  have hi : all.idxOf x < all.length := List.idxOf_lt_length_of_mem h
  have hm : all.idxOf x % 256 = all.idxOf x := by omega
  simp [getEnum, putEnum, getOctet, ofCodeIn, codeIn, hm, hi]

theorem getFin_putNat8 {n : Nat} (i : Fin n) (h : n ≤ 256) (l : List Byte) :
    getFin n (putNat8 i.val ++ l) = some (i, l) := by
  have := i.isLt
  have e : i.val % 256 = i.val := by omega
  simp [getFin, putNat8, getOctet, e]

theorem getOpt_putOpt {α : Type} {get : Reader α} {put : α → List Byte} (o : Option α)
    (h : ∀ x l, o = some x → get (put x ++ l) = some (x, l)) (l : List Byte) :
    getOpt get (putOpt put o ++ l) = some (o, l) := by
  cases o with
  | none => simp [getOpt, putOpt, getFlag, getOctet]
  | some x =>
    have := h x l rfl
    simp [getOpt, putOpt, getFlag, getOctet, this]

theorem getMany_flatMap {α : Type} {get : Reader α} {put : α → List Byte} (xs : List α)
    (h : ∀ x ∈ xs, ∀ l, get (put x ++ l) = some (x, l)) (l : List Byte) :
    getMany get xs.length (xs.flatMap put ++ l) = some (xs, l) := by
  induction xs with
  | nil => rfl
  | cons x xs ih =>
    have h1 := h x List.mem_cons_self (xs.flatMap put ++ l)
    have h2 := ih fun y hy => h y (List.mem_cons_of_mem _ hy)
    simp [getMany, h1, h2]

theorem toTable_toList {α : Type} {n : Nat} (t : Table α n) : toTable n t.toList = some t := by
  have : (Vector.toList t).toArray = t.toArray := Array.toArray_toList
  simp [toTable, this]

theorem getTable_flatMap {α : Type} {n : Nat} {get : Reader α} {put : α → List Byte} (t : Table α n)
    (h : ∀ x ∈ t.toList, ∀ l, get (put x ++ l) = some (x, l)) (l : List Byte) :
    getTable get n (t.toList.flatMap put ++ l) = some (t, l) := by
  have := getMany_flatMap t.toList h l
  simp only [Vector.length_toList] at this
  simp [getTable, this, toTable_toList]

/-- A payload that a field fills leaves nothing but an empty padding. -/
theorem readAll_of_get {α : Type} {get : Reader α} {x : α} {l : List Byte}
    (h : get l = some (x, [])) : readAll get l = some x := by
  simp [readAll, h, isPadding]

end Sys2Proof.Machine
end

