-- ==== Sys2Proof/Laws/Units.lean ====
section
/-! SUPPORT. What the operations shared by the units do, in closed form: the resume lock rule, the actions
of a metre, the plan's hand-on, the CANCELs of a teardown, a selection. -/

namespace Sys2Proof.Machine

/-! ### Store parity -/

/-- With no bad word a unit raises no fault. -/
theorem parityFaults_of_bad_nil {s : State} (h : s.bad = []) (u : UnitName) (reads : StoreWord → Bool)
    (effort : Option Int) : parityFaults s u reads effort = [] := by simp [parityFaults, h]

theorem meetsBad_of_bad_nil {s : State} (h : s.bad = []) (reads : StoreWord → Bool) :
    meetsBad s reads = false := by simp [meetsBad, h]

/-- With no bad word the lines' drives raise no fault. -/
theorem driveFaults_of_bad_nil {s : State} (h : s.bad = []) (x : Sdu) : driveFaults s x = [] :=
  parityFaults_of_bad_nil h _ _ _

/-- What a change of the sound unit can do: its state, the words it rewrites, and what is handed on. -/
theorem State.sound_eq (s : State) (x : Sdu) (out : List Instr) : s.sound x out = { s with
    sdu := x
    bad := s.bad.filter fun w => !(s.sdu.rewrote x w || notedWords (out ++ driveFaults s x) w)
    handed := s.handed ++ (out ++ driveFaults s x) } := rfl

/-- R19: the words of the last events that are noted with what a unit hands on. -/
theorem notedWords_iff {out : List Instr} {w : StoreWord} :
    notedWords out w = true ↔ ∃ c, Instr.noticeRaise c ∈ out ∧ lastEventWord c = some w := by
  simp only [notedWords, List.any_eq_true]
  constructor
  · rintro ⟨x, hx, h⟩
    split at h
    · exact ⟨_, hx, by simpa using h⟩
    · simp at h
  · rintro ⟨c, hc, h⟩
    exact ⟨_, hc, by simp [h]⟩

/-! ### Receiving (R129) -/

/-- R129: a telegram has met every test exactly where it has come to something, and not to an error. -/
theorem tested_eq_some {bits : List Bool} {r : Reception} :
    tested bits = some r ↔ received bits = some r ∧ ∀ k, r ≠ .error k := by
  unfold tested
  rcases received bits with _ | x
  · simp
  · constructor
    · intro h
      cases x <;> cases h <;> exact ⟨rfl, by simp⟩
    · rintro ⟨h, hk⟩
      cases h
      cases r
      case error k => exact absurd rfl (hk k)
      all_goals rfl

/-- R113: a desk that does not hold authority is given no alert. -/
theorem Rtu.deskState_of_not_held {desk : DeskState} {d : Desk} (h : deskHolder desk ≠ some d) (cfg : Settings)
    (u : Rtu) : Rtu.deskState desk cfg (.active d) u = [] := by simp [Rtu.deskState, h]

/-! ### Payloads -/

/-- Arguments of a command that takes none are read. -/
theorem readAll_nothing {args : List Byte} (h : NoArguments args) : readAll getNothing args = some () := by
  simpa [readAll, getNothing, NoArguments] using h

/-! ### Traction (R62) -/

/-- R62: the lock after an entry is set, as the rule says it. -/
theorem lock_iff_forced {desk : DeskState} {t : Tdu} {old new : CeilingEntry} :
    ((t.lock || (forcesLock old new && leverPositive desk t)) = true) ↔
      (t.lock = true ∨ LockForced desk t old new) := by
  unfold forcesLock leverPositive LockForced
  cases hd : deskHolder desk <;> simp [and_assoc, and_comm, and_left_comm]

/-- R60: what a change of the lock hands on. -/
theorem lockReport_eq (old new : Tdu) : lockReport old new = lockNews old.lock new.lock := rfl

/-! ### Location (R86, R87) -/

/-- R94: of a NOTIFY that fires and those after it the last one stands. -/
theorem notedAs_cons (x : Nat × BitVec 12 × ActionSpec) (xs : List (Nat × BitVec 12 × ActionSpec))
    (old : Option LocationEvent) :
    notedAs (x :: xs) old = notedAs xs (if x.2.2.action = .notify
      then some ⟨.notify, x.1, x.2.1.toNat, .notify⟩ else old) := by
  unfold notedAs
  by_cases h : x.2.2.action = .notify
  · rw [List.filter_cons_of_pos (by simp [h])]
    cases e : xs.filter fun x => x.2.2.action == .notify with
    | nil => simp [h]
    | cons y ys => rw [List.getLast?_cons_cons]; simp [List.getLast?_cons]
  · rw [List.filter_cons_of_neg (by simp [h])]
    simp [h]

/-- R86 step 3, R94: the actions that are due fire in list order, the first ARM_ROUTE opening the window and the
last NOTIFY becoming the last location event. -/
theorem fireDue_eq (cfg : Settings) (h : 0 < cfg.windowLength) : ∀ (as : List PendingAction) (l : Lcu),
    fireDue cfg as l =
      let due := as.filter fun a => decide (a.remaining ≤ 1)
      let fired := due.map fun a => deliveredAs a.entry a.beacon a.act
      ({ l with
          window := if due.any (fun a => a.act.action == .armRoute)
            then max l.window cfg.windowLength else l.window
          lastEvent := notedAs (due.map fun a => (a.entry, a.beacon, a.act)) l.lastEvent },
        if l.window = 0 then openingFirst fired else fired) := by
  intro as
  induction as with
  | nil => intro l; simp [fireDue, openingFirst, notedAs]
  | cons a as ih =>
    intro l
    by_cases ha : a.remaining ≤ 1
    · simp only [fireDue, ha, if_true, ih]
      obtain ⟨en, be, ⟨ac, j, p, m, pt⟩, r⟩ := a
      simp only at ha
      have : max l.window cfg.windowLength ≠ 0 := by omega
      cases ac <;>
        simp [Lcu.fire, ha, deliveredAs, openingFirst, windowIsOpen, this, notedAs_cons] <;>
        (by_cases hw : l.window = 0 <;> simp [hw])
    · simp [fireDue, ha, ih]

/-! ### Route plan (R112, R113, R118) -/

theorem contributing_eq (plan : List PlanEntry) :
    (plan.any fun e => contributes e.state) = contributing plan := by
  simp only [contributing]; congr 1; funext e; cases e.state <;> rfl

theorem holding_eq (plan : List PlanEntry) : anyHeld plan = holding plan := by
  simp only [anyHeld, holding]; congr 1; funext e; cases e.state <;> rfl

/-- R112: what a change of the plan hands on for the ceiling. -/
theorem guardHandOn_eq (creep : Int) (old new : List PlanEntry) :
    guardHandOn creep old new = guardNews creep old new := by
  simp only [guardHandOn, guardNews, guardEntry, contributing_eq, holding_eq, guardValue]
  cases contributing old <;> cases contributing new <;> simp

/-- R100, R112, R113: all that a change of entries hands on. -/
theorem planHandOn_eq (s : State) (became : Bool) (new : List PlanEntry) :
    planHandOn s.dau.state s.settings became s.rtu.plan new = planNews s became new := by
  simp only [planHandOn, planNews, guardHandOn_eq, alertHandOn, alertNews, addAlert, holding_eq]
    <;> cases deskHolder s.dau.state <;> rfl

/-- R118: CANCELs queued while the list has room, the rest dropped. -/
theorem queueCancels_eq (l : List Cancel) : ∀ u : Rtu, Rtu.queueCancels l u =
    ({ u with
        cancels := u.cancels ++ l.take (4 - u.cancels.length)
        exception := match (l.drop (4 - u.cancels.length)).getLast? with
          | some x => some (.telegramDiscarded, x.junction)
          | none => u.exception },
      (l.take (4 - u.cancels.length)).map (fun _ => .owedReport)
        ++ (l.drop (4 - u.cancels.length)).map (fun _ => .noticeRaise .telegramDiscarded)) := by
  induction l with
  | nil => intro u; simp [Rtu.queueCancels]
  | cons c l ih =>
    intro u
    simp only [Rtu.queueCancels, Rtu.queueCancel, Config.cancelCapacity]
    by_cases h : u.cancels.length < 4
    · obtain ⟨k, hk⟩ : ∃ k, 4 - u.cancels.length = k + 1 := ⟨3 - u.cancels.length, by omega⟩
      have e : 4 - (u.cancels ++ [c]).length = k := by simp; omega
      simp only [h, if_true, ih, e, hk]
      simp
    · have e : 4 - u.cancels.length = 0 := by omega
      simp only [h, if_false, ih, e]
      simp only [List.drop_zero, List.take_zero, List.map_nil, List.nil_append, List.map_cons]
      rcases hl : l.getLast? with _ | x
      · simp only [List.getLast?_eq_none_iff] at hl; subst hl; simp
      · cases l with
        | nil => simp at hl
        | cons a b => rw [List.getLast?_cons_cons, hl]; simp

/-! ### Selection (R133) -/

/-- R133: a selection changes the track link unit and the in-flight field of the route unit alone. -/
theorem attemptSelection_frame {s : State} (h : s.bad = []) :
    s.attemptSelection =
      { s with tlu := s.attemptSelection.tlu, rtu := s.attemptSelection.rtu } := by
  unfold State.attemptSelection
  split
  · split <;> simp [State.putTlu, State.putRtu, State.hand, parityFaults, h]
  · rfl

/-! ### Offers made one after the other (R167, R169) -/

@[simp] theorem Sdu.addAll_nil (cfg : Settings) (u : Sdu) : u.addAll cfg [] = (u, []) := rfl

@[simp] theorem Sdu.addAll_cons (cfg : Settings) (o : SoundOffer) (l : List SoundOffer) (u : Sdu) :
    u.addAll cfg (o :: l) =
      (((u.hardwareAdd cfg o.1 o.2.1 o.2.2).1.addAll cfg l).1,
        (u.hardwareAdd cfg o.1 o.2.1 o.2.2).2 ++ ((u.hardwareAdd cfg o.1 o.2.1 o.2.2).1.addAll cfg l).2) := rfl

theorem Sdu.addAll_append (cfg : Settings) (l m : List SoundOffer) (u : Sdu) :
    u.addAll cfg (l ++ m) =
      (((u.addAll cfg l).1.addAll cfg m).1, (u.addAll cfg l).2 ++ ((u.addAll cfg l).1.addAll cfg m).2) := by
  induction l generalizing u with
  | nil => rfl
  | cons o l ih => simp [ih]

/-- What the first offers read, and what the others read on the list that the first leave. -/
theorem offersReads_append (cfg : Settings) (l m : List SoundOffer) (u : Sdu) (w : StoreWord) :
    offersReads cfg (l ++ m) u w = (offersReads cfg l u w || offersReads cfg m (u.addAll cfg l).1 w) := by
  induction l generalizing u with
  | nil => rfl
  | cons o l ih => obtain ⟨src, snd, pattern⟩ := o; simp [offersReads, ih, Bool.or_assoc]

/-- A removal that finds no request reads the list alone. -/
theorem removeReads_of_none {cfg : Settings} {u : Sdu} {src : SoundSource} {snd : Sounder}
    (h : findRequest u.requests src snd = none) (w : StoreWord) : removeReads cfg u src snd w = listWords w := by
  simp [removeReads, h]

/-- An offer of an empty pattern reads the pattern alone. -/
theorem offerReads_of_empty {cfg : Settings} {u : Sdu} {q : SoundRequest}
    (h : u.patterns[q.pattern].steps = []) (w : StoreWord) : offerReads cfg u q w = patternWords q.pattern w := by
  rw [offerReads, h]
  simp

/-- A hardware add of an empty pattern stores no request. -/
theorem addWritten_of_empty {cfg : Settings} {u : Sdu} {src : SoundSource} {snd : Sounder} {pattern : Fin 16}
    (h : u.patterns[pattern].steps = []) (w : StoreWord) : addWritten cfg u src snd pattern w = false := by
  unfold addWritten
  rw [h]
  rfl

/-! ### Sound (R168) -/

theorem outranked_of_playing {u : Sdu} {snd : Sounder} {q : SoundRequest}
    (h : playingRequest u snd = some q)
    (hq : ∀ x ∈ u.requests, x.sounder = snd → x.priority ≤ q.priority) : Outranked u snd := by
  simpa [Outranked, h] using hq

theorem outranked_of_idle {u : Sdu} {snd : Sounder} (h : (player u snd).playing = none)
    (hq : ∀ x ∈ u.requests, x.sounder ≠ snd) : Outranked u snd := by
  simpa [Outranked, playingRequest, h] using hq

end Sys2Proof.Machine
end

