-- ==== Sys2Proof/Tests/Slice0.lean ====
section
/-! SUPPORT. Small tests: an ill-formed command for each check, telegrams and frames written out from the
manual's layouts, and for each statement a concrete state and operands that meet its hypotheses, clause by
clause. -/

namespace Sys2Proof.Machine.Test

/-! ### Well-formed commands -/

theorem test_guard_value_out_of_range : (Instr.pointGuardEntryChange true 101).wellFormed = false := by decide
theorem test_arm_junction_out_of_range : (Instr.armRoute 0).wellFormed = false := by decide
theorem test_clearance_junction_out_of_range : (Instr.clearance 4096).wellFormed = false := by decide
theorem test_guard_junction_out_of_range : (Instr.guardTimerExpiry 4096).wellFormed = false := by decide
theorem test_enter_platform_out_of_range : (Instr.stopZoneEnter 0 true).wellFormed = false := by decide
theorem test_leave_platform_out_of_range : (Instr.stopZoneLeave 256).wellFormed = false := by decide
theorem test_late_platform_out_of_range : (Instr.lateDecisionReport 256).wellFormed = false := by decide
theorem test_notify_entry_out_of_range : (Instr.notifyAction 16 0).wellFormed = false := by decide
theorem test_notify_beacon_out_of_range : (Instr.notifyAction 0 4096).wellFormed = false := by decide
theorem test_port_is_no_hardware_source : (Instr.hardwareSoundAdd .deskA .bell 0).wellFormed = false := by decide
theorem test_removal_of_a_port_source : (Instr.hardwareSoundRemove .supervisor .bell).wellFormed = false := by
  decide
theorem test_fault_without_a_source :
    (Instr.severeFault .storeParity .none .none false none).wellFormed = false := by decide
theorem test_fault_context_out_of_range :
    (Instr.severeFault .pointRunThrough .rtu (.junction 0) false none).wellFormed = false := by decide
theorem test_fault_effort_out_of_range :
    (Instr.severeFault .tractionLinkLost .tdu .none true (some (-101))).wellFormed = false := by decide
theorem test_boundaries_are_well_formed :
    ([.pointGuardEntryChange true (-100), .armRoute 4095, .clearance 1, .stopZoneEnter 255 false,
      .notifyAction 15 4095, .hardwareSoundAdd .lockdown .buzzerA 4,
      .severeFault .emergencyStop .lmu .none true (some 100)] : List Instr).all Instr.wellFormed = true := by
  decide

/-! ### Layouts (R191) -/

/-- The CRC-8 of the octets 1 to 9 in ASCII is 0xF4, the polynomial's published check value. -/
theorem test_crc8_check_value : crc8 [0x31, 0x32, 0x33, 0x34, 0x35, 0x36, 0x37, 0x38, 0x39] = 0xF4 := by decide +kernel

/-- A beacon of identity 5, bit by bit: two bursts, 0x41, 0x00, 0x05 and the check octet with a 1 sent as
silence, the stop marker. -/
theorem test_beacon_heard :
    receive ([true, true] ++ [true, false, true, true, true, true, true, false]
      ++ [true, true, true, true, true, true, true, true] ++ [true, true, true, true, true, false, true, false]
      ++ (octetBits (crc8 [0x41, 0x00, 0x05])).map (fun b => !b) ++ [true, false]) = .beacon 5 := by decide +kernel

/-- Junction 18, code 5, LOCKED, run 3: 18 * 16 + 5 * 2 is 0x012A. -/
theorem test_point_state_heard :
    receive (telegramCarrier [0x42, 0x01, 0x2A, 0x01, 0x03, crc8 [0x42, 0x01, 0x2A, 0x01, 0x03]])
      = .pointState 18 5 .locked 3 := by decide +kernel

theorem test_status_frame : parseStatus [0x83, 0xEC, crc8 [0x83, 0xEC]] = some ⟨3, -20, true⟩ := by decide +kernel

theorem test_read_frame : parseFrame [1, 0, 0x0C, 0xFF, 0, crc8 [1, 0, 0x0C, 0xFF, 0]] = some (.read 0x0C 0xFF) := by
  decide +kernel

/-- Arguments are read with up to seven octets of padding and in their ranges alone (R191). -/
theorem test_short_arguments :
    readAll getCeilingArgs ([1, 0x9C] ++ List.replicate 7 0) = some (true, -100) ∧
    readAll getCeilingArgs [1, 0x9B] = none ∧ readAll getCodeArgs [0x0F, 0xFF, 7] = some (4095, 7) ∧
    readAll getCodeArgs [0x0F, 0xFF, 8] = none ∧ readAll getJunction [0, 0] = none ∧
    readAll (getEnum allSounders) [4] = some .chime ∧ readAll (getEnum stopKindList) [2] = none ∧
    readAll getCauses [0x80, 1] = some 0x8001 ∧ readAll getNothing (List.replicate 8 0) = none := by decide

theorem test_command_frame :
    parseFrame [4, 1, 0x41, 0, 0, crc8 [4, 1, 0x41, 0, 0]] = some (.command true 0x41 []) := by decide +kernel

/-! ### States -/

/-- The part in SERVICE. -/
def svc : State := { State.reset with rst := { State.reset.rst with mode := .service } }

/-- Desk A active, its key seen. -/
def deskA : State := { svc with dau := ⟨.active .a, .none, ⟨true, false⟩, .claimed, .standstill⟩ }

/-- A plan entry with a state and a count of transmissions. -/
def entry (j : Nat) (st : EntryState) (sent : Nat) : PlanEntry :=
  ⟨j, 3, some 7, 1, .deskA, st, 0, false, sent, none, none⟩

/-- A state of the route unit at desk A, the window open as it sees it where some of it remains. -/
def planned (plan : List PlanEntry) (window : Nat) (cancels : List Cancel) (f : Option InFlight) : State :=
  { deskA with
    rtu := ⟨plan, cancels, f, none, 0, decide (0 < window)⟩
    lcu := { deskA.lcu with window := window } }

def readyB (s : State) (p : Port) (r : Request) : Bool :=
  s.handed.isEmpty && (s.pif.get p).waiting.isNone && arbiterChoice (s.withRequest p r) == some p
    && !meetsBad s (storeReads (s.withRequest p r) p r)

theorem ready {s : State} {p : Port} {r : Request} (h : readyB s p r = true) : Ready s p r := by
  simp only [readyB, Bool.and_eq_true, List.isEmpty_iff, Option.isNone_iff_eq_none, beq_iff_eq,
    Bool.not_eq_true'] at h
  exact ⟨h.1.1.2, h.1.2, fun c hm => by simp [h.1.1.1] at hm, h.2⟩

def reachesB (s : State) (p : Port) (cond : Bool) (c : CommandName) (args : List Byte) : Bool :=
  readyB s p (.command cond (commandCode c) args) && (!cond || s.rst.slots.get p == some (commandTarget c))
    && modeAdmits s.rst.mode (commandTarget c) && mayCommand s.dau.state p c

theorem reaches {s : State} {p : Port} {cond : Bool} {c : CommandName} {args : List Byte}
    (h : reachesB s p cond c args = true) : CommandReaches s p cond c args := by
  simp only [reachesB, Bool.and_eq_true, Bool.or_eq_true, Bool.not_eq_true', beq_iff_eq] at h
  refine ⟨ready h.1.1.1, fun hc => ?_, h.1.2, h.2⟩
  exact h.1.1.2.resolve_left (by simp [hc])

def writesB (s : State) (p : Port) (cond : Bool) (r : Record) (index : Byte) (contents : List Byte) : Bool :=
  readyB s p (.write cond (recordCode r) index contents) && (!cond || s.rst.slots.get p == some r)
    && modeAdmits s.rst.mode r && mayWrite s.dau.state p r

theorem writes {s : State} {p : Port} {cond : Bool} {r : Record} {index : Byte} {contents : List Byte}
    (h : writesB s p cond r index contents = true) : WriteReaches s p cond r index contents := by
  simp only [writesB, Bool.and_eq_true, Bool.or_eq_true, Bool.not_eq_true', beq_iff_eq] at h
  refine ⟨ready h.1.1.1, fun hc => ?_, h.1.2, h.2⟩
  exact h.1.1.2.resolve_left (by simp [hc])

theorem carries (fields : List Byte) : Carries fields fields := ⟨[], by decide, by simp⟩

/-! ### Ports and store (chapters 1 and 11) -/

def waitingNull : State := State.reset.withRequest .deskA .null

theorem witness_queue :
    ({ State.reset with handed := [.tachPulse] } : State).pending = [] ∧
    arbiterChoice waitingNull = some .deskA ∧ (waitingNull.pif.get .deskA).waiting = some .null ∧
    (∀ p, (State.reset.pif.get p).waiting = none) := by
  exact ⟨rfl, by decide, rfl, fun p => by cases p <;> rfl⟩

theorem witness_transaction :
    (waitingNull.pif.get .deskA).waiting = some .null ∧ (State.reset.pif.get .deskA).waiting = none ∧
    parseFrame [0, 0, 0, 0, 0, 0] = some .null ∧ parseFrame [5, 0, 0, 0, 0, 0x2B] = none ∧ parseFrame [] = none :=
  ⟨rfl, rfl, by decide +kernel, by decide, by decide⟩

/-- A frame with one block of payload. -/
theorem test_frame_with_a_payload :
    parseFrame ([3, 1, 0x0C, 0xFF, 1, 0, 5, 9, 0, 0, 0, 0, 0]
      ++ [crc8 [3, 1, 0x0C, 0xFF, 1, 0, 5, 9, 0, 0, 0, 0, 0]])
      = some (.write true 0x0C 0xFF [0, 5, 9, 0, 0, 0, 0, 0]) := by decide +kernel

theorem witness_arbiter :
    Ready State.reset .supervisor .null ∧
    (isWaiting (State.reset.withRequest .supervisor .null) .supervisor = true ∧
      (2 : Nat) ≤ ({ State.reset with rst := { State.reset.rst with passOver := 2 } } : State).rst.passOver) ∧
    isWaiting State.reset .supervisor = false ∧ deskHolder deskA.dau.state = some .a ∧
    deskHolder (.releasing .b) = some .b ∧ deskHolder State.reset.dau.state = none ∧
    arbiterChoice ((State.reset.withRequest .supervisor .null).withRequest .deskA .null) ≠ some .deskA :=
  ⟨ready (by decide), ⟨rfl, by decide⟩, rfl, rfl, rfl, rfl, by decide⟩

/-- A Supervisor request that comes in within the service of desk A's request is passed over once, and a second
one within it no more. -/
theorem test_request_within_a_service :
    (match exec (.portTransaction .supervisor ⟨[0, 0, 0, 0, 0, 0], true⟩)
        { State.reset with rst := { State.reset.rst with passOver := 3, served := some .deskA } } with
     | .next t => t.rst.passOver == 4 && t.rst.served == none
     | .fault _ => false
     | .refused _ => false) = true := by decide +kernel

def badVehicle : State := { State.reset with bad := [.field .vehicle 0] }

theorem witness_reads :
    (Ready State.reset .deskA (.readReserve (recordCode .vehicle) 0xFF) ∧ reservable .vehicle = true ∧
      readView State.reset .deskA .vehicle 0xFF = some [0, 1, 1] ∧
      meetsBad State.reset (readWords State.reset .deskA .vehicle 0xFF) = false) ∧
    (Ready State.reset .deskA (.readReserve (recordCode .mode) 0xFF) ∧ reservable .mode = false) ∧
    (Ready State.reset .deskA (.readReserve (recordCode .cells) 16) ∧
      readView State.reset .deskA .cells 16 = none ∧ (readView State.reset .deskA .cells 15).isSome) ∧
    (Ready State.reset .deskA (.readReserve 0 0) ∧ recordOfCode 0 = none ∧ recordOfCode 20 = none) ∧
    (Ready badVehicle .deskA (.readReserve (recordCode .vehicle) 0xFF) ∧
      readView badVehicle .deskA .vehicle 0xFF = some [0, 1, 1] ∧
      meetsBad badVehicle (readWords badVehicle .deskA .vehicle 0xFF) = true) ∧
    (Ready State.reset .deskB (.read (recordCode .notices) 0xFF) ∧
      meetsBad State.reset (readWords State.reset .deskB .notices 0xFF) = false) ∧
    (let s : State := { State.reset with bad := [.notice .deskB 2] }
     Ready s .deskB (.read (recordCode .notices) 0xFF) ∧
      meetsBad s (readWords s .deskB .notices 0xFF) = true) ∧
    Ready State.reset .deskB (.read (recordCode .notices) 0) :=
  ⟨⟨ready (by decide), rfl, by decide, by decide⟩, ⟨ready (by decide), rfl⟩,
    ⟨ready (by decide), by decide, by decide⟩, ⟨ready (by decide), by decide, by decide⟩,
    ⟨ready (by decide), by decide, by decide⟩, ⟨ready (by decide), by decide⟩, ⟨ready (by decide), by decide⟩,
    ready (by decide)⟩

theorem nothingOutstanding {s : State} (h : s.handed = []) : teardownDone s := fun c hm => by simp [h] at hm

/-- A state with desk A's request waiting. -/
def asking (s : State) (r : Request) : State := s.withRequest .deskA r

theorem witness_plain_reads :
    (let s := asking badVehicle (.read (recordCode .fault) 0xFF)
     teardownDone s ∧ (s.pif.get .deskA).waiting = some (.read (recordCode .fault) 0xFF) ∧
      meetsBad s (storeReads s .deskA (.read (recordCode .fault) 0xFF)) = false ∧
      (readView s .deskA .fault 0xFF).isSome ∧ meetsBad s (readWords s .deskA .fault 0xFF) = false ∧
      meetsBad s (readWords s .deskA .vehicle 0xFF) = true ∧ readView s .deskA .fault 0 = none) ∧
    (let s := asking badVehicle (.read 20 0)
     teardownDone s ∧ (s.pif.get .deskA).waiting = some (.read 20 0) ∧
      meetsBad s (storeReads s .deskA (.read 20 0)) = false ∧ recordOfCode 20 = none) :=
  ⟨⟨nothingOutstanding rfl, rfl, by decide, by decide, by decide, by decide, by decide⟩,
    nothingOutstanding rfl, rfl, by decide, by decide⟩

/-- Two bad words of a record refuse the read, and raise one fault (R19). -/
theorem test_one_fault_for_a_refused_read :
    (match exec (.readReserve .deskA (recordCode .vehicle) 0xFF)
        { State.reset with bad := [.field .vehicle 0, .field .vehicle 1] } with
     | .next t => t.handed == [.severeFault .storeParity .rst (.record .vehicle) false none]
         && (t.pif.get .deskA).response == ⟨.refused, .storeError, []⟩
     | .fault _ => false
     | .refused _ => false) = true := by decide +kernel

/-- A VEHICLE write by the Supervisor with the numbers at their top. -/
theorem test_vehicle_write :
    (match exec (.recordWrite .supervisor false (recordCode .vehicle) 0xFF [3, 0xE7, 99]) State.reset with
     | .next t => t.rst.vehicle == ⟨999, 99⟩ && (t.pif.get .supervisor).response.status == .done
     | .fault _ => false
     | .refused _ => false) = true := by decide

theorem witness_whole_writes :
    ((⟨999, 99⟩ : Vehicle).ok = true ∧ Carries [3, 0xE7, 99] (putVehicle ⟨999, 99⟩) ∧
      WriteReaches State.reset .supervisor false .vehicle 0xFF [3, 0xE7, 99]) ∧
    (Settings.reset.ok = true ∧
      WriteReaches State.reset .supervisor false .settings 0xFF (putSettings Settings.reset) ∧
      State.reset.dau.state = .noDesk ∧ meetsBad State.reset (ceilingWords .noDesk) = false) :=
  ⟨⟨by decide, carries _, writes (by decide)⟩, ⟨by decide, writes (by decide), rfl, by decide⟩⟩

/-- The table a write of one entry asks for. -/
theorem one_entry {α : Type} {n : Nat} (put : α → List Byte) (ok : α → Bool) (old : Table α n) (i : Fin n)
    (e : α) (h : ok e = true) :
    TableWrite put ok old (old.set i e) (BitVec.ofNat 8 i.val) (put e) :=
  .inl ⟨i, e, rfl, carries _, h, rfl⟩

/-- A table whose cells read no cell has no cycle. -/
theorem acyclic_of_no_reads {t : Table CellEntry 16} (h : ∀ c : Fin 16, cellReads t[c] = []) : ¬ Cyclic t := by
  rintro ⟨c, hc⟩
  have hno : ∀ x y, ¬ Reads t x y := fun x y hr => by rw [Reads, h x] at hr; simp at hr
  cases hc with
  | single hr => exact hno _ _ hr
  | tail _ hr => exact hno _ _ hr

def tach : LineEntry := { LineEntry.reset with group := .tachInput }

def oneTach : State :=
  { State.reset with
    lmu := { State.reset.lmu with
      written := { State.reset.lmu.written with lines := State.reset.lmu.written.lines.set 0 tach } } }

def selfCell : CellEntry := { CellEntry.reset with a := .cell 3 }

theorem witness_table_writes :
    (WriteReaches State.reset .supervisor false .lines 31 (putLine tach) ∧
      TableWrite putLine LineEntry.ok State.reset.lmu.written.lines
        (State.reset.lmu.written.lines.set 31 tach) 31 (putLine tach) ∧
      ¬ TwoTachs (State.reset.lmu.written.lines.set 31 tach) ∧
      meetsBad State.reset (otherEntries .lines 31) = false) ∧
    (WriteReaches State.reset .supervisor false .cells 15 (putCell CellEntry.reset) ∧
      ¬ Cyclic State.reset.lmu.written.cells) ∧
    WriteReaches State.reset .supervisor false .permits 8 (putPermit ⟨.fixedTrue, true⟩) ∧
    WriteReaches State.reset .supervisor false .locations 15 (putLocation LocationEntry.reset) ∧
    (WriteReaches State.reset .supervisor false .patterns 15 (putPattern ⟨[⟨2550, 0⟩], 15⟩) ∧
      (⟨[⟨2550, 0⟩], 15⟩ : Pattern).ok = true) := by
  refine ⟨⟨writes (by decide), one_entry putLine LineEntry.ok _ 31 tach (by decide), ?_, by decide⟩,
    ⟨writes (by decide), acyclic_of_no_reads (by decide)⟩, writes (by decide), writes (by decide),
    writes (by decide), by decide⟩
  rintro ⟨i, j, hne, hi, hj⟩
  have key : ∀ k : Fin 32, (State.reset.lmu.written.lines.set 31 tach)[k].group = .tachInput → k = 31 := by decide
  exact hne ((key i hi).trans (key j hj).symm)

/-- A bad word of another entry: the write is taken and raises the fault, or is refused and raises none. -/
theorem test_write_beside_a_bad_entry :
    (let s : State := { oneTach with bad := [.entry .lines 5 0, .entry .lines 1 0] }
     match exec (.linesWrite .supervisor false 1 (putLine LineEntry.reset)) s,
       exec (.linesWrite .supervisor false 1 (putLine tach)) s with
     | .next t, .next u => t.bad == [.entry .lines 5 0] && t.handed.length == 1 && u.handed == []
         && u.bad == s.bad
     | _, _ => false) = true := by decide +kernel

theorem witness_refused_tables :
    (WriteReaches oneTach .supervisor false .lines 1 (putLine tach) ∧
      TwoTachs (oneTach.lmu.written.lines.set 1 tach)) ∧
    (WriteReaches State.reset .supervisor false .cells 3 (putCell selfCell) ∧
      Cyclic (State.reset.lmu.written.cells.set 3 selfCell)) ∧
    WriteReaches State.reset .supervisor false .patterns 6 (putPattern ⟨[⟨0, 0⟩], 1⟩) ∧
    (CommandReaches deskA .deskA false .stopSet [2] ∧ ¬ ArgumentsFit [2] .stopSet) ∧
    (WriteReaches State.reset .supervisor false .vehicle 0 [0, 1, 1] ∧
      ¬ ContentsFit State.reset 0 [0, 1, 1] .vehicle) := by
  refine ⟨⟨writes (by decide), 0, 1, by decide, by decide, by decide⟩,
    ⟨writes (by decide), 3, .single (by simp [Reads]; decide)⟩, writes (by decide),
    ⟨reaches (by decide), ?_⟩, ⟨writes (by decide), ?_⟩⟩
  · rintro ⟨k, pad, _, h⟩
    cases k <;> simp [putEnum, codeIn, stopKindList] at h
  · rintro ⟨h, _⟩
    exact absurd h (by decide)

theorem witness_demand :
    (⟨100, .neutral⟩ : Demand).ok = true ∧ (⟨-100, .reverse⟩ : Demand).ok = true ∧
    WriteReaches deskA .deskA false .demandA 0xFF (putDemand ⟨100, .neutral⟩) ∧
    WriteReaches deskA .deskA false .demandA 0xFF (putDemand ⟨-100, .reverse⟩) ∧
    selectorDirection .reverse = some .reverse ∧ deskA.tdu.taken ≠ some .reverse ∧
    deskA.tdu.motion = .standstill ∧
    (let s : State := { deskA with tdu := { deskA.tdu with motion := .moving, taken := some .forward } }
     WriteReaches s .deskA false .demandA 0xFF (putDemand ⟨-100, .reverse⟩) ∧ s.tdu.taken ≠ some .reverse ∧
      s.tdu.motion = .moving) :=
  ⟨by decide, by decide, writes (by decide), writes (by decide), rfl, by decide, rfl, writes (by decide), by decide,
    rfl⟩

theorem witness_checks :
    (Ready State.reset .deskA (.write true 0 0 []) ∧ recordOfCode 0 = none) ∧
    (Ready State.reset .deskA (.write true (recordCode .vehicle) 0xFF []) ∧
      State.reset.rst.slots.get .deskA ≠ some .vehicle) ∧
    (Ready svc .supervisor (.write false (recordCode .settings) 0xFF []) ∧
      modeAdmits svc.rst.mode .settings = false) ∧
    (Ready State.reset .deskA (.write false (recordCode .vehicle) 0xFF []) ∧
      modeAdmits State.reset.rst.mode .vehicle = true ∧ mayWrite State.reset.dau.state .deskA .vehicle = false) ∧
    Ready State.reset .deskA (.command true (commandCode .deskClaim) []) ∧
    modeAdmits State.reset.rst.mode (commandTarget .deskClaim) = false ∧
    (Ready svc .supervisor (.command false (commandCode .deskClaim) []) ∧
      mayCommand svc.dau.state .supervisor .deskClaim = false) ∧
    (let s := asking svc (.command true 0xFF [])
     teardownDone s ∧ (s.pif.get .deskA).waiting = some (.command true 0xFF []) ∧
      meetsBad s (storeReads s .deskA (.command true 0xFF [])) = false ∧ ∀ c, commandCode c ≠ 0xFF) :=
  ⟨⟨ready (by decide), by decide⟩, ⟨ready (by decide), by decide⟩, ⟨ready (by decide), by decide⟩,
    ⟨ready (by decide), by decide, by decide⟩, ready (by decide), by decide, ⟨ready (by decide), by decide⟩,
    nothingOutstanding rfl, rfl, by decide, fun c => by cases c <;> decide⟩

theorem test_structural_change_empties_the_slots :
    (match exec (.structuralChangeReport .plan)
        { State.reset with rst := { State.reset.rst with slots := ⟨some .plan, some .stops, some .plan⟩ } } with
     | .next t => t.rst.slots == ⟨none, some .stops, none⟩
     | .fault _ => false
     | .refused _ => false) = true := by decide

/-! ### Desk authority (chapter 2) -/

def keyedA : State := { svc with dau := { svc.dau with keySeen := ⟨true, false⟩ } }

theorem witness_desk_commands :
    NoArguments [] ∧
    (CommandReaches keyedA .deskA false .deskClaim [] ∧ meetsBad keyedA deskWords = false ∧
      keyedA.dau.state = .noDesk ∧ keyedA.dau.keySeen.get .a = true ∧ keyedA.dau.keySeen.get .b = false ∧
      keyedA.dau.motion = .standstill) ∧
    (CommandReaches keyedA .deskB false .deskClaim [] ∧ keyedA.dau.keySeen.get .b = false) ∧
    (CommandReaches deskA .deskA false .deskRelease [] ∧ meetsBad deskA (releaseReads .a) = false ∧
      deskHolder deskA.dau.state = some .a ∧ (deskA.tdu.demand.get .a).lever ≤ 0) ∧
    CommandReaches deskA .deskB false .deskRelease [] ∧
    CommandReaches deskA .supervisor false .deskForceRelease [] ∧
    (CommandReaches svc .supervisor false .deskForceRelease [] ∧ deskHolder svc.dau.state = none) :=
  ⟨rfl, ⟨reaches (by decide), by decide, rfl, rfl, rfl, rfl⟩, ⟨reaches (by decide), rfl⟩,
    ⟨reaches (by decide), by decide, rfl, by decide⟩, reaches (by decide), reaches (by decide),
    reaches (by decide), rfl⟩

theorem test_desk_claim :
    (match exec (.deskClaim .deskA false []) keyedA with
     | .next t => t.dau.state == .active .a && (t.pif.get .deskA).response.status == .done
     | .fault _ => false
     | .refused _ => false) = true := by decide

def movingA : State := { deskA with dau := { deskA.dau with motion := .moving } }

theorem witness_key_events :
    (movingA.dau.state = .active .a ∧ movingA.dau.motion ≠ .standstill) ∧
    (deskA.dau.state = .active .a ∧ deskA.dau.motion = .standstill) ∧
    deskA.dau.state = .active (otherDesk .b) := ⟨⟨rfl, by decide⟩, ⟨rfl, rfl⟩, rfl⟩

def releasingA : State := { movingA with dau := { movingA.dau with state := .releasing .a } }

theorem witness_standstill :
    releasingA.dau.state = .releasing .a ∧ ∀ d, deskA.dau.state ≠ .releasing d := by
  exact ⟨rfl, fun d => by simp [deskA]⟩

theorem witness_authority_step :
    (∃ t, step { movingA with pending := [.keyPermitEvent .a false] } = .next t ∧
      deskHolder t.dau.state = some .a) ∧
    ∃ t, step { keyedA with pending := [.deskClaim .deskA false []] } = .next t ∧ t.dau.state = .active .a :=
  ⟨⟨_, rfl, by decide⟩, ⟨_, rfl, by decide⟩⟩

/-! ### Lines and matrix (chapter 3) -/

/-- Line 31 of this group and debounce, active. -/
def lineOf (g : LineGroup) (ms : Nat) : State :=
  { State.reset with
    lmu := { State.reset.lmu with
      active := { State.reset.lmu.active with
        lines := State.reset.lmu.active.lines.set 31 { LineEntry.reset with group := g, debounce := ms } }
      debounce := State.reset.lmu.debounce.set 31 (some ms)
      delay := State.reset.lmu.delay.set 15 (some 10) } }

theorem witness_lines :
    ((lineOf .plainInput 0).lmu.active.lines[(31 : Fin 32)].group = .plainInput ∧
      (lineOf .plainInput 0).lmu.active.lines[(31 : Fin 32)].debounce = 0 ∧
      (lineOf .plainInput 0).lmu.taken[(31 : Fin 32)] ≠ true ∧ (lineOf .plainInput 0).lmu.raw[(31 : Fin 32)] ≠ true) ∧
    0 < (lineOf .plainInput 100).lmu.active.lines[(31 : Fin 32)].debounce ∧
    (lineOf .tachInput 0).lmu.active.lines[(31 : Fin 32)].group = .tachInput ∧
    (lineOf .cellOutput 0).lmu.active.lines[(31 : Fin 32)].group ≠ .plainInput ∧
    (lineOf .plainInput 7).lmu.debounce[(31 : Fin 32)] = some 7 ∧ State.reset.lmu.debounce[(31 : Fin 32)] = none ∧
    (lineOf .plainInput 7).lmu.delay[(15 : Fin 16)] = some 10 ∧ State.reset.lmu.delay[(15 : Fin 16)] = none ∧
    conditionValue State.reset.lmu .standstill ≠ false ∧ conditionValue State.reset.lmu .lockdown = false := by
  decide

theorem witness_acyclic : ¬ Cyclic State.reset.lmu.active.cells := acyclic_of_no_reads (by decide)

theorem test_tach_level_is_a_pulse :
    (match exec (.rawLevelChange 31 true) (lineOf .tachInput 0) with
     | .next t => t.handed == [.tachPulse]
     | .fault _ => false
     | .refused _ => false) = true := by decide

theorem witness_outputs :
    (lineOf .stateOutput 0).lmu.active.lines[(31 : Fin 32)].stateFn = .emergencyBrake ∧
    (lineOf .stateOutput 0).lmu.active.lines[(31 : Fin 32)].group = .stateOutput ∧
    (lineOf .unused 0).lmu.active.lines[(31 : Fin 32)].group = .unused ∧
    (lineOf .sounderOutput 0).lmu.active.lines[(31 : Fin 32)].group = .sounderOutput := by decide

/-! ### Traction (chapter 4) -/

/-- In lockdown, with the entry it holds. -/
def heldTdu : State :=
  { State.reset with
    tdu := { State.reset.tdu with
      lockView := .held, ceilings := State.reset.tdu.ceilings.set 8 ⟨true, -100⟩ } }

theorem witness_ceilings :
    (∀ i : Fin 9, State.reset.tdu.ceilings[i].value ≤ 100) ∧
    (∃ i : Fin 9, State.reset.tdu.ceilings[i].active = true) ∧
    withinInt (-100) 100 100 = true ∧ withinInt (-100) 100 (-100) = true ∧
    CommandReaches State.reset .supervisor false .supervisorCeiling (putFlag true ++ putInt8 (-100)) :=
  ⟨by decide, ⟨0, by decide⟩, by decide, by decide, reaches (by decide)⟩

/-- A SUPERVISOR_CEILING that changes its entry and not the lock leaves the other ports' reservations (R14, R60); one
that sets the lock empties them (R12). -/
theorem test_supervisor_ceiling_and_the_slots :
    ([0, 50].map fun lever =>
      let s := { deskA with
        rst := { deskA.rst with slots := ⟨some .ceilings, none, some .ceilings⟩ }
        tdu := { deskA.tdu with demand := ⟨⟨lever, .forward⟩, ⟨0, .neutral⟩⟩ } }
      let t := s.after (exec (.supervisorCeiling .supervisor false (putFlag true ++ putInt8 (-5))) s)
      (t.rst.slots, t.tdu.ceilings[7]))
    = [(⟨some .ceilings, none, some .ceilings⟩, ⟨true, -5⟩), (⟨none, none, some .ceilings⟩, ⟨true, -5⟩)] := by decide

theorem witness_inactive_ceilings :
    ∀ i : Fin 9, (Vector.replicate 9 (⟨false, 0⟩ : CeilingEntry))[i].active = false := by decide

theorem tractionOk_held : TractionOk heldTdu :=
  ⟨by decide, fun d => by cases d <;> decide, by decide, by decide, by decide, by decide, by decide, by decide,
    by decide, by decide⟩

theorem witness_frame_in_lockdown :
    (∃ t, exec .frameTimerExpiry heldTdu = .next t) ∧ TractionOk heldTdu ∧ heldTdu.tdu.lockView = .held :=
  ⟨⟨_, rfl⟩, tractionOk_held, rfl⟩

theorem test_lockdown_frame :
    (match exec .frameTimerExpiry heldTdu with
     | .next t => t.tdu.lastFrame == some ⟨.emergency, -100, .none, 0⟩ && t.tdu.nextSeq == 1
     | .fault _ => false
     | .refused _ => false) = true := by decide

theorem witness_traction_step :
    TractionOk heldTdu ∧ GuardValuesOk { heldTdu with pending := [.pointGuardEntryChange true (-100)] } ∧
    ∃ t, step { heldTdu with pending := [.pointGuardEntryChange true (-100)] } = .next t := by
  refine ⟨tractionOk_held, fun a v h => ?_, ⟨_, rfl⟩⟩
  have : v = -100 := by simp [heldTdu, State.reset] at h; exact h.2
  rw [this]; decide

def linked : State := { State.reset with tdu := { State.reset.tdu with recent := [3] } }

theorem witness_status :
    parseStatus [0x83, 0x9C, crc8 [0x83, 0x9C]] = some ⟨3, -100, true⟩ ∧ (3 : BitVec 4) ∈ linked.tdu.recent ∧
    ∀ r, parseStatus [0x84, 0, 0] = some r → r.echo ∉ linked.tdu.recent := by
  refine ⟨by decide +kernel, by decide, fun r h => ?_⟩
  have : parseStatus [0x84, 0, 0] = none := by decide +kernel
  rw [this] at h
  cases h

/-- The supervision in this state, with its timers running, desk A active. -/
def watched (v : Vigilance) : State :=
  { deskA with
    tdu := { deskA.tdu with vigilance := v, graceTimer := some 2500, staleTimer := some 500 } }

theorem witness_supervision :
    (deskA.dau.state = .active .a ∧ (watched .off).tdu.vigilance = .off) ∧
    ((∀ e, State.reset.dau.state ≠ .active e) ∨ State.reset.tdu.vigilance ≠ .off) ∧
    ((watched .warning).tdu.graceTimer ≠ none ∧ (watched .warning).tdu.vigilance = .warning) ∧
    ((watched .held).tdu.graceTimer = none ∨ (watched .held).tdu.vigilance ≠ .warning) ∧
    (watched .off).tdu.staleTimer ≠ none ∧ State.reset.tdu.staleTimer = none ∧
    deskHolder State.reset.dau.state = none ∧
    (deskHolder deskA.dau.state = some .a ∧ (deskA.tdu.demand.get .a).selector = .neutral) ∧
    selectorDirection .forward = some .forward :=
  ⟨⟨rfl, rfl⟩, .inl (fun e => by simp [State.reset]), ⟨by decide, rfl⟩, .inr (by decide), by decide, rfl, rfl,
    ⟨rfl, rfl⟩, rfl⟩

theorem test_grace_expiry_enters_penalty :
    (match exec .graceTimerExpiry (watched .warning) with
     | .next t => t.tdu.vigilance == .penalty && t.handed == [.noticeRaise .vigilance]
     | .fault _ => false
     | .refused _ => false) = true := by decide

/-! ### Location (chapter 5) -/

theorem witness_motion :
    0 < State.reset.settings.windowLength ∧ State.reset.lcu.standstillTimer = none ∧
    (({ State.reset.lcu with standstillTimer := some 1500, motion := .moving } : Lcu).standstillTimer ≠ none) ∧
    State.reset.lcu.motion = .standstill := by decide

/-- The receiver at the last sample point of a telegram's silent bit period. -/
def ending (octets : List Byte) : Tlu :=
  { State.reset.tlu with receiver := .receiving, wait := 1, bits := telegramCarrier octets }

/-- An entry that answers every beacon, and arms a route at once. -/
def located : State :=
  { State.reset with
    lcu := { State.reset.lcu with
      table := State.reset.lcu.table.set 15 ⟨true, 5, 0xFFF, .either, 0, ⟨.armRoute, 18, 1, false, 1⟩⟩ }
    tlu := ending (beaconOctets 5) }

theorem witness_beacon :
    0 < located.settings.windowLength ∧ located.tlu.receiver = .receiving ∧ located.tlu.wait ≤ 1 ∧
    received located.tlu.bits = some (.beacon 5) := by decide +kernel

theorem test_beacon_arms_a_route :
    (match exec (.beaconTelegram [false]) located with
     | .next t => t.handed == [.windowOpen, .armRoute 18] && t.lcu.window == 15
         && t.tlu.receiver == .recovering
     | .fault _ => false
     | .refused _ => false) = true := by decide +kernel

/-- A NOTIFY that fires at entry 2 gives way to the drop of entry 5: the order of the index. -/
theorem test_drop_after_a_notify_is_the_last_event :
    (let bell : LocationEntry := ⟨true, 5, 0xFFF, .either, 9, ⟨.bell, 1, 1, false, 1⟩⟩
     let note : LocationEntry := ⟨true, 5, 0xFFF, .either, 0, ⟨.notify, 1, 1, false, 1⟩⟩
     let s := { located with lcu := { located.lcu with
       table := (State.reset.lcu.table.set 2 note).set 5 bell
       actions := List.replicate 8 ⟨0, 0, bell.act, 1⟩ } }
     match exec (.beaconTelegram [false]) s with
     | .next t => t.lcu.lastEvent == some ⟨.overflow, 5, 5, .bell⟩ && t.lcu.actions.length == 8
     | .fault _ => false
     | .refused _ => false) = true := by decide +kernel

/-! ### Route plan (chapter 6) -/

def full : List PlanEntry := (List.range 12).map fun k => entry (k + 1) .queued 0

def insert18 : InsertArgs := ⟨0, 18, 7, none, 3⟩

theorem witness_route_insert :
    insert18.ok = true ∧
    (⟨12, 18, 7, none, 3⟩ : InsertArgs).ok = true ∧ (planned [] 0 [] none).rtu.plan.length < 12 ∧
    CommandReaches (planned [entry 18 .queued 0] 0 [] none) .deskA false .routeInsert (putInsertArgs insert18) ∧
    (∃ e ∈ (planned [entry 18 .queued 0] 0 [] none).rtu.plan, e.junction = 18) ∧
    (12 ≤ full.length ∧ ∀ e ∈ full, e.junction ≠ 18) ∧
    (CommandReaches (planned [] 0 [⟨18, 3⟩] (some ⟨.cancel, 18, true⟩)) .deskA false .routeInsert
        (putInsertArgs insert18) ∧
      (∃ f, (planned [] 0 [⟨18, 3⟩] (some ⟨.cancel, 18, true⟩)).rtu.inFlight = some f ∧ f.kind = .cancel
        ∧ f.junction = 18)) ∧
    CommandReaches (planned full 0 [] none) .supervisor false .routeInsert (putInsertArgs insert18) :=
  ⟨by decide, by decide, by decide, reaches (by decide), ⟨_, List.mem_singleton.2 rfl, rfl⟩, by decide,
    ⟨reaches (by decide), ⟨_, rfl, rfl, rfl⟩⟩, reaches (by decide)⟩

theorem test_route_insert :
    (match exec (.routeInsert .deskA false (putInsertArgs insert18)) (planned [] 0 [⟨18, 3⟩] none) with
     | .next t => t.rtu.plan.length == 1 && t.rtu.cancels == [] && t.handed == [.noticeRaise .routeChange]
     | .fault _ => false
     | .refused _ => false) = true := by decide

def states : List EntryState := [.queued, .armed, .sent, .confirmed, .refused, .faulted, .overridden]

theorem witness_entry_commands :
    (junctionOk 4095 = true ∧ junctionOk 1 = true ∧ (7 : Nat) ≤ 7) ∧
    (∀ st ∈ states,
      PlanOk (planned [entry 18 st 0] 15 [] none) ∧
      CommandReaches (planned [entry 18 st 0] 15 [] none) .deskA false .routeSetCode (putNat16 18 ++ putNat8 7) ∧
      CommandReaches (planned [entry 18 st 0] 15 [] none) .deskA false .routeOverride (putNat16 18) ∧
      CommandReaches (planned [entry 18 st 1] 15 [] none) .supervisor false .routeCancel (putNat16 18)) ∧
    (0 < (planned [] 15 [] none).lcu.window ∧ (planned [] 0 [] none).lcu.window = 0) ∧
    (∀ f, (planned [] 15 [] none).rtu.inFlight = some f → f.junction ≠ 18) ∧
    (CommandReaches (planned [] 15 [] none) .deskA false .planSync [] ∧
      (planned [] 15 [] none).rtu.cancels = []) ∧
    (CommandReaches (planned [] 15 [⟨18, 3⟩] none) .deskA false .planSync [] ∧
      (planned [] 15 [⟨18, 3⟩] none).rtu.cancels ≠ []) ∧
    (CommandReaches (planned [] 15 [] (some ⟨.update, 18, false⟩)) .deskA false .routeCancel (putNat16 18) ∧
      ∃ f, (planned [] 15 [] (some ⟨.update, 18, false⟩)).rtu.inFlight = some f ∧ f.junction = 18) := by
  refine ⟨by decide, fun st hst => ?_, by decide, fun f h => by simp [planned] at h,
    ⟨reaches (by decide), rfl⟩, ⟨reaches (by decide), by decide⟩, ⟨reaches (by decide), ⟨_, rfl, rfl⟩⟩⟩
  simp only [states, List.mem_cons, List.not_mem_nil, or_false] at hst
  rcases hst with rfl | rfl | rfl | rfl | rfl | rfl | rfl <;>
    exact ⟨⟨by decide, by decide⟩, reaches (by decide), reaches (by decide), reaches (by decide)⟩

/-- An ARMED entry with its guard timer running. -/
def guarded : State := planned [{ entry 18 .armed 1 with guard := some 6000 }] 15 [] none

theorem witness_plan_events :
    (guarded.bad = [] ∧ PlanOk guarded ∧ ∀ e ∈ guarded.rtu.plan, e.guard ≠ none ∧ e.state = .armed) ∧
    (planned [entry 5 .queued 0, entry 18 .queued 0] 15 [] none).rtu.plan
      = [entry 5 .queued 0] ++ entry 18 .queued 0 :: [] ∧
    (let t := ending (pointStateOctets 4095 7 .locked 127)
     t.receiver = .receiving ∧ t.wait ≤ 1 ∧
      received t.bits = some (.pointState 4095 7 .locked 127)) ∧
    (State.reset.rst.vehicle.run = 1 ∧ (127 : Nat) ≠ State.reset.rst.vehicle.run) ∧
    FirstWith guarded.rtu.plan (fun x => (x.platform == some 7 && decide (1 ≤ x.transmissions)) = true)
      { entry 18 .armed 1 with guard := some 6000 } :=
  ⟨⟨by decide, ⟨by decide, by decide⟩, by decide⟩, rfl, by decide +kernel, by decide, [], [], rfl, by simp, by decide⟩

/-- An exception that is noted again is stored with good parity, though its word holds the same value (R106). -/
theorem test_equal_exception_is_stored :
    (match exec (.armRoute 18) { svc with
        rtu := { svc.rtu with exception := some (.noRoute, 18) }, bad := [.field .plan 2] } with
     | .next t => t.bad == [] && t.rtu.exception == some (.noRoute, 18)
     | .fault _ => false
     | .refused _ => false) = true := by decide

/-- A change to ACTIVE_A taken when desk A has lost its authority again brings no alert (R113, R170). -/
theorem test_lost_authority_brings_no_alert :
    ([deskA, svc].map fun s =>
      (s.after (execDeskStateChange (.active .a) { s with rtu := { s.rtu with plan := [entry 18 .faulted 0] } })).handed)
    = [[.leadingEndPublished .none, .hardwareSoundAdd .pointGuard .buzzerA deskA.settings.uses.guardAlert],
      [.leadingEndPublished .none]] := by decide

/-- A late decision reaches the plan with its window still open, though none of it remains: an UPDATE is owed. -/
theorem test_late_decision_before_the_close :
    (match exec (.lateDecisionReport 7) { guarded with lcu := { guarded.lcu with window := 0 } } with
     | .next t => t.rtu.plan.all (·.updateOwed) && t.handed == [.owedReport]
     | .fault _ => false
     | .refused _ => false) = true := by decide

theorem test_clearance_of_an_armed_entry_runs_through :
    (match exec (.clearance 18) guarded with
     | .next t => t.rtu.plan == [] && t.handed.contains (.severeFault .pointRunThrough .rtu (.junction 18) false none)
     | .fault _ => false
     | .refused _ => false) = true := by decide

theorem test_guard_expiry_faults_the_entry :
    (match exec (.guardTimerExpiry 18) guarded with
     | .next t => t.rtu.plan.map (·.state) == [.faulted] && t.handed.contains (.pointGuardEntryChange true 0)
     | .fault _ => false
     | .refused _ => false) = true := by decide

/-! ### Track link (chapter 7) -/

/-- A route unit and a track link unit that may select. -/
def selecting (plan : List PlanEntry) (cancels : List Cancel) (lock : LockState) : State :=
  { planned plan 15 cancels none with
    tlu := { State.reset.tlu with windowOpen := true, modeView := .service, lockView := lock } }

def owing : PlanEntry := { entry 18 .armed 0 with requestsOwed := 3 }

theorem witness_selection :
    (State.reset.tlu.windowOpen = false) ∧
    ((selecting [] [⟨18, 3⟩] .held).tlu.transmitter = .idle ∧
      (selecting [] [⟨18, 3⟩] .held).rtu.cancels = ⟨18, 3⟩ :: []) ∧
    (selecting [] [] .held).rtu.cancels = [] ∧
    FirstWith (selecting [{ owing with updateOwed := true }] [] .clear).rtu.plan (fun x => x.updateOwed = true)
      { owing with updateOwed := true } ∧
    Rotates (selecting [owing] [] .clear).rtu.plan none owing ∧
    Rotates [entry 5 .sent 1, owing] (some 5) owing ∧
    (∀ e ∈ (selecting [entry 5 .sent 1] [] .clear).rtu.plan, e.requestsOwed = 0) := by
  refine ⟨rfl, ⟨rfl, rfl⟩, rfl, ⟨[], [], rfl, by simp, rfl⟩, .inr ⟨by simp, [], [], rfl, by simp, by decide⟩,
    .inl ⟨[], entry 5 .sent 1, [owing], rfl, rfl, by simp, [], [entry 5 .sent 1], rfl, by simp, by decide⟩, ?_⟩
  decide

theorem test_request_is_selected :
    (match exec .owedReport (selecting [owing] [] .clear) with
     | .next t => t.tlu.inFlight == some ⟨.request, 18, 3, false, 1, 1, 1⟩ && t.tlu.transmitter == .sending
     | .fault _ => false
     | .refused _ => false) = true := by decide

theorem witness_gap :
    (({ State.reset.tlu with gapTimer := some 20 } : Tlu).gapTimer ≠ none) ∧ State.reset.tlu.gapTimer = none ∧
    heldTdu.tlu.lockView = .clear ∧ (selecting [] [] .held).tlu.lockView = .held := by decide

/-- A telegram of this kind in flight. -/
def flying (k : TelegramKind) (present : Bool) : State :=
  { planned [entry 18 .armed 0] 15 [⟨18, 3⟩] (some ⟨k, 18, present⟩) with
    tlu := { State.reset.tlu with transmitter := .sending } }

theorem witness_telegram_end :
    ((flying .request true).tlu.transmitter = .sending ∧ State.reset.tlu.transmitter ≠ .sending) ∧
    (∀ k ∈ [TelegramKind.request, .update, .cancel], ∀ b ∈ [true, false],
      (flying k b).bad = [] ∧ PlanOk (flying k b) ∧ (flying k b).rtu.inFlight = some ⟨k, 18, b⟩) := by
  refine ⟨by decide, fun k _ b _ => ⟨rfl, ⟨by simp [flying, planned, Config.planCapacity],
    by simp [flying, planned]⟩, rfl⟩⟩

/-- The plan changes with a telegram in flight: its subject stays, leaves, or is gone for good. -/
theorem test_subject_of_the_telegram_in_flight :
    (let u := (flying .request true).rtu
     let after := fun (u : Rtu) (plan : List PlanEntry) => (u.withPlan plan []).inFlight.map (·.present)
     after u u.plan = some true ∧ after u [entry 5 .armed 0] = some false ∧
      after (flying .request false).rtu u.plan = some false ∧ after (flying .cancel true).rtu u.plan = some false ∧
      after State.reset.rtu u.plan = none) := by decide

/-- A clearance takes the subject of the telegram in flight and keeps the in-flight field: its word is not written
(R106, R122, log 24). -/
theorem test_in_flight_word_is_kept_as_the_subject_leaves :
    (match exec (.clearance 18) { flying .request true with bad := [.field .plan 1] } with
     | .next t => t.bad == [.field .plan 1] && t.rtu.inFlight == some ⟨.request, 18, false⟩
     | .fault _ => false
     | .refused _ => false) = true := by decide

/-- A receiver in each state, with carrier at `run` points up to now and the next mid-sample `wait` points away. -/
def hearing (r : ReceiverState) (run wait : Nat) (bits : List Bool) : State :=
  { State.reset with tlu := { State.reset.tlu with receiver := r, run := run, wait := wait, bits := bits } }

theorem witness_receiver :
    ((hearing .hunting 1 0 []).tlu.receiver = .hunting ∧ 0 < (hearing .hunting 1 0 []).tlu.run ∧
      (hearing .hunting 0 0 []).tlu.run = 0) ∧
    (1 < (hearing .receiving 0 2 [true]).tlu.wait ∧ (hearing .receiving 0 1 [true]).tlu.wait ≤ 1 ∧
      received ((hearing .receiving 0 1 [true]).tlu.bits ++ [true]) = none ∧
      received ((hearing .receiving 0 1 [true]).tlu.bits ++ [false]) = some (.error .framing) ∧
      received (List.replicate 10 true) = some (.error .length) ∧ received [true] = none ∧
      received ((telegramCarrier (beaconOctets 5)).dropLast ++ [false]) = some (.beacon 5) ∧
      received (ending (beaconOctets 5)).bits = some (.beacon 5)) ∧
    (State.reset.tlu.receiver = .recovering ∧ 1 < (hearing .recovering 0 16 []).tlu.wait ∧
      (hearing .recovering 0 1 []).tlu.wait ≤ 1) := by decide +kernel

/-- A burst that leads its mid-sample by none, one or two points moves the next mid-sample (R128). -/
theorem test_alignment_follows_the_leading_edge :
    [0, 1, 2].map (fun run => ((hearing .receiving run 1 [true]).sample true).tlu.wait) = [17, 16, 15] ∧
    ((hearing .receiving 0 1 [true, true]).sample false).tlu.wait = 16 := by decide +kernel

/-- A telegram that meets every test at the mid-sample of its silent bit period is delivered 14 points later, at that
period's end, and not before (R129). -/
theorem test_delivery_waits_for_the_end_of_the_silence :
    (let s := { located with tlu := { located.tlu with bits := (telegramCarrier (beaconOctets 5)).dropLast } }
     let t := (List.replicate 14 false).foldl State.sample s
     t.tlu.receiver == .receiving && t.handed == [] && (t.sample false).tlu.receiver == .recovering
       && (t.sample false).handed == [.windowOpen, .armRoute 18]) = true := by decide +kernel

/-- A dropped telegram is counted and noticed; carrier and silence in RECOVERING do the rest. -/
theorem test_receiver_drops_and_recovers :
    (match exec (.trackRxError [false]) (hearing .receiving 0 1 [true]) with
     | .next t => t.tlu.framingCount == 1 && t.handed == [.noticeRaise .trackRxError]
         && t.tlu.receiver == .recovering
     | .fault _ => false
     | .refused _ => false) = true ∧
    ((List.replicate 64 false).foldl State.sample (hearing .recovering 0 16 [])).tlu.receiver = .hunting ∧
    ((List.replicate 63 false).foldl State.sample (hearing .recovering 0 16 [])).tlu.receiver = .recovering := by
  decide +kernel

theorem witness_receptions :
    (hearing .hunting 0 0 []).tlu.receiver = .hunting ∧ (hearing .hunting 0 0 []).tlu.run = 0 ∧
    receptions (hearing .hunting 0 0 []).tlu (telegramSamples (beaconOctets 4095)) = [.beacon 4095] := by
  decide +kernel

theorem witness_bit_periods :
    (let bits := (telegramCarrier (beaconOctets 5)).take 35
     carrierAt bits 0 = true ∧ carrierAt bits 1 = true ∧ telegramOctet bits 0 = 0x41 ∧
      carrierAt bits (2 + 8 * 4) = true ∧ bits.length ≤ 4 + 8 * 4 ∧ received bits = none) ∧
    received [true] = none ∧ received (telegramCarrier (beaconOctets 5)) = some (.beacon 5) := by decide +kernel

theorem witness_telegram_tests :
    (let heard := telegramCarrier [0x41, 0x00, 0x05, 0x00]
     carrierAt heard 0 = true ∧ carrierAt heard 1 = true ∧ telegramOctet heard 0 = 0x41 ∧
      carrierAt heard 34 = true ∧ carrierAt heard 35 = false ∧ receive heard = .error .check) ∧
    receive (telegramCarrier (beaconOctets 4095)) = .beacon 4095 := by decide +kernel

/-! ### Stop requests (chapter 8) -/

def pressedSru : Sru := { State.reset.sru with list := [⟨24, .stop⟩] }

theorem witness_presses :
    (({ State.reset.sru with atStop := true } : Sru).atStop = true) ∧
    (pressedSru.atStop = false ∧ FirstWith pressedSru.list (fun x => x.station = 24) ⟨24, .stop⟩) ∧
    (∀ x ∈ pressedSru.list, x.station ≠ 0) :=
  ⟨rfl, ⟨rfl, [], [], rfl, by simp, rfl⟩, by decide⟩

/-- A press that joins a latched list changes STOPS and leaves the other ports' slots (R147). -/
theorem test_join_leaves_the_slots :
    (match exec (.stopSet .deskA false (putEnum stopKindList .stop))
        { deskA with sru := pressedSru, rst := { deskA.rst with slots := ⟨none, some .stops, some .stops⟩ } } with
     | .next t => t.sru.list == [⟨24, .stop⟩, ⟨0, .stop⟩] && t.rst.slots == ⟨none, some .stops, some .stops⟩
     | .fault _ => false
     | .refused _ => false) = true := by decide

theorem witness_stop_commands :
    CommandReaches deskA .deskA false .stopSet (putEnum stopKindList .wheelchair) ∧
    CommandReaches deskA .supervisor false .stopClear [] ∧ NoArguments [] :=
  ⟨reaches (by decide), reaches (by decide), rfl⟩

theorem test_stop_set_latches :
    (match exec (.stopSet .deskA false (putEnum stopKindList .stop)) deskA with
     | .next t => t.sru.list == [⟨0, .stop⟩] && t.sru.lastStop == some (.latched, 0)
     | .fault _ => false
     | .refused _ => false) = true := by decide

theorem witness_zone :
    let u := { pressedSru with zone := some ⟨255, false⟩, decision := .stopAhead }
    (u.zone = some ⟨255, false⟩ ∧ u.decision = .stopAhead ∧ u.stoppedInZone = false ∧ u.list ≠ []) ∧
    (∀ z, State.reset.sru.zone = some z → z.platform ≠ 1) := by
  exact ⟨⟨rfl, rfl, rfl, by decide⟩, fun z h => by simp [State.reset, Sru.reset] at h⟩

/-- The unit receives a reply of station 24, at the mid-sample of the stop bit of its next character but for that
point. -/
def replying (got : List Byte) (octet : Byte) : Sru :=
  { State.reset.sru with
    pollState := .receiving, address := 24, got := got, ours := true
    line := ⟨0, some ((lineChar octet).drop 1).dropLast, 1⟩ }

/-- The part with 24 stations and this stop request unit. -/
def looped (u : Sru) : State := { deskA with sru := u, settings := { deskA.settings with stationCount := 24 } }

/-- The receiver of the loop: at rest, at the mid-sample of a candidate start bit, within a character, and at its
last two bits. -/
theorem witness_line_receiver :
    ((⟨0, none, 0⟩ : LineReceiver).away = 0 ∧ (⟨7, none, 0⟩ : LineReceiver).away < 8 ∧
      8 ≤ (⟨8, none, 0⟩ : LineReceiver).away) ∧
    ((⟨0, some [], 16⟩ : LineReceiver).bits = some [] ∧ 1 < (⟨0, some [], 16⟩ : LineReceiver).wait ∧
      (⟨0, some [], 1⟩ : LineReceiver).wait ≤ 1) ∧
    (List.replicate 8 true).length < 9 ∧ (List.replicate 9 true).length = 9 := by decide

/-- The three octets of a reply with its press, written bit by bit: 24 is 00011000 with even parity, 1 is 00000001
with odd; a one is the idle level. -/
theorem test_line_characters :
    lineChar 24 = [true, true, true, true, false, false, true, true, true, true, false] ∧
    lineChar 1 = [true, true, true, true, true, true, true, true, false, false, false] := by decide

/-- A character on the line at its sample points, and noise at a mid-sample that is idle again. -/
theorem test_line_is_sampled :
    (lineEvents ⟨0, none, 0⟩ ((lineChar 24).flatMap fun l => List.replicate 16 l)).filter (fun e => e != .none)
      = [.start, .char 24 true] ∧
    (lineEvents ⟨0, none, 0⟩ (List.replicate 8 true ++ List.replicate 8 false)).all (fun e => e == .none) = true := by
  decide +kernel

theorem witness_replies :
    (let at8 := ({ State.reset.sru with line := ⟨8, none, 0⟩, pollState := .awaiting } : Sru)
     (at8.line.sample true).2 = .start ∧ at8.pollState = .awaiting) ∧
    (let u := replying [24, 1] (crc8 [24, 1])
     (u.line.sample false).2 = .char (crc8 [24, 1]) true ∧ u.ours = true ∧ u.pollState = .receiving ∧
      (u.lineSample false).2 = some (.good ⟨true, false, false⟩) ∧
      (u.line.sample true).2 = .char (crc8 [24, 1]) false ∧ (u.lineSample true).2 = some .bad) ∧
    ((replying [] 23).lineSample false).2 = some .bad ∧
    ((replying [] 24).lineSample false) = ({ replying [24] 24 with ours := false, line := ⟨0, none, 0⟩ }, none) ∧
    ((replying [24] 1).lineSample false).2 = none ∧ ((replying [24, 1] 0).lineSample false).2 = some .bad ∧
    (let u := ({ State.reset.sru with pollState := .receiving } : Sru)
     ({ u with quiet := 181 }.lineSample false).2 = none ∧ ({ u with quiet := 182 }.lineSample false).2 = some .bad ∧
      (u.line.sample false).2 = .none) := by decide +kernel

theorem test_unasked_character_is_counted :
    ({ replying [] 24 with ours := false }.lineSample false).1.unsolicited = 1 ∧
    ({ replying [] 24 with pollState := .stopped }.lineSample false).1.unsolicited = 1 ∧
    (match exec .unsolicitedCharacter { State.reset with sru := { State.reset.sru with unsolicited := 255 } } with
     | .next t => t.sru.unsolicited == 255
     | .fault _ => false
     | .refused _ => false) = true := by decide +kernel

theorem witness_reply_ends :
    (let s := looped (replying [24, 1] (crc8 [24, 1]))
     s.bad = [] ∧ (s.sru.lineSample false).2 = some (.good ⟨true, false, false⟩) ∧
      (s.sru.lineSample false).1.address = (23 : Fin 24).val + 1 ∧ s.settings.stationCount ≤ 24) ∧
    (let s := looped (replying [] 1)
     s.bad = [] ∧ (s.sru.lineSample false).2 = some .bad ∧
      (s.sru.lineSample false).1.address = (23 : Fin 24).val + 1) ∧
    (let s := looped { State.reset.sru with pollState := .awaiting, address := 1, replyTimer := some 5 }
     s.bad = [] ∧ s.sru.replyTimer ≠ none ∧ s.sru.address = (0 : Fin 24).val + 1) ∧
    State.reset.sru.replyTimer = none := by decide +kernel

theorem test_good_reply_presses :
    (match exec (.goodReply [false]) (looped (replying [24, 1] (crc8 [24, 1]))) with
     | .next t => t.sru.list == [⟨24, .stop⟩] && t.sru.address == 1 && t.sru.pollState == .sending
         && t.sru.driven.map (·.length) == [33]
     | .fault _ => false
     | .refused _ => false) = true := by decide +kernel

/-- The first start bit of the reply stops the timer, and STATIONS shows RECEIVING (R143). -/
theorem test_reply_begins :
    (match exec (.goodReply [true]) (looped { State.reset.sru with
        pollState := .awaiting, address := 24, replyTimer := some 5, line := ⟨8, none, 0⟩ }) with
     | .next t => t.sru.pollState == .receiving && t.sru.replyTimer == none
     | .fault _ => false
     | .refused _ => false) = true := by decide +kernel

theorem test_reply_timer_expiry_is_a_miss :
    (match exec (.badReply []) (looped { State.reset.sru with
        pollState := .awaiting, address := 24, replyTimer := some 5
        stations := State.reset.sru.stations.set 23 ⟨.present, 0, true, true⟩ }) with
     | .next t => t.sru.stations[(23 : Fin 24)] == ⟨.suspect, 1, true, false⟩ && t.sru.address == 1
         && t.sru.pollState == .sending
     | .fault _ => false
     | .refused _ => false) = true := by decide +kernel

theorem witness_poll_end :
    (let u := State.reset.sru.beginPoll 1
     u.pollState = .sending ∧ u.driven.length ≤ 1) ∧
    State.reset.sru.pollState ≠ .sending ∧ (replying [] 0).pollState ≠ .sending ∧
    2 ≤ ((State.reset.sru.beginPoll 24).stopPolling.beginPoll 1).driven.length := by decide +kernel

/-- A poll that RECONFIGURE overtook stays on the line through the commit, and its end starts no timer; the first
poll's own end does (R143). -/
theorem test_overtaken_poll_is_completed :
    (let first := pollLine ⟨24, false, .off⟩
     let u := (State.reset.sru.beginPoll 24).stopPolling.startPolling (looped State.reset.sru).settings
     let s := (looped u).after (execPollEnd (looped u))
     let t := s.after (execPollEnd s)
     u.driven == [first, pollLine ⟨1, false, .off⟩] && s.sru.pollState == .sending && s.sru.replyTimer == none
       && s.sru.driven == u.driven.tail && t.sru.pollState == .awaiting && t.sru.replyTimer.isSome
       && t.sru.driven == []) = true := by decide +kernel

theorem test_poll_end_awaits_the_reply :
    (match exec .pollEnd (looped ({ State.reset.sru with pollState := .sending, driven := [[true]] })) with
     | .next t => t.sru.pollState == .awaiting && t.sru.replyTimer.isSome && t.sru.driven == []
     | .fault _ => false
     | .refused _ => false) = true := by decide

/-! ### Sound (chapter 9) -/

/-- DESK_A plays pattern 1 on BELL, its timer running. -/
def playing : Sdu :=
  { State.reset.sdu with
    requests := [⟨.deskA, .bell, 1, 5, some 2⟩, ⟨.location, .bell, 1, 3, some 1⟩]
    players := State.reset.sdu.players.set 0 ⟨some .deskA, 1, .on, some 250, some .deskA, none⟩ }

theorem soundOk_playing : SoundOk playing := by
  refine ⟨⟨by decide, by decide⟩, fun snd => ?_⟩
  cases snd with
  | bell => exact outranked_of_playing (q := ⟨.deskA, .bell, 1, 5, some 2⟩) (by decide) (by decide)
  | horn => exact outranked_of_idle (by decide) (by decide)
  | buzzerA => exact outranked_of_idle (by decide) (by decide)
  | buzzerB => exact outranked_of_idle (by decide) (by decide)
  | chime => exact outranked_of_idle (by decide) (by decide)

theorem soundPlays_playing : SoundPlays playing := ⟨by decide, by decide⟩

theorem playersTimed_playing : PlayersTimed playing := fun snd => by cases snd <;> decide

/-- A list of 12 requests, those of priority 2 the youngest. -/
def crowd : List SoundRequest :=
  [⟨.deskA, .bell, 1, 5, none⟩, ⟨.deskA, .horn, 1, 5, none⟩, ⟨.deskA, .buzzerA, 1, 5, none⟩,
    ⟨.deskB, .bell, 1, 5, none⟩, ⟨.deskB, .horn, 1, 5, none⟩, ⟨.deskB, .buzzerB, 1, 5, none⟩,
    ⟨.supervisor, .bell, 1, 5, none⟩, ⟨.supervisor, .horn, 1, 5, none⟩, ⟨.supervisor, .chime, 1, 5, none⟩,
    ⟨.location, .bell, 1, 3, none⟩, ⟨.stopUnit, .buzzerA, 1, 2, none⟩, ⟨.stopUnit, .chime, 1, 2, none⟩]

/-- The full list, each sounder playing. -/
def crowded : Sdu :=
  { State.reset.sdu with
    requests := crowd
    players := #v[⟨some .deskA, 1, .on, some 250, some .deskA, none⟩,
      ⟨some .deskA, 1, .on, some 250, some .deskA, none⟩, ⟨some .deskA, 1, .on, some 250, some .deskA, none⟩,
      ⟨some .deskB, 1, .on, some 250, some .deskB, none⟩,
      ⟨some .supervisor, 1, .on, some 250, some .supervisor, none⟩] }

theorem soundOk_crowded : SoundOk crowded := by
  refine ⟨⟨by decide, by decide⟩, fun snd => ?_⟩
  cases snd with
  | bell => exact outranked_of_playing (q := ⟨.deskA, .bell, 1, 5, none⟩) (by decide) (by decide)
  | horn => exact outranked_of_playing (q := ⟨.deskA, .horn, 1, 5, none⟩) (by decide) (by decide)
  | buzzerA => exact outranked_of_playing (q := ⟨.deskA, .buzzerA, 1, 5, none⟩) (by decide) (by decide)
  | buzzerB => exact outranked_of_playing (q := ⟨.deskB, .buzzerB, 1, 5, none⟩) (by decide) (by decide)
  | chime => exact outranked_of_playing (q := ⟨.supervisor, .chime, 1, 5, none⟩) (by decide) (by decide)

theorem witness_offers :
    (SoundOk playing ∧ SoundPlays playing ∧ playing.patterns[(3 : Fin 16)].steps ≠ []) ∧
    Holds playing.requests .deskA .bell ∧ ¬ Holds playing.requests .vigilance .buzzerA ∧
    playing.requests.length < 12 ∧
    (SoundOk crowded ∧ SoundPlays crowded ∧ crowded.requests.length = 12) ∧
    Evicted crowded.requests 6 ⟨.stopUnit, .chime, 1, 2, none⟩ ∧ (∀ x ∈ crowded.requests, 2 ≤ x.priority) := by
  refine ⟨⟨soundOk_playing, soundPlays_playing, by decide⟩, ⟨_, List.mem_cons_self, rfl, rfl⟩, ?_, by decide,
    ⟨soundOk_crowded, ⟨by decide, by decide⟩, rfl⟩,
    ⟨by decide, by decide, crowd.take 11, [], rfl, by simp⟩, by decide⟩
  rintro ⟨q, hq, h1, h2⟩
  simp [playing] at hq
  rcases hq with rfl | rfl <;> simp at h1

theorem test_eviction_of_the_youngest_lowest :
    (crowded.offer State.reset.settings ⟨.vigilance, .buzzerB, 3, 6, none⟩).map
      (fun r => (r.1.requests.map (·.source), r.2)) =
    some ([.deskA, .deskA, .deskA, .deskB, .deskB, .deskB, .supervisor, .supervisor, .supervisor, .location,
      .stopUnit, .vigilance], [.noticeRaise .soundDropped]) := by decide

/-- Each eviction is judged on the list that the add before it leaves: the first takes the chime's playing request, the
second a location's at the bell, where the tie mode decides, so their words are read and the horn's are not (R171). -/
theorem test_the_second_add_reads_where_it_evicts :
    (let u := { crowded with
       requests := crowded.requests.eraseIdx 10 ++ [⟨.vigilance, .buzzerB, 3, 6, none⟩]
       players := (crowded.players.set 0 ⟨some .location, 1, .on, some 250, some .location, none⟩).set 4
         ⟨some .stopUnit, 1, .on, some 250, some .stopUnit, none⟩ }
     let reads := lockdownReads State.reset.settings .held u
     [0, 2, 3, 4].all (fun n => reads (.field .sound n)) = true ∧
      reads (.field .settings (settingPlace (.tieMode .bell))) = true ∧
      [1, 5].all (fun n => !reads (.field .sound n)) = true ∧
      reads (.field .settings (settingPlace (.tieMode .horn))) = false) := by decide

/-- An add whose pattern is empty reads the pattern alone, and a removal that finds no request the list alone; the
removal of a playing request reads the player and the pattern of the next one (R165 to R168, R171). -/
theorem test_words_an_add_and_a_removal_read :
    (let cfg := State.reset.settings
     let words := [StoreWord.entry .patterns 6 0, .request .deskA .bell 0, .field .sound 0, .entry .patterns 1 0]
     words.map (addReads cfg crowded .matrix .bell 6) = [true, false, false, false] ∧
      words.map (removeReads cfg playing .supervisor .bell) = [false, true, false, false] ∧
      words.map (removeReads cfg playing .location .bell) = [false, true, false, false] ∧
      words.map (removeReads cfg playing .deskA .bell) = [false, true, true, true]) := by decide

/-- A replacement stores the request and the player it begins on, and a phase change the player, with the values they
held: their bad words are good then (R160, R166, R171). -/
theorem test_equal_values_are_stored_anew :
    (let u : Sdu := { State.reset.sdu with
       requests := [hardwareRequest State.reset.sdu .location .bell 1]
       players := State.reset.sdu.players.set 0 ⟨some .location, 1, .on, some 250, some .location, some 40⟩ }
     let v : Sdu := { u with patterns := u.patterns.set 1 ⟨[⟨250, 0⟩], 0⟩ }
     let left := fun (o : Host.Outcome State Fault Refusal) => match o with
       | .next t => some (t.sdu, t.bad)
       | .fault _ => none
       | .refused _ => none
     left (exec (.hardwareSoundAdd .location .bell 1) { svc with
        sdu := u, bad := [.request .location .bell 2, .field .sound 0, .field .sound 1] })
      = some (u, [.field .sound 1]) ∧
     left (exec (.phaseTimerExpiry .bell) { svc with
        sdu := { v with requests := [⟨.location, .bell, 1, 3, none⟩] }, bad := [.field .sound 0, .field .sound 1] })
      = some ({ v with requests := [⟨.location, .bell, 1, 3, none⟩] }, [.field .sound 1])) := by decide

/-- The arbiter's turns: the oldest, or under ROTATE the oldest whose source was not the last to sound. -/
theorem witness_turns :
    let l : List SoundRequest := [⟨.deskA, .bell, 1, 5, none⟩, ⟨.deskB, .bell, 1, 5, none⟩, ⟨.location, .bell, 1, 3, none⟩]
    chooseNext .oldestFirst (some .deskA) l = some ⟨.deskA, .bell, 1, 5, none⟩ ∧
    chooseNext .rotate (some .deskA) l = some ⟨.deskB, .bell, 1, 5, none⟩ ∧
    chooseNext .rotate (some .deskA) (l.take 1) = some ⟨.deskA, .bell, 1, 5, none⟩ ∧
    (playing.requests.filter fun q => q.sounder == .horn) = [] ∧
    playingRequest playing .bell = some ⟨.deskA, .bell, 1, 5, some 2⟩ ∧ (5 : Nat) ≤ 5 ∧ (5 : Nat) < 6 := by decide

/-- A request of the same priority leaves the playing one; a higher one begins at step 1. -/
theorem test_equal_priority_waits_and_a_higher_preempts :
    (playing.offer State.reset.settings ⟨.deskB, .bell, 1, 5, none⟩).map (fun r => player r.1 .bell)
      = some (player playing .bell) ∧
    (playing.offer State.reset.settings ⟨.vigilance, .bell, 1, 6, none⟩).map (fun r => player r.1 .bell)
      = some ⟨some .vigilance, 1, .on, some 250, some .vigilance, some 40⟩ := by decide

def startBell : StartArgs := ⟨.bell, 1, 7, 15⟩

theorem witness_sound_start :
    startBell.ok = true ∧
    CommandReaches deskA .deskA false .soundStart (putStartArgs startBell) ∧
    MayPlay deskA.dau.state .deskA .bell ∧ ¬ MayPlay deskA.dau.state .deskA .chime ∧
    ¬ MayPlay deskA.dau.state .deskB .horn ∧ MayPlay deskA.dau.state .supervisor .chime ∧
    deskA.sdu.patterns[(15 : Fin 16)].steps = [] ∧ deskA.sdu.patterns[(1 : Fin 16)].steps ≠ [] := by
  refine ⟨by decide, reaches (by decide), .inr ⟨.a, rfl, .inr ⟨.inr rfl, rfl⟩⟩, ?_, ?_, .inl rfl, by decide,
    by decide⟩
  · rintro (h | ⟨d, _, h⟩)
    · exact absurd h (by decide)
    · cases d <;> simp [deskBuzzer] at h
  · rintro (h | ⟨d, hp, h⟩)
    · exact absurd h (by decide)
    · cases d <;> simp [deskBuzzer, deskPort, deskA, deskHolder] at h hp

theorem test_sound_start_caps_its_priority :
    (match exec (.soundStart .deskA false (putStartArgs startBell)) deskA with
     | .next t => t.sdu.requests == [⟨.deskA, .bell, 1, 5, some 15⟩] && sounderDrive t.sdu .bell
     | .fault _ => false
     | .refused _ => false) = true := by decide

/-- A start at the bell reads its player and not the horn's, nor the last sound event; a stop that finds no request reads
none of them (R171, log 8). -/
theorem test_work_at_a_sounder_reads_its_player_alone :
    (let s : Nat → State := fun n => { deskA with bad := [.field .sound n] }
     let faults := fun (o : Host.Outcome State Fault Refusal) => match o with
       | .next t => t.handed.contains (.severeFault .storeParity .sdu (.record .sound) false none)
       | .fault _ => false
       | .refused _ => false
     [0, 1, 5].map fun n =>
      (faults (exec (.soundStart .deskA false (putStartArgs startBell)) (s n)),
        faults (exec (.soundStop .deskA false (putEnum allSounders .bell)) (s n))))
    = [(true, false), (false, false), (false, false)] := by decide

/-- The end of a strike writes no word of BELL's player (R161, log 7). -/
theorem test_strike_end_writes_no_word :
    (match exec .strikeEnd { deskA with
        sdu := setPlayer playing .bell { player playing .bell with strike := some 40 }, bad := [.field .sound 0] } with
     | .next t => t.bad == [.field .sound 0] && (player t.sdu .bell).strike == none
     | .fault _ => false
     | .refused _ => false) = true := by decide

theorem witness_removals :
    let s : State := { deskA with sdu := playing }
    (s.bad = [] ∧ SoundOk s.sdu ∧ SoundPlays s.sdu) ∧
    (CommandReaches s .deskA false .soundStop (putEnum allSounders .bell) ∧
      Holds s.sdu.requests (portSource .deskA) .bell) ∧
    CommandReaches s .deskB false .soundStop (putEnum allSounders .bell) ∧
    (s.rst.mode = .service ∧ Holds s.sdu.requests .location .bell) ∧ State.reset.rst.mode = .configuring := by
  exact ⟨⟨rfl, soundOk_playing, soundPlays_playing⟩, ⟨reaches (by decide), _, List.mem_cons_self, rfl, rfl⟩,
    reaches (by decide), ⟨rfl, _, List.mem_cons_of_mem _ List.mem_cons_self, rfl, rfl⟩, rfl⟩

theorem witness_phases :
    let s : State := { deskA with sdu := playing }
    (s.bad = [] ∧ SoundOk s.sdu ∧ SoundPlays s.sdu ∧ PlayersTimed s.sdu) ∧
    ((player s.sdu .bell).timer ≠ none ∧ playingRequest s.sdu .bell = some ⟨.deskA, .bell, 1, 5, some 2⟩ ∧
      (player s.sdu .bell).phase = .on) ∧
    (player s.sdu .horn).timer = none ∧ (s.sdu.patterns[(1 : Fin 16)].steps.length = 2) := by
  exact ⟨⟨rfl, soundOk_playing, soundPlays_playing, playersTimed_playing⟩, by decide⟩

/-- Step 1 of pattern 1 has no OFF time: its ON phase ends into the second strike at once. -/
theorem test_zero_phase_passes_at_once :
    (match exec (.phaseTimerExpiry .bell) { deskA with sdu := playing } with
     | .next t => player t.sdu .bell == ⟨some .deskA, 2, .on, some 250, some .deskA, some 40⟩
     | .fault _ => false
     | .refused _ => false) = true := by decide

theorem witness_sound_step :
    let s : State := { deskA with sdu := playing, pending := [.phaseTimerExpiry .bell] }
    SoundOk s.sdu ∧ SoundRuns s ∧ ∃ t, step s = .next t :=
  ⟨soundOk_playing, ⟨soundOk_playing, soundPlays_playing, playersTimed_playing, fun h => by simp [deskA, svc] at h⟩,
    ⟨_, rfl⟩⟩

/-! ### Faults and notices (chapter 10) -/

/-- A captured fault, not acknowledged, and lockdown held. -/
def captured : State :=
  { State.reset with
    fnu := { State.reset.fnu with
      armed := false, lock := .held
      capture := { State.reset.fnu.capture with kind := some .storeParity, acknowledged := false, count := 255 } } }

def released : State := { State.reset with fnu := { State.reset.fnu with lock := .held } }

theorem witness_faults :
    (State.reset.fnu.armed = true ∧ LocksAtOnce .storeParity ∧ State.reset.fnu.lock = .clear) ∧
    (¬ LocksAtOnce .tractionLinkLost) ∧ released.fnu.lock = .held ∧
    (captured.fnu.armed = false ∧ captured.fnu.lock = .held) ∧
    (CommandReaches captured .supervisor false .faultAck [] ∧ captured.fnu.capture.acknowledged = false) ∧
    (CommandReaches released .supervisor false .lockdownRelease [] ∧
      meetsBad released (lockReleaseReads released.fnu) = false ∧ released.fnu.motion = .standstill
      ∧ released.fnu.armed = true ∧ released.fnu.emergencyStop = false) := by
  refine ⟨⟨rfl, .inr (.inl rfl), rfl⟩, ?_, rfl, ⟨rfl, rfl⟩, ⟨reaches (by decide), rfl⟩,
    ⟨reaches (by decide), by decide, rfl, rfl, rfl⟩⟩
  rintro (h | h | h) <;> cases h

theorem test_second_fault_is_counted :
    (match exec (.severeFault .emergencyStop .lmu .none true none) captured with
     | .next t => t.fnu.capture.count == 255 && t.fnu.capture.second == some .emergencyStop
         && t.handed == []
     | .fault _ => false
     | .refused _ => false) = true := by decide

/-- A fault taken empties the slots naming FAULT, so an acknowledgement that held one is turned away (R177). -/
theorem test_fault_taken_empties_its_slots :
    (match exec (.severeFault .emergencyStop .lmu .none true none)
        { captured with rst := { captured.rst with slots := ⟨none, none, some .fault⟩ } } with
     | .next t =>
       (match exec (.faultAck .supervisor true []) t with
        | .next u => (u.pif.get .supervisor).response == ⟨.refused, .noReservation, []⟩
        | .fault _ => false
        | .refused _ => false)
     | .fault _ => false
     | .refused _ => false) = true := by decide

/-- A capture writes the words of FAULT with good parity and an acknowledgement its two (R19). -/
theorem witness_written_words :
    (let s : State := { State.reset with bad := [.field .fault 9, .notice .deskA 2, .field .vehicle 0] }
     s.fnu.armed = true ∧ ∃ t, exec (.severeFault .tractionLinkLost .tdu .none true none) s = .next t) ∧
    (let s : State := { captured with bad := [.field .fault 9] }
     s.fnu.armed = false ∧ ∃ t, exec (.severeFault .tractionLinkLost .tdu .none true none) s = .next t) ∧
    (let s : State := { captured with bad := [.field .fault 10, .field .fault 2] }
     CommandReaches s .supervisor false .faultAck [] ∧ .field .fault 8 ∉ s.bad) :=
  ⟨⟨rfl, _, rfl⟩, ⟨rfl, _, rfl⟩, reaches (by decide), by decide⟩

theorem test_lockdown_release :
    (match exec (.lockdownRelease .supervisor false []) released with
     | .next t => t.fnu.lock == .clear && t.handed.length == 4 && (t.pif.get .supervisor).response.status == .done
     | .fault _ => false
     | .refused _ => false) = true := by decide

theorem witness_notices :
    CommandReaches State.reset .deskB false .noticeClear (putNat16 (0xFFFF : BitVec 16).toNat) ∧
    CommandReaches State.reset .deskA false .noticeEnable (putNat16 (0x8001 : BitVec 16).toNat) ∧
    (.notice .deskA 0 ∉ State.reset.bad) ∧
    (let s : State := { State.reset with
        fnu := (State.reset.fnu.raise .propulsionFault) }
     (∃ t, exec (.noticeRaise .propulsionFault) s = .next t) ∧
      ∀ p, inSet (s.fnu.notices.get p).pending .propulsionFault = true
        ∧ inSet (s.fnu.notices.get p).enabled .propulsionFault = false) :=
  ⟨reaches (by decide), reaches (by decide), by decide, ⟨_, rfl⟩, fun p => by cases p <;> decide⟩

/-- NOTICE_ENABLE reads the pending set alone, and a release that fails its conditions no notice set (R184). -/
theorem test_unread_words_refuse_nothing :
    (match exec (.noticeEnable .deskA false (putNat16 0x8001))
        { State.reset with bad := [.notice .deskA 2, .notice .deskA 1] } with
     | .next t => (t.pif.get .deskA).response.status == .done && t.bad == [.notice .deskA 2]
     | .fault _ => false
     | .refused _ => false) = true ∧
    (match exec (.lockdownRelease .supervisor false []) { State.reset with bad := [.notice .deskA 2] } with
     | .next t => (t.pif.get .supervisor).response == ⟨.refused, .wrongState, []⟩ && t.handed == []
     | .fault _ => false
     | .refused _ => false) = true := by decide

/-- A NOTIFY on its way has been the last location event since it fired; the row alone makes it so. -/
theorem test_notify_row :
    (match exec (.notifyAction 3 5) { State.reset with handed := [.notifyAction 3 5] }, exec (.notifyAction 3 5) State.reset with
     | .next t, .next u => t.lcu.lastEvent == none && t.handed == []
         && u.lcu.lastEvent == some ⟨.notify, 3, 5, .notify⟩
     | _, _ => false) = true := by decide

/-! ### Commit, reconfiguration, teardown, invariants -/

/-- A written permit table that a commit admits. -/
def committable : State :=
  { State.reset with
    lmu := { State.reset.lmu with
      written := { State.reset.lmu.written with
        permits := Vector.replicate 9 ⟨.cell 0, false⟩ } } }

theorem witness_commit :
    (CommandReaches svc .supervisor false .configCommit [] ∧ svc.rst.mode = .service) ∧
    (CommandReaches State.reset .supervisor false .configCommit [] ∧ State.reset.rst.mode = .configuring ∧
      ¬ Commits State.reset.lmu.written (State.reset.lmu.written.permits[permitIndex .keyA]).source) ∧
    (CommandReaches committable .supervisor false .configCommit [] ∧
      (∀ x ∈ [Permit.keyA, .keyB, .tractionPermit, .atStop],
        Commits committable.lmu.written (committable.lmu.written.permits[permitIndex x]).source) ∧
      committable.bad = []) ∧
    (let s : State := { committable with bad := [.entry .cells 15 0] }
     CommandReaches s .supervisor false .configCommit [] ∧ meetsBad s writtenTables = true ∧
      meetsBad s modeWord = false) ∧
    (let s : State := { State.reset with bad := [.field .mode 0] }
     CommandReaches s .supervisor false .configCommit [] ∧ meetsBad s modeWord = true) := by
  refine ⟨⟨reaches (by decide), rfl⟩, ⟨reaches (by decide), rfl, ?_⟩, ⟨reaches (by decide), ?_, rfl⟩,
    ⟨reaches (by decide), by decide, by decide⟩, reaches (by decide), by decide⟩
  · intro h; exact h
  · intro x hx
    simp only [List.mem_cons, List.not_mem_nil, or_false] at hx
    rcases hx with rfl | rfl | rfl | rfl <;> exact trivial

theorem test_commit_enters_service :
    (match exec (.configCommit .supervisor false []) committable with
     | .next t => t.rst.mode == .service && conditionValue t.lmu .serviceMode && t.tlu.modeView == .service
     | .fault _ => false
     | .refused _ => false) = true := by decide +kernel

/-- A plan whose entry holds the guard, and the condition on its way. -/
def reconfigurable : State :=
  { svc with
    rtu := { svc.rtu with plan := [entry 18 .armed 0], windowOpen := true }
    sru := pressedSru, handed := [.conditionChange .guardActive true] }

theorem witness_reconfigure :
    (CommandReaches svc .supervisor false .reconfigure [] ∧ svc.rst.mode = .service ∧ svc.dau.state = .noDesk ∧
      svc.lcu.motion = .standstill) ∧
    CommandReaches deskA .supervisor false .reconfigure [] ∧
    (contributing reconfigurable.rtu.plan = true ∧ reconfigurable.sru.list ≠ [] ∧
      reconfigurable.handed.filter beforeReconfigure ≠ []) :=
  ⟨⟨reaches (by decide), rfl, rfl, rfl⟩, reaches (by decide), by decide⟩

/-- The guard's end is taken within RECONFIGURE, before the end of SERVICE_MODE (R190). -/
theorem test_reconfigure_ends_the_guard :
    (match exec (.reconfigure .supervisor false []) reconfigurable with
     | .next t => conditionValue t.lmu .guardActive == false && t.tdu.ceilings[3].active == false
         && t.rtu.plan == [] && t.handed == [.noticeRaise .routeChange]
     | .fault _ => false
     | .refused _ => false) = true := by decide

/-- Authority has just been released: a desk state change and shares of the teardown are outstanding. -/
def tearing : State :=
  { svc with
    handed := [.deskStateChange (.active .a), .noDeskTeardown .tdu .a true, .noticeRaise .deskChange,
      .noDeskTeardown .rtu .a true, .tachPulse] }

/-- A unit's events are taken in the order handed on, so the DESK entry ends as NO_DESK has it; notices and what
came after the last share wait. -/
theorem test_teardown_keeps_the_order :
    tearing.completeTeardown.tdu.ceilings[0].active = true ∧
    tearing.completeTeardown.handed = [.noticeRaise .deskChange, .tachPulse] := by decide

/-- A moving report that stands before a share of the teardown reaches the desk authority unit with the traction
unit, so a claim behind it is refused (R33). -/
theorem test_moving_report_before_a_claim :
    (match exec (.deskClaim .deskA false []) { keyedA with
        handed := [.movingReport .dau, .movingReport .tdu, .noDeskTeardown .lcu .a true] } with
     | .next t => (t.pif.get .deskA).response == ⟨.refused, .wrongState, []⟩ && t.dau.motion == .moving
         && t.handed == []
     | .fault _ => false
     | .refused _ => false) = true := by decide

theorem witness_teardown :
    SoundOk ({ svc with sdu := playing } : State).sdu ∧ SoundPlays playing ∧ teardownDone svc ∧
    (tearing.handed = [] ++ .deskStateChange (.active .a) :: tearing.handed.tail ∧
      shareRow (.deskStateChange (.active .a)) = true ∧ ∃ e ∈ tearing.handed, deskEvent e = true) ∧
    (let s : State := { svc with handed := [.tachPulse, .leadingEndPublished .none] }
     s.handed = [.tachPulse] ++ .leadingEndPublished .none :: [] ∧ (∀ e ∈ s.handed, deskEvent e = false) ∧
      (∀ e ∈ [Instr.tachPulse], shareConsequence e = false) ∧ shareConsequence (.leadingEndPublished .none) = true) :=
  ⟨soundOk_playing, soundPlays_playing, nothingOutstanding rfl,
    ⟨rfl, rfl, _, List.mem_cons_self, rfl⟩, ⟨rfl, by decide, by decide, rfl⟩⟩

theorem witness_bad_words :
    (let s : State := { State.reset with bad := [.entry .ceilings 8 0] }
     servedRow .frameTimerExpiry = false ∧ onePoint .frameTimerExpiry = true ∧
      (∃ t, exec .frameTimerExpiry s = .next t) ∧ ∃ u, exec .frameTimerExpiry { s with bad := [] } = .next u) ∧
    (let s : State := { State.reset with bad := [.field .settings 0] }
     teardownDone s) ∧
    (let s : State := { deskA with bad := [.field .stops 0] }
     (.stopClear, .sru, stopWords) ∈ wordReaders s .deskA ∧ CommandReaches s .deskA false .stopClear [] ∧
      ArgumentsFit [] .stopClear ∧ meetsBad s stopWords = true ∧
      CommandReaches s .deskA false .stopSet (putEnum stopKindList .wheelchair) ∧
      meetsBad s (stopSetReads s .wheelchair) = true) ∧
    (let s : State := { deskA with bad := [.entry .patterns 1 0] }
     CommandReaches s .deskA false .soundStart (putStartArgs startBell) ∧ MayPlay s.dau.state .deskA .bell ∧
      meetsBad s (offerReads s.settings s.sdu (portCall .deskA startBell)) = true) ∧
    (let s : State := { deskA with sdu := playing, bad := [.request .deskA .bell 0] }
     CommandReaches s .deskA false .soundStop (putEnum allSounders .bell) ∧
      meetsBad s (removeReads s.settings s.sdu (portSource .deskA) .bell) = true) ∧
    (let s : State := { guarded with bad := [.field .settings (settingPlace .repeats)] }
     CommandReaches s .deskA false .routeSetCode (putNat16 18 ++ putNat8 5) ∧
      meetsBad s (routeReads (setCodeSettings s.rtu 18)) = true) :=
  ⟨⟨rfl, rfl, ⟨_, rfl⟩, ⟨_, rfl⟩⟩, nothingOutstanding rfl,
    ⟨by simp [wordReaders], reaches (by decide), rfl, by decide, reaches (by decide), by decide⟩,
    ⟨reaches (by decide), .inr ⟨.a, rfl, .inr ⟨.inr rfl, rfl⟩⟩, by decide⟩, ⟨reaches (by decide), by decide⟩,
    reaches (by decide), by decide⟩

/-- A bad setting that only a rearming uses does not turn the new code of a QUEUED entry away (R102, R125), nor a bad
last stop event a clear of the stop record (R147, R157). -/
theorem test_words_a_command_does_not_use :
    (let response := fun (p : Port) (o : Host.Outcome State Fault Refusal) => match o with
       | .next t => some ((t.pif.get p).response.status, (t.pif.get p).response.reason)
       | .fault _ => none
       | .refused _ => none
     let code := fun (e : PlanEntry) => exec (.routeSetCode .deskA false (putNat16 18 ++ putNat8 5))
       { planned [e] 15 [] none with bad := [.field .settings (settingPlace .guardTime)] }
     response .deskA (code (entry 18 .queued 0)) = some (.done, .none) ∧
      response .deskA (code (entry 18 .armed 1)) = some (.refused, .storeError) ∧
      response .supervisor (exec (.stopClear .supervisor false []) { svc with bad := [.field .stops 4] })
        = some (.done, .none)) := by decide

/-- A frame composed from a bad ceiling entry raises the fault; a sample point that completes a reply, and a
selection that composes a telegram, read the words of the plan and the stops they use. -/
theorem test_own_work_raises :
    (match exec .frameTimerExpiry { State.reset with bad := [.entry .ceilings 8 0] } with
     | .next t => t.handed == [.severeFault .storeParity .tdu (.record .ceilings) false (some 0)]
     | .fault _ => false
     | .refused _ => false) = true ∧
    (match exec .owedReport { selecting [owing] [] .clear with bad := [.field .vehicle 0] } with
     | .next t => t.handed == [.severeFault .storeParity .rtu (.record .vehicle) false none]
     | .fault _ => false
     | .refused _ => false) = true := by decide

/-- Tables without a cell that reads another, and with no TACH_INPUT line. -/
theorem coherent_reset : Coherent State.reset := by
  have none : ∀ k : Fin 32, MatrixTables.reset.lines[k].group ≠ .tachInput := by decide
  exact ⟨⟨acyclic_of_no_reads (by decide), acyclic_of_no_reads (by decide), fun ⟨i, _, _, h, _⟩ => none i h,
    fun ⟨i, _, _, h, _⟩ => none i h⟩, ⟨by decide, by decide⟩, by decide, fun _ => rfl⟩

theorem witness_kept : Kept State.reset ∧ Coherent State.reset ∧ ∃ t, step State.reset = .next t := by
  refine ⟨⟨fun p r h => ?_, by decide, ⟨by decide, by decide⟩, ⟨by decide, by decide⟩, ⟨by decide, by decide⟩, rfl⟩,
    coherent_reset, ⟨_, rfl⟩⟩
  cases p <;> simp [State.reset, PerPort.get] at h

end Sys2Proof.Machine.Test
end

namespace Sys2Proof.Machine

/-! ### The idle step (log 2) -/

theorem step_of_pending_nil {s : State} (h : s.pending = []) : step s = idle s := by
  simp only [step, h]

theorem idle_of_handed_nil {s : State} (h : s.handed = []) : idle s = .next s.serveChoice := by
  simp only [idle, h]

theorem serveChoice_of_choice {s : State} {p : Port} {r : Request} (hp : arbiterChoice s = some p)
    (hr : (s.pif.get p).waiting = some r) : s.serveChoice = s.serve p r := by
  simp only [State.serveChoice, hp, hr]

/-- R16: the arbiter chooses among the requests that wait. -/
theorem isWaiting_of_choice {s : State} {p : Port} (h : arbiterChoice s = some p) : isWaiting s p = true := by
  unfold arbiterChoice at h
  split at h
  case isTrue hs =>
    cases h
    exact (Bool.and_eq_true_iff.mp hs).1
  case isFalse => exact List.find?_some h

theorem serveChoice_of_none_waiting {s : State} (h : ∀ p, (s.pif.get p).waiting = none) :
    s.serveChoice = s := by
  unfold State.serveChoice
  split
  case h_1 p hp =>
    have := isWaiting_of_choice hp
    simp [isWaiting, h p] at this
  case h_2 => rfl

/-- Settles O2: the three cases of the idle step. -/
theorem emptyQueueTakesHandedEventsThenRequests : Obligations.EmptyQueueTakesHandedEventsThenRequests := by
  intro s hp
  rw [step_of_pending_nil hp]
  refine ⟨fun c rest h => ?_, fun p r h hc hr => ?_, fun h hw => ?_⟩
  · simp only [idle, h]
  · rw [idle_of_handed_nil h, serveChoice_of_choice hc hr]
  · rw [idle_of_handed_nil h, serveChoice_of_none_waiting hw]

/-! ### The desk record's words and rows -/

theorem Dau.rewrote_leading (x : Dau) (e : LeadingEnd) (w : StoreWord) :
    x.rewrote { x with leading := e } w = (w == .field .desk 2 && x.leading != e) := by
  unfold Dau.rewrote
  split <;> simp_all

/-- R31: the word of the leading end is good from then on, whether or not its value changes. -/
theorem filter_leading (x : Dau) (e : LeadingEnd) (l : List StoreWord) :
    (l.filter fun w => !(x.rewrote { x with leading := e } w || notedWords [] w)).filter
        (fun w => !fieldWords .desk [2] w) = l.filter fun w => w != .field .desk 2 := by
  rw [List.filter_filter]
  congr 1
  funext w
  rw [Dau.rewrote_leading]
  cases h : w == .field .desk 2 <;> simp [h, fieldWords, bne]

theorem execLeadingEndPublished_eq (e : LeadingEnd) (s : State) :
    execLeadingEndPublished e s = .next { s with
      dau := { s.dau with leading := e }
      lcu := { s.lcu with leading := e }
      bad := s.bad.filter fun w => w != .field .desk 2
      handed := s.handed.erase (.leadingEndPublished e) } := by
  have h := filter_leading s.dau e s.bad
  simp only [execLeadingEndPublished, State.putLcu, State.rewrite, State.putDau, State.take, List.append_nil, h]

/-- Settles O14: a report empties the slots that name its record; a published end is stored in the two units. -/
theorem structuralChangesAndPublishedEndsAreTaken : Obligations.StructuralChangesAndPublishedEndsAreTaken :=
  ⟨fun r _ => ⟨_, rfl, rfl, fun p => get_emptySlots r _ p⟩, fun e s => execLeadingEndPublished_eq e s⟩

end Sys2Proof.Machine

namespace Sys2Proof.Machine

/-! ### Changes of the desk record (R24, R28, R29) -/

/-- R24, R32: the fall of a desk's authority to NO_DESK that no command makes. -/
def fallNews (d : Desk) : List Instr :=
  [.noticeRaise .deskChange, .structuralChangeReport .desk, .conditionChange (deskCondition d) false,
    .noDeskTeardown .tdu d false, .noDeskTeardown .rtu d false, .noDeskTeardown .sru d false,
    .noDeskTeardown .sdu d false, .noDeskTeardown .lcu d false]

@[simp] theorem deskHolder_noDesk : deskHolder .noDesk = none := rfl

@[simp] theorem deskHolder_active (d : Desk) : deskHolder (.active d) = some d := rfl

@[simp] theorem deskHolder_releasing (d : Desk) : deskHolder (.releasing d) = some d := rfl

theorem Dau.change_noDesk {x : Dau} {d : Desk} (h : deskHolder x.state = some d) (cause : LastChange) :
    x.change .noDesk cause false = ({ x with state := .noDesk, lastChange := cause }, fallNews d) := by
  cases d <;> simp [Dau.change, deskConditions, holdsDesk, h, deskHandOn, teardownEvents, fallNews,
    deskCondition]

/-- R28: the change from ACTIVE_x to RELEASING_x leaves the desk's authority, and with it its condition. -/
theorem Dau.change_releasing {x : Dau} {d : Desk} (h : deskHolder x.state = some d) (cause : LastChange) :
    x.change (.releasing d) cause false = ({ x with state := .releasing d, lastChange := cause },
      [.noticeRaise .deskChange, .structuralChangeReport .desk, .deskStateChange (.releasing d)]) := by
  simp [Dau.change, deskConditions, holdsDesk, h, deskHandOn]

/-- R28, R30: what a key permit event makes of the desk record, and what it hands on. -/
theorem Dau.keyEvent_eq (x : Dau) (d : Desk) (value : Bool) :
    x.keyEvent d value =
      let seen := { x with keySeen := x.keySeen.set d value }
      if x.state = .active d ∧ value = false then
        if x.motion = .standstill then
          ({ seen with state := .noDesk, lastChange := .keyRemovedAtStandstill }, fallNews d)
        else ({ seen with state := .releasing d, lastChange := .keyRemovedMoving },
          [.noticeRaise .deskChange, .structuralChangeReport .desk, .deskStateChange (.releasing d)])
      else if x.state = .active (otherDesk d) ∧ value = true then
        ({ seen with lastChange := .keyConflict }, [.noticeRaise .deskChange])
      else (seen, []) := by
  obtain ⟨st, leading, seen, last, motion⟩ := x
  have hother : d ≠ otherDesk d := by cases d <;> decide
  cases st with
  | noDesk => simp [Dau.keyEvent]
  | releasing h => simp [Dau.keyEvent]
  | active h =>
    by_cases hd : h = d
    · subst hd
      cases value with
      | true => simp [Dau.keyEvent, hother]
      | false =>
        cases motion with
        | standstill => simpa [Dau.keyEvent] using Dau.change_noDesk rfl _
        | moving => simpa [Dau.keyEvent] using Dau.change_releasing rfl _
    · have hd' : h = otherDesk d := by cases h <;> cases d <;> simp_all [otherDesk]
      subst hd'
      cases value <;> simp [Dau.keyEvent, hd]

/-- An event of the DAU changes its record, makes words good and hands on the faults before its news. -/
theorem State.dauEvent_eq (s : State) (r : Dau × List Instr) :
    s.dauEvent r = { s with
      dau := r.1
      bad := s.bad.filter fun w => !(s.dau.rewrote r.1 w
        || notedWords (parityFaults s .dau deskWords none ++ r.2) w)
      handed := s.handed ++ parityFaults s .dau deskWords none ++ r.2 } := by
  simp only [State.dauEvent, State.putDau, List.append_assoc]

/-- Settles O16: a key event at the state is the key event of the desk record. -/
theorem keyEventsChangeTheDeskRecordAsTheTablesSay :
    Obligations.KeyEventsChangeTheDeskRecordAsTheTablesSay := by
  intro d value s
  let t := (s.take (.keyPermitEvent d value)).dauEvent (s.dau.keyEvent d value)
  refine ⟨(t.rewrite (seenWord d)).bad, List.filter_sublist.trans List.filter_sublist, ?_, ?_⟩
  · simp [seenWord, fieldWords]
  · have key := Dau.keyEvent_eq s.dau d value
    have run : exec (.keyPermitEvent d value) s = .next { s with
        dau := (s.dau.keyEvent d value).1
        bad := (t.rewrite (seenWord d)).bad
        handed := s.handed.erase (.keyPermitEvent d value) ++ parityFaults s .dau deskWords none
          ++ (s.dau.keyEvent d value).2 } := by
      change Host.Outcome.next (t.rewrite (seenWord d)) = _
      simp only [t, State.dauEvent_eq]
      rfl
    rw [run, key]
    dsimp only
    split
    · split <;> rfl
    · split <;> rfl

/-! ### Motion reports at the DAU (R29) -/

/-- The word of the motion is no word of the record. -/
theorem Dau.rewrote_motion (x : Dau) (m : Motion) (w : StoreWord) :
    x.rewrote { x with motion := m } w = false := by
  unfold Dau.rewrote
  split <;> simp

theorem Dau.standstill_releasing (x : Dau) {d : Desk} (h : x.state = .releasing d) :
    x.standstill =
      ({ x with state := .noDesk, lastChange := .releaseCompleted, motion := .standstill }, fallNews d) := by
  obtain ⟨st, leading, seen, last, motion⟩ := x
  subst h
  exact Dau.change_noDesk (x := ⟨.releasing d, leading, seen, last, .standstill⟩) rfl _

theorem Dau.standstill_other (x : Dau) (h : ∀ d, x.state ≠ .releasing d) :
    x.standstill = ({ x with motion := .standstill }, []) := by
  obtain ⟨st, leading, seen, last, motion⟩ := x
  cases st with
  | releasing d => exact absurd rfl (h d)
  | active d => rfl
  | noDesk => rfl

theorem notedWords_parityFaults (s : State) (u : UnitName) (reads : StoreWord → Bool) (effort : Option Int)
    (w : StoreWord) : notedWords (parityFaults s u reads effort) w = false := by
  simp [notedWords, parityFaults]

/-- Settles O17: only RELEASING_x ends with a standstill report. -/
theorem standstillEndsReleasingAndOtherMotionLeavesTheDeskRecord :
    Obligations.StandstillEndsReleasingAndOtherMotionLeavesTheDeskRecord := by
  intro s
  have run : exec (.standstillReport .dau) s =
      .next ((s.take (.standstillReport .dau)).dauEvent s.dau.standstill) := rfl
  refine ⟨fun d hd => ?_, fun hne => ?_, ?_⟩
  · have change := s.dau.standstill_releasing hd
    rw [run, change, State.dauEvent_eq]
    exact ⟨_, List.filter_sublist, rfl⟩
  · have change := s.dau.standstill_other hne
    rw [run, change, State.dauEvent_eq]
    simp only [List.append_nil, State.take, notedWords_parityFaults, Dau.rewrote_motion, Bool.or_false,
      Bool.not_false, List.filter_true]
    rfl
  · change Host.Outcome.next ((s.take _).putDau s.dau.moving []) = _
    simp only [State.putDau_nil, State.take, Dau.moving, Dau.rewrote_motion, Bool.not_false, List.filter_true]

end Sys2Proof.Machine

namespace Sys2Proof.Machine

/-! ### Metres and pulses (R83 to R87) -/

/-- R94: the actions that a metre brings to 0. -/
def dueActions (as : List PendingAction) : List PendingAction := as.filter fun a => decide (a.remaining ≤ 1)

/-- R87: one of them is an ARM_ROUTE. -/
def armsDue (as : List PendingAction) : Bool := (dueActions as).any fun a => a.act.action == .armRoute

/-- R94: what they are delivered as. -/
def firedActions (as : List PendingAction) : List Instr :=
  (dueActions as).map fun a => deliveredAs a.entry a.beacon a.act

/-- R86: the unit after a metre. -/
theorem Lcu.metre_eq (cfg : Settings) (h : 0 < cfg.windowLength) (l : Lcu) :
    l.metre cfg =
      ({ l with
          distance := min 65535 (l.distance + 1)
          window := if armsDue l.actions then max (l.window - 1) cfg.windowLength else l.window - 1
          actions := (l.actions.filter fun a => decide (1 < a.remaining)).map fun a =>
            { a with remaining := a.remaining - 1 }
          lastEvent := notedAs ((dueActions l.actions).map fun a => (a.entry, a.beacon, a.act)) l.lastEvent },
        (if l.window = 1 then [.windowClose] else [])
          ++ (if l.window ≤ 1 then openingFirst (firedActions l.actions) else firedActions l.actions)) := by
  have hc : (l.actions.filter fun a => !decide (a.remaining ≤ 1)) =
      l.actions.filter fun a => decide (1 < a.remaining) :=
    List.filter_congr fun a _ => decide_not.symm.trans (decide_eq_decide.mpr Nat.not_le)
  have hw : (l.window - 1 = 0) = (l.window ≤ 1) := by rw [eq_iff_iff]; omega
  simp only [Lcu.metre, fireDue_eq cfg h, countDown, hc, hw, Config.distanceTop, beq_iff_eq]
  rfl

theorem armsAtPulse_eq (cfg : Settings) (l : Lcu) :
    armsAtPulse cfg l = (decide (cfg.pulsesPerMetre ≤ l.pulses + 1) && armsDue l.actions) := by
  simp only [armsAtPulse, armsDue, dueActions, List.any_filter]

/-- R83, R84: the unit after a pulse, and what the pulse hands on. -/
theorem Lcu.pulse_eq (cfg : Settings) (h : 0 < cfg.windowLength) (l : Lcu) :
    l.pulse cfg =
      let whole : Bool := decide (cfg.pulsesPerMetre ≤ l.pulses + 1)
      ({ l with
          pulses := if whole then 0 else l.pulses + 1
          distance := if whole then min 65535 (l.distance + 1) else l.distance
          window := if whole then (if armsDue l.actions then max (l.window - 1) cfg.windowLength else l.window - 1)
            else l.window
          actions := if whole
            then (l.actions.filter fun a => decide (1 < a.remaining)).map fun a =>
              { a with remaining := a.remaining - 1 }
            else l.actions
          standstillTimer := some cfg.standstillWindow
          motion := if l.motion = .standstill ∧ l.firstPulse = true then .moving else l.motion
          firstPulse := if l.motion = .standstill then !l.firstPulse else l.firstPulse
          lastEvent := if whole
            then notedAs ((dueActions l.actions).map fun a => (a.entry, a.beacon, a.act)) l.lastEvent
            else l.lastEvent },
        (if whole then
            (if l.window = 1 then [.windowClose] else [])
              ++ (if l.window ≤ 1 then openingFirst (firedActions l.actions) else firedActions l.actions)
          else [])
        ++ (if l.motion = .standstill ∧ l.firstPulse = true then movingReports else [])) := by
  have hcount : l.countPulse cfg = if cfg.pulsesPerMetre ≤ l.pulses + 1
      then { l with pulses := 0 }.metre cfg else ({ l with pulses := l.pulses + 1 }, []) := rfl
  by_cases hm : cfg.pulsesPerMetre ≤ l.pulses + 1
  · rw [if_pos hm, Lcu.metre_eq cfg h] at hcount
    simp only [Lcu.pulse, hcount, hm, decide_true, if_true]
    cases hmo : l.motion with
    | moving => simp [Lcu.pulseMotion]
    | standstill => cases hf : l.firstPulse <;> simp [Lcu.pulseMotion]
  · rw [if_neg hm] at hcount
    simp only [Lcu.pulse, hcount, hm, decide_false]
    cases hmo : l.motion with
    | moving => simp [Lcu.pulseMotion]
    | standstill => cases hf : l.firstPulse <;> simp [Lcu.pulseMotion]

/-- R84: a timer that is stopped does not expire. -/
theorem Lcu.standstillExpiry_stopped {l : Lcu} (h : l.standstillTimer = none) :
    l.standstillExpiry = (l, []) := by simp only [Lcu.standstillExpiry, h]

theorem Lcu.standstillExpiry_moving {l : Lcu} (h : l.standstillTimer ≠ none) (hm : l.motion = .moving) :
    l.standstillExpiry = ({ l with standstillTimer := none, motion := .standstill }, standstillReports) := by
  obtain ⟨n, hn⟩ := Option.ne_none_iff_exists'.mp h
  simp only [Lcu.standstillExpiry, hn, hm]

theorem Lcu.standstillExpiry_standstill {l : Lcu} (h : l.standstillTimer ≠ none)
    (hm : l.motion = .standstill) :
    l.standstillExpiry = ({ l with standstillTimer := none, firstPulse := false }, []) := by
  obtain ⟨n, hn⟩ := Option.ne_none_iff_exists'.mp h
  simp only [Lcu.standstillExpiry, hn, hm]

/-- Settles O28: a pulse and the expiry of the standstill timer are the unit's own functions at the state. -/
theorem pulsesCountMetresAndDecideMotion : Obligations.PulsesCountMetresAndDecideMotion := by
  refine ⟨fun s hw => ?_, fun s => ⟨fun ht => ?_, fun ht hm => ?_, fun ht hm => ?_⟩⟩
  · have run : exec .tachPulse s = .next ((s.take .tachPulse).putLcu (s.lcu.pulse s.settings).1
        (parityFaults s .lcu (pulseReads s.settings s.lcu) none ++ (s.lcu.pulse s.settings).2)) := rfl
    have reads : pulseReads s.settings s.lcu = fun w => settingWords [.pulsesPerMetre, .standstillWindow] w
        || (decide (s.settings.pulsesPerMetre ≤ s.lcu.pulses + 1) && armsDue s.lcu.actions
          && settingWords [.windowLength] w) := by
      funext w
      rw [pulseReads, armsAtPulse_eq]
    rw [run, reads, Lcu.pulse_eq _ hw]
    simp only [State.putLcu, State.take, List.append_assoc]
    rfl
  all_goals
    have run : exec .standstillTimerExpiry s = .next ((s.take .standstillTimerExpiry).putLcu
      s.lcu.standstillExpiry.1 s.lcu.standstillExpiry.2) := rfl
  · rw [run, Lcu.standstillExpiry_stopped ht, State.putLcu_nil]
    rfl
  · rw [run, Lcu.standstillExpiry_moving ht hm]
    rfl
  · rw [run, Lcu.standstillExpiry_standstill ht hm, State.putLcu_nil]
    rfl

end Sys2Proof.Machine

namespace Sys2Proof.Machine

/-! ### Readers that take exactly one layout (R191) -/

/-- A reader takes exactly what `put` lays out of the values that are `ok`, and leaves the rest. -/
def Exact {α : Type} (get : Reader α) (put : α → List Byte) (ok : α → Prop) : Prop :=
  ∀ (l : List Byte) (x : α) (rest : List Byte), get l = some (x, rest) ↔ ok x ∧ l = put x ++ rest

section
variable {α β : Type} {get : Reader α} {put : α → List Byte} {ok : α → Prop}

/-- R191: of a whole payload nothing but padding is left. -/
theorem Exact.readAll_iff (h : Exact get put ok) (l : List Byte) (x : α) :
    readAll get l = some x ↔ ok x ∧ Carries l (put x) := by
  simp only [readAll, Option.bind_eq_bind, Option.bind_eq_some_iff, Prod.exists, h l, Carries]
  constructor
  · rintro ⟨y, rest, ⟨hy, rfl⟩, h2⟩
    split at h2
    · cases h2
      exact ⟨hy, rest, ‹_›, rfl⟩
    · cases h2
  · rintro ⟨hx, rest, hr, rfl⟩
    exact ⟨x, rest, ⟨hx, rfl⟩, by simp [hr]⟩

theorem Exact.congr {put' : α → List Byte} {ok' : α → Prop} (h : Exact get put ok)
    (hput : ∀ x, put x = put' x) (hok : ∀ x, ok x ↔ ok' x) : Exact get put' ok' := by
  intro l x rest
  rw [h l x rest, hput, hok]

/-- A field taken first, and the others behind it: `p` is the field's value in what is made of them. -/
theorem Exact.bind {f : α × List Byte → Option (β × List Byte)} {put' : β → List Byte}
    {ok' : α → β → Prop} (p : β → α) (h : Exact get put ok)
    (hf : ∀ a, Exact (fun l => f (a, l)) put' (ok' a)) (hp : ∀ a x, ok a → ok' a x → p x = a := by intro _ _ _ h; grind) :
    Exact (fun l => get l >>= f) (fun x => put (p x) ++ put' x) (fun x => ok (p x) ∧ ok' (p x) x) := by
  intro l x rest
  simp only [Option.bind_eq_bind, Option.bind_eq_some_iff, Prod.exists, h l]
  constructor
  · rintro ⟨a, r, ⟨ha, rfl⟩, hr⟩
    obtain ⟨hx, rfl⟩ := (hf a r x rest).mp hr
    obtain rfl := hp a x ha hx
    exact ⟨⟨ha, hx⟩, by simp⟩
  · rintro ⟨⟨ha, hx⟩, rfl⟩
    exact ⟨p x, put' x ++ rest, ⟨ha, by simp⟩, (hf _ _ _ _).mpr ⟨hx, rfl⟩⟩

/-- Nothing is left to take. -/
theorem Exact.pure (v : α) : Exact (fun l => some (v, l)) (fun _ => []) (fun x => x = v) := by
  intro l x rest
  simp [eq_comm]

/-! ### One field -/

theorem getOctet_exact : Exact getOctet (fun b => [b]) (fun _ => True) := by
  intro l x rest
  cases l <;> simp [getOctet]

theorem getNat8_exact {lo hi : Nat} (h : hi ≤ 255 := by decide) :
    Exact (getNat8 lo hi) putNat8 (fun n => lo ≤ n ∧ n ≤ hi) := by
  intro l x rest
  constructor
  · intro he
    cases l with
    | nil => cases he
    | cons b l =>
      simp only [getNat8, getOctet_cons, Option.bind_eq_bind, Option.bind_some] at he
      split at he
      · cases he
        exact ⟨‹_›, by simp [putNat8]⟩
      · cases he
  · rintro ⟨⟨h1, h2⟩, rfl⟩
    exact getNat8_putNat8 h1 h2 h rest

theorem getNat16_exact {lo hi : Nat} (h : hi ≤ 65535 := by decide) :
    Exact (getNat16 lo hi) putNat16 (fun n => lo ≤ n ∧ n ≤ hi) := by
  intro l x rest
  constructor
  · intro he
    match l with
    | [] => cases he
    | [_] => cases he
    | a :: b :: l =>
      simp only [getNat16, getOctet_cons, Option.bind_eq_bind, Option.bind_some] at he
      split at he
      · cases he
        refine ⟨‹_›, ?_⟩
        have ha : BitVec.ofNat 8 ((a.toNat * 256 + b.toNat) / 256) = a := by
          apply BitVec.eq_of_toNat_eq
          simp only [BitVec.toNat_ofNat]
          omega
        have hb : BitVec.ofNat 8 (a.toNat * 256 + b.toNat) = b := by
          apply BitVec.eq_of_toNat_eq
          simp only [BitVec.toNat_ofNat]
          omega
        simp [putNat16, ha, hb]
      · cases he
  · rintro ⟨⟨h1, h2⟩, rfl⟩
    exact getNat16_putNat16 h1 h2 h rest

theorem getInt8_exact {lo hi : Int} (h1 : -128 ≤ lo := by decide) (h2 : hi ≤ 127 := by decide) :
    Exact (getInt8 lo hi) putInt8 (fun z => lo ≤ z ∧ z ≤ hi) := by
  intro l x rest
  constructor
  · intro he
    cases l with
    | nil => cases he
    | cons b l =>
      simp only [getInt8, getOctet_cons, Option.bind_eq_bind, Option.bind_some] at he
      split at he
      · cases he
        exact ⟨‹_›, by simp [putInt8]⟩
      · cases he
  · rintro ⟨⟨h3, h4⟩, rfl⟩
    exact getInt8_putInt8 h3 h4 h1 h2 rest

theorem getFlag_exact : Exact getFlag putFlag (fun _ => True) := by
  intro l x rest
  constructor
  · intro he
    cases l with
    | nil => cases he
    | cons b l =>
      simp only [getFlag, getOctet_cons, Option.bind_eq_bind, Option.bind_some] at he
      split at he
      · cases he
        exact ⟨trivial, by simp [putFlag, *]⟩
      · split at he
        · cases he
          exact ⟨trivial, by simp [putFlag, *]⟩
        · cases he
  · rintro ⟨-, rfl⟩
    exact getFlag_putFlag x rest

/-- An enumeration is read by its place in the list of all its values. -/
theorem getEnum_exact [DecidableEq α] {all : List α} (hall : ∀ x, x ∈ all := by intro x; cases x <;> decide)
    (hn : all.Nodup := by decide) (hlen : all.length ≤ 256 := by decide) : Exact (getEnum all) (putEnum all) (fun _ => True) := by
  intro l x rest
  constructor
  · intro he
    cases l with
    | nil => cases he
    | cons b l =>
      simp only [getEnum, getOctet_cons, Option.bind_eq_bind, Option.bind_some, Option.bind_eq_some_iff] at he
      obtain ⟨y, hy, he⟩ := he
      cases he
      obtain ⟨hi, rfl⟩ := List.getElem?_eq_some_iff.mp hy
      exact ⟨trivial, by simp [putEnum, codeIn, hn.idxOf_getElem]⟩
  · rintro ⟨-, rfl⟩
    exact getEnum_putEnum (hall x) hlen rest

theorem getFin_exact {n : Nat} (h : n ≤ 256 := by decide) : Exact (getFin n) (fun i => putNat8 i.val) (fun _ => True) := by
  intro l x rest
  constructor
  · intro he
    cases l with
    | nil => cases he
    | cons b l =>
      simp only [getFin, getOctet_cons, Option.bind_eq_bind, Option.bind_some] at he
      split at he
      · cases he
        exact ⟨trivial, by simp [putNat8]⟩
      · cases he
  · rintro ⟨-, rfl⟩
    exact getFin_putNat8 x h rest

theorem getOpt_exact (h : Exact get put ok) :
    Exact (getOpt get) (putOpt put) (fun o => ∀ x, o = some x → ok x) := by
  intro l o rest
  constructor
  · intro he
    simp only [getOpt, Option.bind_eq_bind, Option.bind_eq_some_iff, Prod.exists, getFlag_exact l] at he
    obtain ⟨here, r, ⟨-, rfl⟩, he⟩ := he
    cases here with
    | false => cases he; exact ⟨by simp, rfl⟩
    | true =>
      simp only [if_true, Option.bind_eq_some_iff, Prod.exists, h r] at he
      obtain ⟨x, r', ⟨hx, rfl⟩, he⟩ := he
      cases he
      exact ⟨by simpa using hx, rfl⟩
  · rintro ⟨ho, rfl⟩
    exact getOpt_putOpt o (fun x l hx => (h _ _ _).mpr ⟨ho x hx, rfl⟩) rest

theorem getMany_exact (h : Exact get put ok) (n : Nat) :
    Exact (getMany get n) (fun xs => xs.flatMap put) (fun xs => xs.length = n ∧ ∀ x ∈ xs, ok x) := by
  induction n with
  | zero => intro l xs rest; cases xs <;> simp [getMany, eq_comm]
  | succ n ih =>
    intro l xs rest
    constructor
    · intro he
      simp only [getMany, Option.bind_eq_bind, Option.bind_eq_some_iff, Prod.exists, h l] at he
      obtain ⟨x, r, ⟨hx, rfl⟩, ys, r', hys, he⟩ := he
      obtain ⟨⟨hlen, hok⟩, rfl⟩ := (ih _ _ _).mp hys
      cases he
      exact ⟨⟨by simp [hlen], by simpa using ⟨hx, hok⟩⟩, by simp⟩
    · rintro ⟨⟨hlen, hok⟩, rfl⟩
      rw [← hlen]
      exact getMany_flatMap xs (fun x hx l => (h _ _ _).mpr ⟨hok x hx, rfl⟩) rest

theorem toTable_eq_some {n : Nat} {xs : List α} {t : Table α n} : toTable n xs = some t ↔ xs = t.toList := by
  constructor
  · intro h
    unfold toTable at h
    split at h
    · cases h; simp
    · cases h
  · rintro rfl
    exact toTable_toList t

theorem getTable_exact {n : Nat} (h : Exact get put ok) :
    Exact (getTable get n) (fun t => t.toList.flatMap put) (fun t => ∀ x ∈ t.toList, ok x) := by
  intro l t rest
  simp only [getTable, Option.bind_eq_bind, Option.bind_eq_some_iff, Prod.exists, getMany_exact h n l,
    toTable_eq_some]
  constructor
  · rintro ⟨xs, r, ⟨⟨-, hok⟩, rfl⟩, t', rfl, he⟩
    cases he
    exact ⟨hok, rfl⟩
  · rintro ⟨hok, rfl⟩
    exact ⟨t.toList, rest, ⟨⟨by simp, hok⟩, rfl⟩, t, rfl, rfl⟩

end
end Sys2Proof.Machine

namespace Sys2Proof.Machine

/-! ### Entries, records and arguments (R37 to R171, 11.2) -/

theorem getLine_exact : Exact getLine putLine (fun e => e.ok = true) := by
  refine (Exact.bind LineEntry.group getEnum_exact fun _ =>
    Exact.bind LineEntry.debounce getNat8_exact fun _ =>
    Exact.bind LineEntry.cell getFin_exact fun _ =>
    Exact.bind LineEntry.sounder getEnum_exact fun _ =>
    Exact.bind LineEntry.stateFn getEnum_exact fun _ =>
    Exact.bind LineEntry.drive getEnum_exact fun _ => Exact.pure _).congr (fun e => ?_) (fun e => ?_)
  · simp [putLine]
  · simp [LineEntry.ok]

theorem getCellSource_exact : Exact getCellSource putCellSource (fun _ => True) := by
  intro l x rest
  constructor
  · intro he
    simp only [getCellSource, Option.bind_eq_bind, Option.bind_eq_some_iff, Prod.exists, getOctet_exact l] at he
    obtain ⟨c, r, ⟨-, rfl⟩, he⟩ := he
    refine ⟨trivial, ?_⟩
    split_ifs at he with h0 h1 h2 h3
    · simp only [Option.bind_eq_some_iff, Prod.exists, getFin_exact (n := 32) (by decide) r] at he
      obtain ⟨n, r', ⟨-, rfl⟩, he⟩ := he
      cases he
      simp [putCellSource, putNat8, h0]
    · simp only [Option.bind_eq_some_iff, Prod.exists, getFin_exact (n := 16) (by decide) r] at he
      obtain ⟨n, r', ⟨-, rfl⟩, he⟩ := he
      cases he
      simp [putCellSource, putNat8, h1]
    · simp only [Option.bind_eq_some_iff, Prod.exists, getOctet_exact r] at he
      obtain ⟨z, r', ⟨-, rfl⟩, he⟩ := he
      split_ifs at he with hz
      cases he
      simp [putCellSource, h2, hz]
    · have hk : Exact (getEnum conditionList) (putEnum conditionList) fun _ => True := getEnum_exact
      simp only [Option.bind_eq_some_iff, Prod.exists, hk r] at he
      obtain ⟨k, r', ⟨-, rfl⟩, he⟩ := he
      cases he
      simp [putCellSource, putEnum, h3]
  · rintro ⟨-, rfl⟩
    cases x with
    | line n =>
      have read := getFin_putNat8 n (by decide) rest
      rw [putNat8, List.singleton_append] at read
      simp [getCellSource, putCellSource, getOctet_cons, read]
    | cell n =>
      have read := getFin_putNat8 n (by decide) rest
      rw [putNat8, List.singleton_append] at read
      simp [getCellSource, putCellSource, getOctet_cons, read]
    | constantTrue => simp [getCellSource, putCellSource, getOctet_cons]
    | condition c =>
      have read := getEnum_putEnum (all := conditionList) (x := c) (by cases c <;> decide) (by decide) rest
      rw [putEnum, List.singleton_append] at read
      simp [getCellSource, putCellSource, getOctet_cons, read]

theorem getCell_exact : Exact getCell putCell (fun e => e.ok = true) := by
  refine (Exact.bind CellEntry.kind getEnum_exact fun _ =>
    Exact.bind CellEntry.a getCellSource_exact fun _ =>
    Exact.bind CellEntry.aInvert getFlag_exact fun _ =>
    Exact.bind CellEntry.b getCellSource_exact fun _ =>
    Exact.bind CellEntry.bInvert getFlag_exact fun _ =>
    Exact.bind CellEntry.delay getNat16_exact fun _ => Exact.pure _).congr (fun e => ?_) (fun e => ?_)
  · simp [putCell]
  · simp [CellEntry.ok]

theorem getPermitSource_exact : Exact getPermitSource putPermitSource (fun _ => True) := by
  intro l x rest
  constructor
  · intro he
    simp only [getPermitSource, Option.bind_eq_bind, Option.bind_eq_some_iff, Prod.exists, getOctet_exact l] at he
    obtain ⟨c, r, ⟨-, rfl⟩, he⟩ := he
    refine ⟨trivial, ?_⟩
    split_ifs at he with h0 h1 h2 h3
    · simp only [Option.bind_eq_some_iff, Prod.exists, getFin_exact (n := 32) (by decide) r] at he
      obtain ⟨n, r', ⟨-, rfl⟩, he⟩ := he
      cases he
      simp [putPermitSource, putNat8, h0]
    · simp only [Option.bind_eq_some_iff, Prod.exists, getFin_exact (n := 16) (by decide) r] at he
      obtain ⟨n, r', ⟨-, rfl⟩, he⟩ := he
      cases he
      simp [putPermitSource, putNat8, h1]
    all_goals
      simp only [Option.bind_eq_some_iff, Prod.exists, getOctet_exact r] at he
      obtain ⟨z, r', ⟨-, rfl⟩, he⟩ := he
      split_ifs at he with hz
      cases he
    · simp [putPermitSource, h2, hz]
    · simp [putPermitSource, h3, hz]
  · rintro ⟨-, rfl⟩
    cases x with
    | line n =>
      have read := getFin_putNat8 n (by decide) rest
      rw [putNat8, List.singleton_append] at read
      simp [getPermitSource, putPermitSource, getOctet_cons, read]
    | cell n =>
      have read := getFin_putNat8 n (by decide) rest
      rw [putNat8, List.singleton_append] at read
      simp [getPermitSource, putPermitSource, getOctet_cons, read]
    | fixedFalse => simp [getPermitSource, putPermitSource, getOctet_cons]
    | fixedTrue => simp [getPermitSource, putPermitSource, getOctet_cons]

theorem getPermit_exact : Exact getPermit putPermit (fun _ => True) := by
  refine (Exact.bind PermitEntry.source getPermitSource_exact fun _ =>
    Exact.bind PermitEntry.invert getFlag_exact fun _ => Exact.pure _).congr (fun e => ?_) (fun e => ?_)
  · simp [putPermit]
  · simp

theorem getAction_exact :
    Exact getAction putAction (fun a => junctionOk a.junction = true ∧ platformOk a.platform = true) := by
  refine (Exact.bind ActionSpec.action getEnum_exact fun _ =>
    Exact.bind ActionSpec.junction getNat16_exact fun _ =>
    Exact.bind ActionSpec.platform getNat8_exact fun _ =>
    Exact.bind ActionSpec.mandatory getFlag_exact fun _ =>
    Exact.bind ActionSpec.pattern getFin_exact fun _ => Exact.pure _).congr (fun e => ?_) (fun e => ?_)
  · simp [putAction]
  · simp [junctionOk, platformOk]

theorem getLocation_exact : Exact getLocation putLocation (fun e => e.ok = true) := by
  refine (Exact.bind LocationEntry.enabled getFlag_exact fun _ =>
    Exact.bind (fun e : LocationEntry => e.matchValue.toNat) getNat16_exact fun _ =>
    Exact.bind (fun e : LocationEntry => e.mask.toNat) getNat16_exact fun _ =>
    Exact.bind LocationEntry.orientation getEnum_exact fun _ =>
    Exact.bind LocationEntry.offset getNat8_exact fun _ =>
    Exact.bind LocationEntry.act getAction_exact fun _ => Exact.pure _).congr (fun e => ?_) (fun e => ?_)
  · simp [putLocation]
  · have hmatch : e.matchValue.toNat ≤ 4095 := Nat.le_of_lt_succ e.matchValue.isLt
    have hmask : e.mask.toNat ≤ 4095 := Nat.le_of_lt_succ e.mask.isLt
    simp [LocationEntry.ok, and_assoc, hmatch, hmask]

/-- R159: times are carried in units of 10 ms. -/
theorem getStep_exact : Exact getStep putStep (fun t => t.ok = true) := by
  refine (Exact.bind (fun t : SoundStep => t.on / 10) getNat8_exact fun _ =>
    Exact.bind (fun t : SoundStep => t.off / 10) getNat8_exact fun _ => Exact.pure _).congr (fun t => ?_) (fun t => ?_)
  · simp [putStep]
  · obtain ⟨on, off⟩ := t
    simp only [SoundStep.ok, SoundStep.mk.injEq, Bool.and_eq_true, decide_eq_true_eq]
    omega

theorem getPattern_exact : Exact getPattern putPattern (fun p => p.ok = true) := by
  refine (Exact.bind (fun p : Pattern => p.steps.length) getNat8_exact fun n =>
    Exact.bind Pattern.steps (getMany_exact getStep_exact n) fun _ =>
    Exact.bind Pattern.repeats getNat8_exact fun _ => Exact.pure _).congr (fun p => ?_) (fun p => ?_)
  · simp [putPattern, putList]
  · simp [Pattern.ok, and_assoc]

theorem getDemand_exact : Exact getDemand putDemand (fun d => d.ok = true) := by
  refine (Exact.bind Demand.lever getInt8_exact fun _ =>
    Exact.bind Demand.selector getEnum_exact fun _ => Exact.pure _).congr (fun e => ?_) (fun e => ?_)
  · simp [putDemand]
  · simp [Demand.ok, effortOk]

theorem getVehicle_exact : Exact getVehicle putVehicle (fun v => v.ok = true) := by
  refine (Exact.bind Vehicle.line getNat16_exact fun _ =>
    Exact.bind Vehicle.run getNat8_exact fun _ => Exact.pure _).congr (fun e => ?_) (fun e => ?_)
  · simp [putVehicle]
  · simp [Vehicle.ok, and_assoc]

theorem getUses_exact : Exact getUses putUses (fun _ => True) := by
  refine (Exact.bind PatternUses.vigilance getFin_exact fun _ =>
    Exact.bind PatternUses.guardAlert getFin_exact fun _ =>
    Exact.bind PatternUses.stopChime getFin_exact fun _ =>
    Exact.bind PatternUses.stopAhead getFin_exact fun _ =>
    Exact.bind PatternUses.lateStop getFin_exact fun _ =>
    Exact.bind PatternUses.wheelchair getFin_exact fun _ =>
    Exact.bind PatternUses.lockdown getFin_exact fun _ =>
    Exact.bind PatternUses.hornDirect getFin_exact fun _ =>
    Exact.bind PatternUses.bellDirect getFin_exact fun _ => Exact.pure _).congr (fun e => ?_) (fun e => ?_)
  · simp [putUses]
  · simp

theorem getSettings_exact : Exact getSettings putSettings (fun c => c.ok = true) := by
  refine (Exact.bind Settings.promotion getNat8_exact fun _ =>
    Exact.bind Settings.releasingCeiling getInt8_exact fun _ =>
    Exact.bind Settings.noDeskCeiling getInt8_exact fun _ =>
    Exact.bind Settings.framePeriod getNat8_exact fun _ =>
    Exact.bind Settings.ramp getNat8_exact fun _ =>
    Exact.bind Settings.staleTime getNat16_exact fun _ =>
    Exact.bind Settings.graceTime getNat16_exact fun _ =>
    Exact.bind Settings.penaltyCeiling getInt8_exact fun _ =>
    Exact.bind Settings.linkLoss getNat8_exact fun _ =>
    Exact.bind Settings.pulsesPerMetre getNat8_exact fun _ =>
    Exact.bind Settings.standstillWindow getNat16_exact fun _ =>
    Exact.bind Settings.windowLength getNat8_exact fun _ =>
    Exact.bind Settings.repeats getNat8_exact fun _ =>
    Exact.bind Settings.guardTime getNat16_exact fun _ =>
    Exact.bind Settings.creep getInt8_exact fun _ =>
    Exact.bind Settings.gap getNat8_exact fun _ =>
    Exact.bind Settings.stationCount getNat8_exact fun _ =>
    Exact.bind Settings.replyTimeout getNat8_exact fun _ =>
    Exact.bind Settings.strikeWidth getNat8_exact fun _ =>
    Exact.bind Settings.tieModes (getTable_exact getEnum_exact) fun _ =>
    Exact.bind Settings.uses getUses_exact fun _ => Exact.pure _).congr (fun e => ?_) (fun e => ?_)
  · unfold putSettings
    simp only [List.append_assoc]
    rw [List.append_nil]
  · simp [Settings.ok, within, withinInt, and_assoc]

theorem getInsertArgs_exact : Exact getInsertArgs putInsertArgs (fun a => a.ok = true) := by
  refine (Exact.bind InsertArgs.position getNat8_exact fun _ =>
    Exact.bind InsertArgs.junction getNat16_exact fun _ =>
    Exact.bind InsertArgs.code getNat8_exact fun _ =>
    Exact.bind InsertArgs.platform (getOpt_exact getNat8_exact) fun _ =>
    Exact.bind InsertArgs.priority getNat8_exact fun _ => Exact.pure _).congr (fun e => ?_) (fun e => ?_)
  · simp [putInsertArgs]
  · obtain ⟨position, junction, code, platform, priority⟩ := e
    cases platform <;> simp [InsertArgs.ok, junctionOk, platformOk, and_assoc]

theorem getStartArgs_exact : Exact getStartArgs putStartArgs (fun a => a.ok = true) := by
  refine (Exact.bind StartArgs.sounder getEnum_exact fun _ =>
    Exact.bind StartArgs.pattern getFin_exact fun _ =>
    Exact.bind StartArgs.priority getNat8_exact fun _ =>
    Exact.bind StartArgs.repeats getNat8_exact fun _ => Exact.pure _).congr (fun e => ?_) (fun e => ?_)
  · simp [putStartArgs]
  · simp [StartArgs.ok]

theorem getCeilingArgs_exact : Exact getCeilingArgs (fun a => putFlag a.1 ++ putInt8 a.2)
    (fun a => withinInt (-100) 100 a.2 = true) := by
  refine (Exact.bind Prod.fst getFlag_exact fun _ =>
    Exact.bind Prod.snd getInt8_exact fun _ => Exact.pure _).congr (fun e => ?_) (fun e => ?_)
  · simp
  · simp [withinInt]

theorem getCodeArgs_exact : Exact getCodeArgs (fun a => putNat16 a.1 ++ putNat8 a.2)
    (fun a => junctionOk a.1 = true ∧ a.2 ≤ 7) := by
  refine (Exact.bind Prod.fst getNat16_exact fun _ =>
    Exact.bind Prod.snd getNat8_exact fun _ => Exact.pure _).congr (fun e => ?_) (fun e => ?_)
  · simp
  · simp [junctionOk]

theorem getJunction_exact : Exact getJunction putNat16 (fun j => junctionOk j = true) :=
  Exact.congr getNat16_exact (fun _ => rfl) (fun j => by simp [junctionOk])

theorem getCauses_exact : Exact getCauses (fun c => putNat16 c.toNat) (fun _ => True) := by
  refine (Exact.bind BitVec.toNat getNat16_exact fun _ => Exact.pure _).congr (fun c => ?_) (fun c => ?_)
  · simp
  · have := c.isLt
    simp
    omega

theorem readAll_getNothing (l : List Byte) : readAll getNothing l = some () ↔ NoArguments l := by
  simp [readAll, getNothing, NoArguments]

/-- Settles O11: each reader takes exactly its layout. -/
theorem payloadsAreReadExactlyAsTheyAreLaidOut : Obligations.PayloadsAreReadExactlyAsTheyAreLaidOut := by
  intro l
  refine ⟨getLine_exact.readAll_iff l, getCell_exact.readAll_iff l, fun e => ?_, getLocation_exact.readAll_iff l,
    getPattern_exact.readAll_iff l, getDemand_exact.readAll_iff l, getVehicle_exact.readAll_iff l,
    getSettings_exact.readAll_iff l, getInsertArgs_exact.readAll_iff l, getStartArgs_exact.readAll_iff l,
    fun active value => getCeilingArgs_exact.readAll_iff l (active, value), fun j code => ?_,
    getJunction_exact.readAll_iff l, fun k => ?_, fun snd => ?_, fun causes => ?_, readAll_getNothing l⟩
  · simpa using getPermit_exact.readAll_iff l e
  · simpa [and_assoc] using getCodeArgs_exact.readAll_iff l (j, code)
  · simpa using (getEnum_exact (all := stopKindList)).readAll_iff l k
  · simpa using (getEnum_exact (all := allSounders)).readAll_iff l snd
  · simpa using getCauses_exact.readAll_iff l causes

end Sys2Proof.Machine

namespace Sys2Proof.Machine

/-! ### The cell graph: placing in graph order finds exactly the cycles (R46, R47) -/

section
variable {t : Table CellEntry 16}

/-- R47: the cells placed so far: each once, and behind every cell that it reads. -/
def PlacedInOrder (t : Table CellEntry 16) (placed : List (Fin 16)) : Prop :=
  placed.Nodup ∧ ∀ c ∈ placed, ∀ y ∈ cellReads t[c], y ∈ placed ∧ placed.idxOf y < placed.idxOf c

theorem nextCell_some {placed : List (Fin 16)} {c : Fin 16} (h : nextCell t placed = some c) :
    c ∉ placed ∧ ∀ y ∈ cellReads t[c], y ∈ placed := by
  have := List.find?_some h
  simpa using this

theorem nextCell_none {placed : List (Fin 16)} (h : nextCell t placed = none) {c : Fin 16}
    (hc : c ∉ placed) : ∃ y ∈ cellReads t[c], y ∉ placed := by
  have := List.find?_eq_none.mp h c (List.mem_finRange c)
  simpa [hc] using this

theorem PlacedInOrder.append {placed : List (Fin 16)} {c : Fin 16} (h : PlacedInOrder t placed)
    (hc : c ∉ placed) (hr : ∀ y ∈ cellReads t[c], y ∈ placed) : PlacedInOrder t (placed ++ [c]) := by
  obtain ⟨hn, ho⟩ := h
  have hidx : ∀ y ∈ placed, (placed ++ [c]).idxOf y = placed.idxOf y := fun y hy =>
    List.idxOf_append_of_mem hy
  refine ⟨List.nodup_append.mpr ⟨hn, List.nodup_singleton c, by simpa using fun a ha (h : a = c) => hc (h ▸ ha)⟩, ?_⟩
  intro x hx y hy
  rcases List.mem_append.mp hx with hx | hx
  · obtain ⟨h1, h2⟩ := ho x hx y hy
    exact ⟨List.mem_append_left _ h1, by rwa [hidx y h1, hidx x hx]⟩
  · obtain rfl := List.mem_singleton.mp hx
    refine ⟨List.mem_append_left _ (hr y hy), ?_⟩
    rw [hidx y (hr y hy), List.idxOf_append_of_notMem hc]
    exact Nat.lt_add_right _ (List.idxOf_lt_length_of_mem (hr y hy))

/-- Placing goes on for as long as a cell can be placed. -/
theorem placeCells_inOrder (n : Nat) : ∀ placed, PlacedInOrder t placed →
    PlacedInOrder t (placeCells t n placed) ∧
      ((placeCells t n placed).length = placed.length + n ∨ nextCell t (placeCells t n placed) = none) := by
  induction n with
  | zero => exact fun placed h => ⟨h, .inl rfl⟩
  | succ n ih =>
    intro placed h
    unfold placeCells
    split
    case h_1 c hc =>
      obtain ⟨h1, h2⟩ := nextCell_some hc
      obtain ⟨h3, h4⟩ := ih _ (h.append h1 h2)
      refine ⟨h3, h4.imp_left fun e => ?_⟩
      rw [e, List.length_append, List.length_singleton]
      omega
    case h_2 hc => exact ⟨h, .inr hc⟩

theorem graphOrder_inOrder (t : Table CellEntry 16) : PlacedInOrder t (graphOrder t) ∧
    ((graphOrder t).length = 16 ∨ nextCell t (graphOrder t) = none) := by
  simpa [graphOrder] using placeCells_inOrder (t := t) 16 [] ⟨List.nodup_nil, by simp⟩

/-- With every cell placed, reading leads backward in the order. -/
theorem not_cyclic_of_all_placed {placed : List (Fin 16)} (h : PlacedInOrder t placed)
    (hall : ∀ c, c ∈ placed) : ¬ Cyclic t := by
  have back : ∀ x y, Relation.TransGen (Reads t) x y → placed.idxOf y < placed.idxOf x := by
    intro x y hxy
    induction hxy with
    | single hr => exact (h.2 x (hall x) _ hr).2
    | tail _ hr ih => exact ((h.2 _ (hall _) _ hr).2).trans ih
  rintro ⟨c, hc⟩
  exact lt_irrefl _ (back c c hc)

/-- Cells of which each reads another of them hold a cycle. -/
theorem cyclic_of_reads_within {stuck : Set (Fin 16)} (hne : stuck.Nonempty)
    (h : ∀ c ∈ stuck, ∃ y ∈ stuck, Reads t c y) : Cyclic t := by
  by_contra hc
  let below : Fin 16 → Fin 16 → Prop := fun y x => Relation.TransGen (Reads t) x y
  have : IsTrans (Fin 16) below := ⟨fun _ _ _ hab hbc => hbc.trans hab⟩
  have : Std.Irrefl below := ⟨fun x hx => hc ⟨x, hx⟩⟩
  have wf : WellFounded below := Finite.wellFounded_of_trans_of_irrefl below
  obtain ⟨y, hy, hr⟩ := h _ (wf.min_mem stuck hne)
  exact wf.not_lt_min stuck hy (.single hr)

/-- R46: the check of a CELLS write finds a cycle exactly where some cell reaches itself. -/
theorem hasCycle_iff_cyclic (t : Table CellEntry 16) : hasCycle t = true ↔ Cyclic t := by
  obtain ⟨ho, hlen⟩ := graphOrder_inOrder t
  have hcard : (∀ c, c ∈ graphOrder t) ↔ ¬ (graphOrder t).length < 16 := by
    constructor
    · intro h
      have : (List.finRange 16).Subperm (graphOrder t) :=
        (List.nodup_finRange 16).subperm fun c _ => h c
      simpa using this.length_le
    · intro h c
      have : (graphOrder t).Subperm (List.finRange 16) := ho.1.subperm fun c _ => List.mem_finRange c
      exact (this.perm_of_length_le (by simpa using h)).mem_iff.mpr (List.mem_finRange c)
  rw [hasCycle, decide_eq_true_iff]
  constructor
  · intro h
    have hnone := hlen.resolve_left (Nat.ne_of_lt h)
    have : ∃ c, c ∉ graphOrder t := by
      by_contra hall
      exact hcard.mp (by simpa using hall) h
    exact cyclic_of_reads_within (stuck := {c | c ∉ graphOrder t}) this fun c hc =>
      (nextCell_none hnone hc).imp fun y hy => ⟨hy.2, hy.1⟩
  · intro h
    by_contra hlt
    exact not_cyclic_of_all_placed ho (hcard.mpr hlt) h

end

/-- R40: two different lines are TACH_INPUT exactly where the check counts more than one. -/
theorem twoTachs_iff (t : Table LineEntry 32) : twoTachs t = true ↔ TwoTachs t := by
  have hlist : t.toList = (List.finRange 32).map fun i => t[i] :=
    List.ext_getElem (by simp) fun i _ _ => by simp
  have hcount : (t.toList.countP fun e => e.group == .tachInput) =
      (Finset.univ.filter fun i : Fin 32 => t[i].group = .tachInput).card := by
    rw [hlist, List.countP_map, List.countP_eq_length_filter]
    simp only [Finset.card, Finset.filter, Finset.univ, Fintype.elems, Multiset.filter_coe, Multiset.coe_card]
    congr 2
  rw [twoTachs, decide_eq_true_iff, hcount, Finset.one_lt_card]
  simp only [Finset.mem_filter, Finset.mem_univ, true_and, TwoTachs]
  constructor
  · rintro ⟨i, hi, j, hj, hij⟩
    exact ⟨i, j, hij, hi, hj⟩
  · rintro ⟨i, j, hij, hi, hj⟩
    exact ⟨i, hi, j, hj, hij⟩

end Sys2Proof.Machine

namespace Sys2Proof.Machine

/-! ### The route unit keeps its plan and its cancel list (R98, R101, R117) -/

def planJunctions (plan : List PlanEntry) : List Nat := plan.map fun e => e.junction

/-- R98, R101, R117: `PlanOk` and the capacity of the cancel list, at the unit. -/
def RtuKept (u : Rtu) : Prop :=
  u.plan.length ≤ Config.planCapacity ∧ (planJunctions u.plan).Nodup ∧ u.cancels.length ≤ Config.cancelCapacity

/-- R117: `CancelsOk` at the unit. -/
def RtuCoherent (u : Rtu) : Prop :=
  (u.cancels.map fun c => c.junction).Nodup ∧ ∀ c ∈ u.cancels, ∀ e ∈ u.plan, e.junction ≠ c.junction

/-- What every event of the unit keeps. -/
structure RtuKeeps (u v : Rtu) : Prop where
  kept : RtuKept u → RtuKept v
  coherent : RtuKept u → RtuCoherent u → RtuCoherent v

theorem RtuKeeps.refl (u : Rtu) : RtuKeeps u u := ⟨id, fun _ => id⟩

theorem RtuKeeps.trans {u v w : Rtu} (h : RtuKeeps u v) (g : RtuKeeps v w) : RtuKeeps u w :=
  ⟨fun k => g.kept (h.kept k), fun k c => g.coherent (h.kept k) (h.coherent k c)⟩

/-- No junction joins the plan, and no CANCEL the list. -/
theorem RtuKeeps.of_sublist {u v : Rtu} (hp : (planJunctions v.plan).Sublist (planJunctions u.plan))
    (hc : v.cancels.Sublist u.cancels) : RtuKeeps u v where
  kept := fun ⟨h1, h2, h3⟩ =>
    ⟨(by simpa [planJunctions] using hp.length_le : v.plan.length ≤ u.plan.length).trans h1, h2.sublist hp,
      hc.length_le.trans h3⟩
  coherent := fun _ ⟨h1, h2⟩ => by
    refine ⟨h1.sublist (hc.map _), fun c hcv e he => ?_⟩
    obtain ⟨e', he', hj⟩ := List.mem_map.mp (hp.subset (List.mem_map_of_mem he))
    exact hj ▸ h2 c (hc.subset hcv) e' he'

/-- An event that leaves the plan's junctions and the list. -/
theorem RtuKeeps.of_eq {u v : Rtu} (hp : planJunctions v.plan = planJunctions u.plan)
    (hc : v.cancels = u.cancels) : RtuKeeps u v :=
  .of_sublist (hp ▸ List.Sublist.refl _) (hc ▸ List.Sublist.refl _)

theorem findEntry_junction {plan : List PlanEntry} {j : Nat} {e : PlanEntry} (h : findEntry plan j = some e) :
    e.junction = j := by simpa using List.find?_some h

theorem findEntry_mem {plan : List PlanEntry} {j : Nat} {e : PlanEntry} (h : findEntry plan j = some e) :
    e ∈ plan := List.mem_of_find?_eq_some h

theorem findEntry_eq_none {plan : List PlanEntry} {j : Nat} :
    findEntry plan j = none ↔ j ∉ planJunctions plan := by
  simp [findEntry, planJunctions]

theorem planJunctions_setEntryFor {plan : List PlanEntry} {j : Nat} {e : PlanEntry} (h : e.junction = j) :
    planJunctions (setEntryFor plan j e) = planJunctions plan := by
  simp only [planJunctions, setEntryFor, List.map_map]
  refine List.map_congr_left fun x _ => ?_
  by_cases hx : x.junction = j <;> simp [hx, h]

/-- An event that changes fields of one entry. -/
theorem RtuKeeps.of_setEntry {u v : Rtu} {j : Nat} {e e' : PlanEntry} (he : findEntry u.plan j = some e)
    (hp : v.plan = setEntryFor u.plan j e') (hj : e'.junction = e.junction) (hc : v.cancels = u.cancels) :
    RtuKeeps u v :=
  .of_eq (hp ▸ planJunctions_setEntryFor (hj.trans (findEntry_junction he))) hc

theorem bypass_sublist (plan : List PlanEntry) (j : Nat) : (bypass plan j).Sublist plan := by
  induction plan with
  | nil => exact List.Sublist.refl _
  | cons e es ih =>
    unfold bypass
    split
    · exact List.Sublist.refl _
    · split
      · exact ih.cons e
      · exact ih.cons_cons e

theorem planJunctions_sublist {l m : List PlanEntry} (h : l.Sublist m) :
    (planJunctions l).Sublist (planJunctions m) := h.map _

section
variable (desk : DeskState) (cfg : Settings) (j code : Nat) (u : Rtu)

theorem Rtu.arm_keeps : RtuKeeps u (u.arm desk cfg j).1 := by
  unfold Rtu.arm
  split
  case h_1 => exact .of_eq rfl rfl
  case h_2 e he =>
    split
    · refine .of_sublist ?_ (List.Sublist.refl _)
      have := findEntry_junction he
      exact (planJunctions_setEntryFor (e := armed cfg e) this).symm ▸
        planJunctions_sublist (bypass_sublist u.plan j)
    · exact .refl u

theorem Rtu.guardExpiry_keeps : RtuKeeps u (u.guardExpiry desk cfg j).1 := by
  unfold Rtu.guardExpiry
  split
  case h_1 e he =>
    split
    · exact .of_setEntry he rfl rfl rfl
    · exact .refl u
  case h_2 => exact .refl u

theorem Rtu.pointState_keeps (ownRun run : Nat) (report : PointReport) :
    RtuKeeps u (u.pointState desk cfg ownRun j code report run).1 := by
  unfold Rtu.pointState
  split
  · exact .of_eq rfl rfl
  · split
    case h_1 => exact .of_eq rfl rfl
    case h_2 e he => exact .of_setEntry he rfl rfl rfl

theorem removeEntry_sublist (plan : List PlanEntry) : (removeEntry plan j).Sublist plan := List.filter_sublist

theorem Rtu.clearance_keeps : RtuKeeps u (u.clearance desk cfg j).1 := by
  unfold Rtu.clearance
  split
  case h_1 => exact .of_eq rfl rfl
  case h_2 => exact .of_sublist (planJunctions_sublist (removeEntry_sublist j u.plan)) (List.Sublist.refl _)

theorem Rtu.lateDecision_keeps (p : Nat) : RtuKeeps u (u.lateDecision p).1 := by
  unfold Rtu.lateDecision
  split
  · exact .refl u
  · split
    · refine .of_eq ?_ rfl
      simp only [Rtu.withPlan, planJunctions, List.map_map]
      refine List.map_congr_left fun x _ => ?_
      by_cases hx : toldPassing p x <;> simp [hx]
    · exact .of_eq rfl rfl

theorem Rtu.ended_keeps : RtuKeeps u (u.ended desk cfg).1 := by
  unfold Rtu.ended
  split
  · exact .refl u
  · dsimp only
    split
    · split
      · split
        case h_1 e he => exact .of_setEntry he rfl rfl rfl
        case h_2 => exact .of_eq rfl rfl
      · split
        case h_1 e he => exact .of_setEntry he rfl rfl rfl
        case h_2 => exact .of_eq rfl rfl
      · exact .of_sublist (List.Sublist.refl _) List.filter_sublist
    · exact .of_eq rfl rfl

theorem Rtu.windowClose_keeps : RtuKeeps u u.windowClose.1 := by
  have hp : planJunctions (u.plan.map fun e => { e with requestsOwed := 0, updateOwed := false }) =
      planJunctions u.plan := by
    simp [planJunctions, List.map_map, Function.comp_def]
  unfold Rtu.windowClose
  dsimp only
  split <;> exact .of_sublist (by rw [← hp]; exact List.Sublist.refl _) List.filter_sublist

theorem Rtu.reconfigure_keeps : RtuKeeps u u.reconfigure.1 := by
  unfold Rtu.reconfigure
  dsimp only
  split <;> exact .of_sublist (List.nil_sublist _) (List.nil_sublist _)

theorem Rtu.setCode_keeps : RtuKeeps u (u.setCode desk cfg j code).1 := by
  unfold Rtu.setCode
  split
  · exact .refl u
  · split
    · exact .refl u
    case h_2 e he =>
      split
      · exact .of_setEntry he rfl rfl rfl
      · split
        · exact .of_setEntry he rfl rfl rfl
        · exact .refl u

theorem Rtu.override_keeps : RtuKeeps u (u.override desk cfg j).1 := by
  unfold Rtu.override
  split
  · exact .refl u
  case h_2 e he =>
    split
    · exact .of_setEntry he rfl rfl rfl
    · exact .refl u

/-- R101: the new entry's junction is none of the plan, and its CANCELs leave the list. -/
theorem Rtu.insert_keeps (p : Port) (a : InsertArgs) : RtuKeeps u (u.insert desk cfg p a).1 := by
  unfold Rtu.insert
  split_ifs with hpos hdup hfull hcancel
  iterate 4 exact .refl u
  have hnew : a.junction ∉ planJunctions u.plan := by
    rw [← findEntry_eq_none]
    simpa using hdup
  have hperm : (planJunctions (u.plan.take a.position ++ insertedEntry a p :: u.plan.drop a.position)).Perm
      (a.junction :: planJunctions u.plan) := by
    have h := (List.perm_middle (a := insertedEntry a p) (l₁ := u.plan.take a.position)
      (l₂ := u.plan.drop a.position)).map fun e : PlanEntry => e.junction
    rw [List.take_append_drop] at h
    exact h
  dsimp only
  constructor
  · rintro ⟨h1, h2, h3⟩
    refine ⟨?_, hperm.nodup_iff.mpr (List.nodup_cons.mpr ⟨hnew, h2⟩), (List.length_filter_le _ _).trans h3⟩
    have := hperm.length_eq
    simp only [planJunctions, List.length_map, List.length_cons] at this
    exact this.le.trans (Nat.lt_of_not_le hfull)
  · rintro - ⟨h1, h2⟩
    refine ⟨h1.sublist (List.filter_sublist.map _), fun c hc e he => ?_⟩
    obtain ⟨hcu, hne⟩ := List.mem_filter.mp hc
    have hj : e.junction ∈ a.junction :: planJunctions u.plan := hperm.mem_iff.mp (List.mem_map_of_mem he)
    rcases List.mem_cons.mp hj with hj | hj
    · rw [hj]
      exact fun h => by simp [h] at hne
    · obtain ⟨e', he', hj'⟩ := List.mem_map.mp hj
      exact hj' ▸ h2 c hcu e' he'

/-- R118: a CANCEL for a junction that stands neither in the plan nor in the list. -/
theorem Rtu.queueCancel_kept {u : Rtu} (c : Cancel) (h : RtuKept u) : RtuKept (u.queueCancel c).1 := by
  obtain ⟨h1, h2, h3⟩ := h
  unfold Rtu.queueCancel
  split
  · exact ⟨h1, h2, by rw [List.length_append]; exact ‹_›⟩
  · exact ⟨h1, h2, h3⟩

theorem Rtu.queueCancel_coherent {u : Rtu} {c : Cancel} (h : RtuCoherent u)
    (hc : c.junction ∉ u.cancels.map fun c => c.junction) (hp : c.junction ∉ planJunctions u.plan) :
    RtuCoherent (u.queueCancel c).1 := by
  obtain ⟨h1, h2⟩ := h
  unfold Rtu.queueCancel
  split
  · refine ⟨?_, fun x hx e he => ?_⟩
    · rw [List.map_append]
      exact List.nodup_append.mpr ⟨h1, List.nodup_singleton _, by
        simpa using fun (x : Cancel) hx (h : x.junction = c.junction) => hc (h ▸ List.mem_map_of_mem hx)⟩
    · rcases List.mem_append.mp hx with hx | hx
      · exact h2 x hx e he
      · obtain rfl := List.mem_singleton.mp hx
        exact fun h => hp (h ▸ List.mem_map_of_mem he)
  · exact ⟨h1, h2⟩

/-- R103: the CANCEL is for a junction that has just left the plan. -/
theorem Rtu.cancelRoute_keeps : RtuKeeps u (u.cancelRoute desk cfg j).1 := by
  unfold Rtu.cancelRoute
  split
  · exact .refl u
  · split
    · exact .refl u
    case h_2 e he =>
      let v := u.withPlan (removeEntry u.plan j) u.cancels
      have hv : RtuKeeps u v :=
        .of_sublist (planJunctions_sublist (removeEntry_sublist j u.plan)) (List.Sublist.refl _)
      dsimp only
      split
      · refine ⟨fun k => queueCancel_kept _ (hv.kept k), fun k c => queueCancel_coherent (hv.coherent k c) ?_ ?_⟩
        · intro hm
          obtain ⟨x, hx, hj⟩ := List.mem_map.mp hm
          exact c.2 x hx e (findEntry_mem he) ((findEntry_junction he).trans hj.symm)
        · simp [Rtu.withPlan, planJunctions, removeEntry]
      · exact hv

/-- R121: CANCELs for junctions of the plan, which leaves with them. -/
theorem Rtu.queueCancels_kept (l : List Cancel) : ∀ u : Rtu, RtuKept u → RtuKept (Rtu.queueCancels l u).1 := by
  induction l with
  | nil => exact fun _ => id
  | cons c l ih => exact fun u h => ih _ (queueCancel_kept c h)

theorem Rtu.queueCancels_nodup (l : List Cancel) : ∀ u : Rtu,
    (l.map fun c => c.junction).Nodup → (u.cancels.map fun c => c.junction).Nodup →
    (∀ c ∈ l, c.junction ∉ u.cancels.map fun c => c.junction) →
    ((Rtu.queueCancels l u).1.cancels.map fun c => c.junction).Nodup := by
  intro u hl hu hne
  rw [queueCancels_eq, List.map_append]
  refine List.nodup_append.mpr ⟨hu, hl.sublist ((List.take_sublist _ _).map _), ?_⟩
  rintro a ha b hb rfl
  obtain ⟨c, hc, rfl⟩ := List.mem_map.mp hb
  exact hne c (List.mem_of_mem_take hc) ha

theorem Rtu.teardown_keeps : RtuKeeps u (u.teardown cfg).1 := by
  let owed := (u.plan.filter fun e => decide (1 ≤ e.transmissions)).map fun e =>
    (⟨e.junction, e.code⟩ : Cancel)
  let v := if u.windowOpen then Rtu.queueCancels owed u else (u, [])
  change RtuKeeps u (v.1.withPlan [] v.1.cancels)
  have hv : RtuKept u → RtuKept v.1 := by
    intro h
    simp only [v]
    split
    · exact queueCancels_kept _ _ h
    · exact h
  refine ⟨fun h => ⟨Nat.zero_le _, List.nodup_nil, (hv h).2.2⟩, fun h c => ⟨?_, by simp [Rtu.withPlan]⟩⟩
  change (v.1.cancels.map fun c => c.junction).Nodup
  simp only [v]
  split
  · refine queueCancels_nodup _ _ ?_ c.1 fun x hx hm => ?_
    · simp only [owed, List.map_map]
      exact h.2.1.sublist (List.filter_sublist.map _)
    · obtain ⟨e, he, rfl⟩ := List.mem_map.mp hx
      obtain ⟨y, hy, hj⟩ := List.mem_map.mp hm
      exact c.2 y hy e (List.mem_of_mem_filter he) hj.symm
  · exact c.1

end
end Sys2Proof.Machine

namespace Sys2Proof.Machine

/-! ### The location unit keeps the pending list's capacity (R92) -/

def LcuKept (l : Lcu) : Prop := l.actions.length ≤ Config.actionCapacity

section
variable (cfg : Settings)

@[simp] theorem Lcu.fire_actions (entry : Nat) (beacon : BitVec 12) (a : ActionSpec) (l : Lcu) :
    (l.fire cfg entry beacon a).1.actions = l.actions := by
  unfold Lcu.fire
  split <;> rfl

@[simp] theorem Lcu.drop_actions (entry : Nat) (beacon : BitVec 12) (a : ActionSpec) (l : Lcu) :
    (l.drop entry beacon a).1.actions = l.actions := by
  unfold Lcu.drop
  split <;> rfl

@[simp] theorem fireDue_actions (as : List PendingAction) : ∀ l : Lcu,
    (fireDue cfg as l).1.actions = l.actions := by
  induction as with
  | nil => exact fun _ => rfl
  | cons a as ih =>
    intro l
    unfold fireDue
    split
    · exact (ih _).trans (Lcu.fire_actions cfg _ _ _ l)
    · exact ih l

theorem countDown_length_le (as : List PendingAction) : (countDown as).length ≤ as.length := by
  simpa [countDown] using List.length_filter_le _ as

@[simp] theorem Lcu.pulseMotion_actions (l : Lcu) : (l.pulseMotion cfg).1.actions = l.actions := by
  unfold Lcu.pulseMotion
  dsimp only
  split
  · rfl
  · split <;> rfl

/-- R86: a metre takes actions off the list and adds none. -/
theorem Lcu.pulse_kept {l : Lcu} (h : LcuKept l) : LcuKept (l.pulse cfg).1 := by
  simp only [Lcu.pulse, LcuKept, Lcu.pulseMotion_actions, Lcu.countPulse]
  split
  · simpa [Lcu.metre] using (countDown_length_le l.actions).trans h
  · exact h

theorem Lcu.standstillExpiry_kept {l : Lcu} (h : LcuKept l) : LcuKept l.standstillExpiry.1 := by
  unfold Lcu.standstillExpiry
  split
  · exact h
  · dsimp only
    split <;> exact h

/-- R92: an action joins only where the list has room. -/
theorem Lcu.matched_kept (identity : BitVec 12) (i : Nat) (e : LocationEntry) {l : Lcu} (h : LcuKept l) :
    LcuKept (l.matched cfg identity i e).1 := by
  unfold Lcu.matched
  split
  · simpa [LcuKept] using h
  · split
    · simpa [LcuKept] using ‹_›
    · simpa [LcuKept] using h

theorem matchEntries_kept (identity : BitVec 12) (es : List (LocationEntry × Nat)) : ∀ l : Lcu,
    LcuKept l → LcuKept (matchEntries cfg identity es l).1 := by
  induction es with
  | nil => exact fun _ => id
  | cons x es ih =>
    intro l h
    unfold matchEntries
    split
    · exact ih _ (Lcu.matched_kept cfg identity _ _ h)
    · exact ih l h

theorem Lcu.beacon_kept (identity : BitVec 12) {l : Lcu} (h : LcuKept l) : LcuKept (l.beacon cfg identity).1 :=
  matchEntries_kept cfg identity _ _ h

end

/-! ### The fault and notice unit keeps its flags in step (R172) -/

def FnuKept (f : Fnu) : Prop := f.armed = f.capture.acknowledged

theorem Fnu.enterLockdown_kept {f : Fnu} (h : FnuKept f) : FnuKept f.enterLockdown.1 := by
  unfold Fnu.enterLockdown
  split <;> exact h

/-- R174: the capture leaves the record neither armed nor acknowledged; R175 touches neither. -/
theorem Fnu.severe_kept (kind : FaultKind) (source : UnitName) (context : FaultContext) (recoverable : Bool)
    (effort : Int) (desk : DeskState) {f : Fnu} (h : FnuKept f) :
    FnuKept (f.severe kind source context recoverable effort desk).1 := by
  have captured : FnuKept (Fnu.raise .faultCaptured
      { f with
        capture := captureOf kind source context recoverable effort desk f.motion
        armed := false }) := rfl
  unfold Fnu.severe
  split
  · dsimp only
    split
    · exact Fnu.enterLockdown_kept captured
    · exact captured
  · exact Fnu.enterLockdown_kept (f := { f with capture := recount kind f.capture }) h

/-! ### The stop request unit keeps its list and its decision (R147) -/

/-- R147: `StopsOk` at the unit. -/
def SruCoherent (u : Sru) : Prop :=
  (u.list.map fun e => e.station).Nodup ∧ (u.zone = none → u.decision = .none)

/-- R148: a press adds a station that the list does not hold, or changes the kind of one that it holds. -/
theorem pressedList_nodup {l : List StopEntry} (station : Nat) (kind : StopKind)
    (h : (l.map fun e => e.station).Nodup) : ((pressedList l station kind).map fun e => e.station).Nodup := by
  unfold pressedList
  split
  case h_1 hnone =>
    have hnew : station ∉ l.map fun e => e.station := by simpa using hnone
    simpa using List.nodup_append.mpr ⟨h, List.nodup_singleton station,
      by simpa using fun (x : StopEntry) hx (e : x.station = station) => hnew (e ▸ List.mem_map_of_mem hx)⟩
  case h_2 =>
    split
    · rw [List.map_map]
      convert h using 2
      funext x
      by_cases hx : x.station = station <;> simp [hx]
    · exact h

theorem Sru.pressed_coherent (desk : DeskState) (cfg : Settings) (station : Nat) {new : List StopEntry} {u : Sru}
    (hn : (new.map fun e => e.station).Nodup) (h : SruCoherent u) :
    SruCoherent (u.pressed desk cfg station new).1 := by
  have latched : ∀ b : Bool, SruCoherent
      (if b then { u with list := new, lastStop := some (.latched, station) } else { u with list := new }) := by
    intro b
    cases b <;> exact ⟨hn, h.2⟩
  have hl := latched u.list.isEmpty
  unfold Sru.pressed
  dsimp only
  split
  case h_1 p hp =>
    refine ⟨hl.1, fun hz => ?_⟩
    have : u.zone = none := by
      revert hz
      dsimp only
      split <;> exact id
    simp [lateZone, this] at hp
  case h_2 => exact hl

theorem Sru.press_coherent (desk : DeskState) (cfg : Settings) (station : Nat) (kind : StopKind) {u : Sru}
    (h : SruCoherent u) : SruCoherent (u.press desk cfg station kind).1 := by
  unfold Sru.press
  split
  · split <;> exact h
  · dsimp only
    split
    · exact h
    · exact Sru.pressed_coherent desk cfg station (pressedList_nodup station kind h.1) h

theorem Sru.clear_coherent {u : Sru} (h : SruCoherent u) : SruCoherent u.clear := by
  unfold Sru.clear
  split
  · exact ⟨List.nodup_nil, fun _ => rfl⟩
  · exact ⟨List.nodup_nil, h.2⟩

theorem Sru.clearAll_coherent (u : Sru) : SruCoherent u.clearAll := ⟨List.nodup_nil, fun _ => rfl⟩

theorem Sru.zoneEnter_coherent (desk : DeskState) (cfg : Settings) (p : Nat) (mandatory : Bool) {u : Sru}
    (h : SruCoherent u) : SruCoherent (u.zoneEnter desk cfg p mandatory).1 :=
  ⟨h.1, fun hz => by cases hz⟩

theorem Sru.zoneLeave_coherent (p : Nat) {u : Sru} (h : SruCoherent u) : SruCoherent (u.zoneLeave p).1 := by
  unfold Sru.zoneLeave
  split
  · exact h
  · split
    · exact ⟨h.1, fun _ => rfl⟩
    · exact h

theorem Sru.startPolling_coherent (cfg : Settings) {u : Sru} (h : SruCoherent u) :
    SruCoherent (u.startPolling cfg) := by
  unfold Sru.startPolling
  split <;> exact h

theorem putStation_coherent (address : Nat) (t : Station) {u : Sru} (h : SruCoherent u) :
    SruCoherent (putStation u address t) := by
  unfold putStation
  split <;> exact h

theorem noteHealth_coherent (e : Option HealthEvent) {u : Sru} (h : SruCoherent u) :
    SruCoherent (noteHealth u e).1 := by
  unfold noteHealth
  split <;> exact h

theorem Sru.goodReply_coherent (desk : DeskState) (cfg : Settings) (r : Reply) {u : Sru} (h : SruCoherent u) :
    SruCoherent (u.goodReply desk cfg r).1 := by
  unfold Sru.goodReply
  split
  · exact h
  · have noted := fun t => noteHealth_coherent (goodHealth r t) (putStation_coherent u.address (stationGood r t) h)
    dsimp only
    split
    · exact Sru.press_coherent desk cfg _ _ (noted _)
    · exact noted _

theorem Sru.badReply_coherent {u : Sru} (h : SruCoherent u) : SruCoherent u.badReply.1 := by
  unfold Sru.badReply
  split
  · exact h
  · exact noteHealth_coherent _ (putStation_coherent _ _ h)

theorem Sru.replyEnds_coherent (desk : DeskState) (cfg : Settings) (e : ReplyEnd) {u : Sru} (h : SruCoherent u) :
    SruCoherent (u.replyEnds desk cfg e).1 := by
  cases e with
  | good r => exact Sru.goodReply_coherent desk cfg r h
  | bad => exact Sru.badReply_coherent h

theorem Sru.lineSample_coherent (away : Bool) {u : Sru} (h : SruCoherent u) : SruCoherent (u.lineSample away).1 := by
  unfold Sru.lineSample
  dsimp only
  split
  · unfold Sru.quietPoint
    split
    · split <;> exact h
    · exact h
  · unfold Sru.startTaken
    split <;> exact h
  · unfold Sru.charTaken
    dsimp only
    split
    · split
      · exact h
      · split <;> exact h
    · exact h

theorem Sru.atStopEvent_coherent (value : Bool) {u : Sru} (h : SruCoherent u) :
    SruCoherent (u.atStopEvent value).1 := by
  unfold Sru.atStopEvent
  dsimp only
  split
  · exact Sru.clear_coherent (u := { u with atStop := value }) h
  · exact h

/-! ### The line and matrix unit keeps its tables (R40, R46) -/

/-- R40, R46: `TablesOk` at the unit. -/
def LmuCoherent (l : Lmu) : Prop :=
  ¬ Cyclic l.written.cells ∧ ¬ Cyclic l.active.cells ∧ ¬ TwoTachs l.written.lines ∧ ¬ TwoTachs l.active.lines

theorem LmuCoherent.of_tables {l m : Lmu} (hw : m.written = l.written) (ha : m.active = l.active)
    (h : LmuCoherent l) : LmuCoherent m := by
  unfold LmuCoherent
  rwa [hw, ha]

theorem foldl_settleCell_tables (order : List (Fin 16)) : ∀ l : Lmu,
    (order.foldl Lmu.settleCell l).written = l.written ∧ (order.foldl Lmu.settleCell l).active = l.active := by
  induction order with
  | nil => exact fun _ => ⟨rfl, rfl⟩
  | cons c order ih => exact fun l => ih (l.settleCell c)

/-- R47: a settle changes no table. -/
theorem Lmu.settle_coherent {l : Lmu} (h : LmuCoherent l) : LmuCoherent l.settle.1 :=
  .of_tables (foldl_settleCell_tables _ l).1 (foldl_settleCell_tables _ l).2 h

/-- R52: the active tables become the written ones. -/
theorem Lmu.commit_coherent {l : Lmu} (h : LmuCoherent l) : LmuCoherent l.commit :=
  ⟨h.1, h.1, h.2.2.1, h.2.2.1⟩

/-! ### The record store keeps its slots and its count (R9, R17) -/

/-- R9, R17: the record store's part of `Kept`. -/
def RstKept (x : Rst) : Prop :=
  (∀ (p : Port) (r : Record), x.slots.get p = some r → reservable r = true) ∧ x.passOver ≤ 4

theorem RstKept.of_slots {x y : Rst} (h : RstKept x) (hc : y.passOver = x.passOver)
    (hs : ∀ p, y.slots.get p = none ∨ y.slots.get p = x.slots.get p) : RstKept y := by
  refine ⟨fun p r hr => ?_, hc ▸ h.2⟩
  rcases hs p with hp | hp
  · rw [hp] at hr; cases hr
  · exact h.1 p r (hp ▸ hr)

theorem RstKept.set {x : Rst} (h : RstKept x) (p : Port) {o : Option Record}
    (ho : ∀ r, o = some r → reservable r = true) : RstKept { x with slots := x.slots.set p o } := by
  refine ⟨fun q r hr => ?_, h.2⟩
  by_cases hq : q = p
  · subst hq
    exact ho r (by simpa using hr)
  · exact h.1 q r (by rwa [PerPort.get_set_other _ hq] at hr)

theorem raisePass_le (n : Nat) : raisePass n ≤ 4 := Nat.min_le_left _ _

theorem Rst.arrives_kept {x : Rst} (h : RstKept x) (p : Port) : RstKept (x.arrives p) := by
  unfold Rst.arrives
  split
  · exact ⟨h.1, raisePass_le _⟩
  · exact ⟨h.1, raisePass_le _⟩
  · exact h

theorem nextPassOver_le {s : State} (h : s.rst.passOver ≤ 4) (p : Port) : nextPassOver s p ≤ 4 := by
  unfold nextPassOver
  split
  · exact Nat.zero_le _
  all_goals
    split
    · exact raisePass_le _
    · exact h

end Sys2Proof.Machine

namespace Sys2Proof.Machine

/-! ### The sound unit keeps one request for a source and a sounder (R162) -/

/-- R162: the source and the sounder of a request. -/
def requestKey (q : SoundRequest) : SoundSource × Sounder := (q.source, q.sounder)

def requestKeys (u : Sdu) : List (SoundSource × Sounder) := u.requests.map requestKey

/-- No request joins the list. -/
def Shrinks (u v : Sdu) : Prop := (requestKeys v).Sublist (requestKeys u)

theorem Shrinks.of_eq {u v : Sdu} (h : v.requests = u.requests) : Shrinks u v := by
  rw [Shrinks, requestKeys, h]
  exact List.Sublist.refl _

theorem Shrinks.trans {u v w : Sdu} (h : Shrinks u v) (g : Shrinks v w) : Shrinks u w :=
  List.Sublist.trans g h

theorem Shrinks.of_filter {u v : Sdu} {good : SoundRequest → Bool} (h : v.requests = u.requests.filter good) :
    Shrinks u v := by
  rw [Shrinks, requestKeys, h]
  exact List.filter_sublist.map _

theorem RequestsOk.shrinks {u v : Sdu} (h : RequestsOk u) (g : Shrinks u v) : RequestsOk v :=
  ⟨(by simpa [requestKeys] using g.length_le : v.requests.length ≤ u.requests.length).trans h.1, h.2.sublist g⟩

section
variable (cfg : Settings)

theorem Sdu.begin_requests (q : SoundRequest) (u : Sdu) : (u.begin cfg q).requests = u.requests := rfl

theorem Sdu.next_requests (snd : Sounder) (u : Sdu) : (u.next cfg snd).requests = u.requests := by
  unfold Sdu.next
  dsimp only
  split <;> rfl

theorem Sdu.endPhase_shrinks (q : SoundRequest) (u : Sdu) : Shrinks u (u.endPhase cfg q).1 := by
  unfold Sdu.endPhase
  dsimp only
  split
  · exact .of_eq rfl
  · split
    · exact .of_eq rfl
    · split
      · exact .of_eq rfl
      · split
        · exact .of_filter (by rw [Sdu.next_requests]; rfl)
        · have same : ∀ n, requestKeys (countRepeat u q n) = requestKeys u := fun n => by
            simp only [requestKeys, countRepeat, List.map_map]
            refine List.map_congr_left fun x _ => ?_
            simp only [Function.comp_apply, requestKey]
            split <;> rfl
          exact (Shrinks.trans (v := countRepeat u q _) (by rw [Shrinks, same]) (.of_eq rfl))

theorem Sdu.passZero_shrinks (snd : Sounder) (n : Nat) : ∀ u : Sdu, Shrinks u (u.passZero cfg snd n).1 := by
  induction n with
  | zero => exact fun _ => .of_eq rfl
  | succ n ih =>
    intro u
    unfold Sdu.passZero
    split
    · exact .of_eq rfl
    · split
      · exact .of_eq rfl
      · exact (u.endPhase_shrinks cfg _).trans (ih _)

theorem Sdu.settlePhase_shrinks (snd : Sounder) (u : Sdu) : Shrinks u (u.settlePhase cfg snd).1 :=
  u.passZero_shrinks cfg snd 64

theorem Sdu.phaseExpiry_shrinks (snd : Sounder) (u : Sdu) : Shrinks u (u.phaseExpiry cfg snd).1 := by
  unfold Sdu.phaseExpiry
  split
  · exact (u.endPhase_shrinks cfg _).trans (Sdu.settlePhase_shrinks cfg snd _)
  · exact .of_eq rfl
  · exact .of_eq rfl

theorem Sdu.free_shrinks (snd : Sounder) (u : Sdu) : Shrinks u (u.free cfg snd).1 :=
  (Shrinks.of_eq (u.next_requests cfg snd)).trans (Sdu.settlePhase_shrinks cfg snd _)

/-- R165: what is left after a removal comes from the list without the request. -/
theorem Sdu.remove_shrinks_drop (src : SoundSource) (snd : Sounder) (u : Sdu) :
    Shrinks { u with requests := dropRequest u.requests src snd } (u.remove cfg src snd).1 := by
  unfold Sdu.remove
  dsimp only
  split
  · exact Sdu.free_shrinks cfg snd _
  · exact .of_eq rfl

theorem dropRequest_shrinks (src : SoundSource) (snd : Sounder) (u : Sdu) :
    Shrinks u { u with requests := dropRequest u.requests src snd } := .of_filter rfl

theorem Sdu.remove_shrinks (src : SoundSource) (snd : Sounder) (u : Sdu) : Shrinks u (u.remove cfg src snd).1 :=
  (dropRequest_shrinks src snd u).trans (u.remove_shrinks_drop cfg src snd)

theorem Sdu.hardwareRemove_shrinks (src : SoundSource) (snd : Sounder) (u : Sdu) :
    Shrinks u (u.hardwareRemove cfg src snd).1 := by
  unfold Sdu.hardwareRemove
  split
  · exact u.remove_shrinks cfg src snd
  · exact .of_eq rfl

theorem Sdu.removeLockdown_shrinks (u : Sdu) : Shrinks u (u.removeLockdown cfg).1 :=
  (u.hardwareRemove_shrinks cfg _ _).trans (Sdu.hardwareRemove_shrinks cfg _ _ _)

theorem Sdu.freeLost_shrinks (l : List Sounder) : ∀ u : Sdu, Shrinks u (u.freeLost cfg l).1 := by
  induction l with
  | nil => exact fun _ => .of_eq rfl
  | cons snd l ih =>
    intro u
    unfold Sdu.freeLost
    dsimp only
    split
    · exact (u.free_shrinks cfg snd).trans (ih _)
    · exact ih _

theorem Sdu.teardown_shrinks (former : Desk) (u : Sdu) : Shrinks u (u.teardown cfg former).1 :=
  (Shrinks.of_filter (v := { u with requests := u.requests.filter fun q => !tornDown former q }) rfl).trans
    (Sdu.freeLost_shrinks cfg _ _)

/-- R168: the request that joins is the only one that may be new. -/
theorem Sdu.join_shrinks (q : SoundRequest) (u : Sdu) :
    Shrinks { u with requests := u.requests ++ [q] } (u.join cfg q).1 := by
  unfold Sdu.join
  dsimp only
  split
  · exact Sdu.settlePhase_shrinks cfg _ _
  · split
    · exact Sdu.settlePhase_shrinks cfg _ _
    · exact .of_eq rfl

theorem findRequest_eq_none {u : Sdu} {src : SoundSource} {snd : Sounder} :
    findRequest u.requests src snd = none ↔ (src, snd) ∉ requestKeys u := by
  simp [findRequest, requestKeys, requestKey]

theorem key_notMem_dropRequest (src : SoundSource) (snd : Sounder) (u : Sdu) :
    (src, snd) ∉ requestKeys { u with requests := dropRequest u.requests src snd } := by
  simp only [requestKeys, requestKey, dropRequest, isRequest, List.mem_map, List.mem_filter, not_exists]
  rintro q ⟨⟨-, hq⟩, he⟩
  cases he
  simp at hq

theorem dropRequest_length_lt {u : Sdu} {q : SoundRequest} (h : q ∈ u.requests) :
    (dropRequest u.requests q.source q.sounder).length < u.requests.length := by
  refine lt_of_le_of_ne (List.length_filter_le _ _) fun e => ?_
  have := List.length_filter_eq_length_iff.mp e q h
  simp [isRequest] at this

/-- A list with room takes one request more of a source and a sounder it does not hold. -/
theorem RequestsOk.append {u : Sdu} {q : SoundRequest} (h : RequestsOk u)
    (hroom : u.requests.length < Config.soundCapacity) (hnew : requestKey q ∉ requestKeys u) :
    RequestsOk { u with requests := u.requests ++ [q] } := by
  refine ⟨by simpa using hroom, ?_⟩
  rw [List.map_append]
  refine List.nodup_append.mpr ⟨h.2, List.nodup_singleton _, ?_⟩
  rintro a ha b hb rfl
  obtain rfl := List.mem_singleton.mp hb
  exact hnew ha

theorem Sdu.replace_ok {q : SoundRequest} {u : Sdu} (h : RequestsOk u)
    (hold : (findRequest u.requests q.source q.sounder).isSome = true) : RequestsOk (u.replace cfg q).1 := by
  obtain ⟨x, hx⟩ := Option.isSome_iff_exists.mp hold
  have hkey : x.source = q.source ∧ x.sounder = q.sounder := by simpa using List.find?_some hx
  have hlt := dropRequest_length_lt (List.mem_of_find?_eq_some hx)
  rw [hkey.1, hkey.2] at hlt
  have hjoin := (h.shrinks (dropRequest_shrinks q.source q.sounder u)).append (hlt.trans_le h.1)
    (key_notMem_dropRequest q.source q.sounder u)
  unfold Sdu.replace
  dsimp only
  split
  · exact hjoin.shrinks (Sdu.free_shrinks cfg _ _)
  · exact hjoin.shrinks (Sdu.join_shrinks cfg q _)

theorem evictee_mem {l : List SoundRequest} {priority : Nat} {v : SoundRequest} (h : evictee l priority = some v) :
    v ∈ l := List.mem_of_mem_filter (List.mem_of_mem_filter (List.mem_of_getLast? h))

/-- R166: a request that is taken replaces its source's own, finds room, or evicts another. -/
theorem Sdu.offer_ok {q : SoundRequest} {u : Sdu} {r : Sdu × List Instr} (h : RequestsOk u)
    (hr : u.offer cfg q = some r) : RequestsOk r.1 := by
  unfold Sdu.offer at hr
  split at hr
  case isTrue hold =>
    cases hr
    exact u.replace_ok cfg h hold
  case isFalse hnone =>
    have hnew : requestKey q ∉ requestKeys u := findRequest_eq_none.mp (by simpa using hnone)
    split at hr
    case isTrue hroom =>
      cases hr
      exact (h.append hroom hnew).shrinks (u.join_shrinks cfg q)
    case isFalse =>
      split at hr
      case h_2 => cases hr
      case h_1 v hv =>
        cases hr
        have hsub := u.remove_shrinks cfg v.source v.sounder
        have hroom : (u.remove cfg v.source v.sounder).1.requests.length < Config.soundCapacity := by
          have hle : (u.remove cfg v.source v.sounder).1.requests.length ≤
              (dropRequest u.requests v.source v.sounder).length := by
            simpa [requestKeys] using (u.remove_shrinks_drop cfg v.source v.sounder).length_le
          exact hle.trans_lt ((dropRequest_length_lt (evictee_mem hv)).trans_le h.1)
        exact ((h.shrinks hsub).append hroom fun hm => hnew (hsub.subset hm)).shrinks
          (Sdu.join_shrinks cfg q
            { (u.remove cfg v.source v.sounder).1 with lastEvent := some ⟨.evicted, v.source, v.sounder⟩ })

theorem Sdu.hardwareAdd_ok (src : SoundSource) (snd : Sounder) (pattern : Fin 16) {u : Sdu} (h : RequestsOk u) :
    RequestsOk (u.hardwareAdd cfg src snd pattern).1 := by
  unfold Sdu.hardwareAdd
  split
  · exact h
  · split
    case h_1 r hr => exact Sdu.offer_ok (r := r) cfg h hr
    case h_2 => exact h

theorem Sdu.addAll_ok (l : List SoundOffer) : ∀ u : Sdu, RequestsOk u → RequestsOk (u.addAll cfg l).1 := by
  induction l with
  | nil => exact fun _ => id
  | cons o l ih => exact fun u h => ih _ (Sdu.hardwareAdd_ok cfg o.1 o.2.1 o.2.2 h)

theorem Sdu.recordDirect_requests (k : DirectSound) (value : Bool) (u : Sdu) :
    (u.recordDirect k value).requests = u.requests := by cases k <;> rfl

theorem Sdu.direct_ok (k : DirectSound) (value : Bool) {u : Sdu} (h : RequestsOk u) :
    RequestsOk (u.direct cfg k value).1 := by
  have hrec : RequestsOk (u.recordDirect k value) := h.shrinks (.of_eq (Sdu.recordDirect_requests k value u))
  unfold Sdu.direct
  dsimp only
  split
  · exact Sdu.hardwareAdd_ok cfg _ _ _ hrec
  · exact hrec.shrinks (Sdu.hardwareRemove_shrinks cfg _ _ _)

theorem Sdu.lockdown_ok (view : LockState) {u : Sdu} (h : RequestsOk u) : RequestsOk (u.lockdown cfg view).1 := by
  have hview : RequestsOk { u with lockView := view } := h
  cases view with
  | held => exact Sdu.addAll_ok cfg _ _ hview
  | clear => exact hview.shrinks (Sdu.removeLockdown_shrinks cfg _)

end
end Sys2Proof.Machine

namespace Sys2Proof.Machine

/-! ### What every row keeps -/

/-- `t` keeps every unit's invariants that `s` meets. -/
structure Keeps (s t : State) : Prop where
  rst : RstKept s.rst → RstKept t.rst
  lmu : LmuCoherent s.lmu → LmuCoherent t.lmu
  lcu : LcuKept s.lcu → LcuKept t.lcu
  rtu : RtuKeeps s.rtu t.rtu
  sru : SruCoherent s.sru → SruCoherent t.sru
  sdu : RequestsOk s.sdu → RequestsOk t.sdu
  fnu : FnuKept s.fnu → FnuKept t.fnu

theorem Keeps.refl (s : State) : Keeps s s := ⟨id, id, id, .refl _, id, id, id⟩

theorem Keeps.trans {s t u : State} (h : Keeps s t) (g : Keeps t u) : Keeps s u :=
  ⟨g.rst ∘ h.rst, g.lmu ∘ h.lmu, g.lcu ∘ h.lcu, h.rtu.trans g.rtu, g.sru ∘ h.sru, g.sdu ∘ h.sdu, g.fnu ∘ h.fnu⟩

/-- `Keeps.trans` with the last change first: the goal then says what the changes before it are. -/
theorem Keeps.comp {s t u : State} (g : Keeps t u) (h : Keeps s t) : Keeps s u := h.trans g

section
variable (s : State)

/-! #### One unit replaced -/

theorem State.take_keeps (c : Instr) : Keeps s (s.take c) := ⟨id, id, id, .refl _, id, id, id⟩

theorem State.hand_keeps (out : List Instr) : Keeps s (s.hand out) := ⟨id, id, id, .refl _, id, id, id⟩

theorem State.rewrite_keeps (f : StoreWord → Bool) : Keeps s (s.rewrite f) := ⟨id, id, id, .refl _, id, id, id⟩

theorem State.putDau_keeps (x : Dau) (out : List Instr) : Keeps s (s.putDau x out) :=
  ⟨id, id, id, .refl _, id, id, id⟩

theorem State.putTdu_keeps (x : Tdu) (out : List Instr) : Keeps s (s.putTdu x out) :=
  ⟨id, id, id, .refl _, id, id, id⟩

theorem State.putTlu_keeps (x : Tlu) (out : List Instr) : Keeps s (s.putTlu x out) :=
  ⟨id, id, id, .refl _, id, id, id⟩

theorem State.atPort_keeps (p : Port) (g : PortSlots → PortSlots) : Keeps s (s.atPort p g) :=
  ⟨id, id, id, .refl _, id, id, id⟩

variable {s}

theorem Keeps.of_rst {x : Rst} (h : RstKept s.rst → RstKept x) : Keeps s { s with rst := x } :=
  ⟨h, id, id, .refl _, id, id, id⟩

theorem State.putLmu_keeps {x : Lmu} (h : LmuCoherent s.lmu → LmuCoherent x) (out : List Instr) :
    Keeps s (s.putLmu x out) := ⟨id, h, id, .refl _, id, id, id⟩

theorem State.putLcu_keeps {x : Lcu} (h : LcuKept s.lcu → LcuKept x) (out : List Instr) :
    Keeps s (s.putLcu x out) := ⟨id, id, h, .refl _, id, id, id⟩

theorem State.putRtu_keeps {x : Rtu} (h : RtuKeeps s.rtu x) (out : List Instr) : Keeps s (s.putRtu x out) :=
  ⟨id, id, id, h, id, id, id⟩

theorem State.putSru_keeps {x : Sru} (h : SruCoherent s.sru → SruCoherent x) (out : List Instr) :
    Keeps s (s.putSru x out) := ⟨id, id, id, .refl _, h, id, id⟩

theorem State.putSdu_keeps {x : Sdu} (h : RequestsOk s.sdu → RequestsOk x) (out : List Instr) :
    Keeps s (s.putSdu x out) := ⟨id, id, id, .refl _, id, h, id⟩

theorem State.putFnu_keeps {x : Fnu} (h : FnuKept s.fnu → FnuKept x) (out : List Instr) :
    Keeps s (s.putFnu x out) := ⟨id, id, id, .refl _, id, id, h⟩

theorem State.tduEvent_keeps (reads : StoreWord → Bool) (r : Tdu × List Instr) : Keeps s (s.tduEvent reads r) :=
  s.putTdu_keeps _ _

theorem State.entryEvent_keeps (c : CeilingSource) (reads : StoreWord → Bool) (t : Tdu) :
    Keeps s (s.entryEvent c reads t) := (s.putTdu_keeps _ _).trans (State.rewrite_keeps _ _)

theorem State.rtuEvent_keeps {r : Rtu × List Instr} (h : RtuKeeps s.rtu r.1) (reads : StoreWord → Bool) :
    Keeps s (s.rtuEvent reads r) := State.putRtu_keeps h _

theorem State.sruEvent_keeps {r : Sru × List Instr} (h : SruCoherent s.sru → SruCoherent r.1)
    (reads : StoreWord → Bool) : Keeps s (s.sruEvent reads r) := State.putSru_keeps h _

theorem State.sound_keeps {x : Sdu} (h : RequestsOk s.sdu → RequestsOk x) (out : List Instr) :
    Keeps s (s.sound x out) := State.putSdu_keeps h _

theorem State.sduEvent_keeps {r : Sdu × List Instr} (h : RequestsOk s.sdu → RequestsOk r.1)
    (reads : StoreWord → Bool) : Keeps s (s.sduEvent reads r) := State.putSdu_keeps h _

theorem State.settleFrom_keeps {l : Lmu} (h : LmuCoherent s.lmu → LmuCoherent l) : Keeps s (s.settleFrom l) :=
  State.putLmu_keeps (fun k => Lmu.settle_coherent (h k)) _

/-! #### Slots -/

theorem State.emptySlotsNaming_keeps (r : Record) : Keeps s (s.emptySlotsNaming r) :=
  .of_rst fun h => h.of_slots rfl fun p => by
    rw [get_emptySlots]
    split
    · exact .inl rfl
    · exact .inr rfl

theorem State.setSlot_keeps (p : Port) {o : Option Record} (h : ∀ r, o = some r → reservable r = true) :
    Keeps s (s.setSlot p o) := .of_rst fun k => k.set p h

theorem State.consume_keeps (p : Port) (cond : Bool) (v : Verdict) : Keeps s (s.consume p cond v) := by
  unfold State.consume
  split
  · exact State.setSlot_keeps p fun _ h => by cases h
  · exact .refl s

theorem State.cancelOthers_keeps (p : Port) (changed : Bool) (r : Record) :
    Keeps s (s.cancelOthers p changed r) := by
  unfold State.cancelOthers
  split
  · refine .of_rst fun h => h.of_slots rfl fun q => ?_
    by_cases hq : q = p
    · subst hq
      exact .inr (by simp [emptyOtherSlots])
    · simp only [emptyOtherSlots, PerPort.get_set_other _ hq, get_emptySlots]
      split
      · exact .inl rfl
      · exact .inr rfl
  · exact .refl s

theorem State.setMode_keeps (m : Mode) : Keeps s (s.setMode m) := .of_rst id

theorem State.countPass_keeps (p : Port) : Keeps s (s.countPass p) :=
  .of_rst fun h => ⟨h.1, nextPassOver_le h.2 p⟩

theorem State.engineWork_keeps (p : Port) (r : Request) : Keeps s (s.engineWork p r) :=
  (s.hand_keeps _).trans (State.countPass_keeps p)

/-! #### Events of the units -/

theorem State.takeCondition_keeps (c : Condition) (v : Bool) : Keeps s (s.takeCondition c v) := by
  unfold State.takeCondition
  split
  · exact .refl s
  · exact State.settleFrom_keeps (LmuCoherent.of_tables rfl rfl)

theorem State.takeLevel_keeps (n : Fin 32) (v : Bool) : Keeps s (s.takeLevel n v) :=
  State.settleFrom_keeps (LmuCoherent.of_tables rfl rfl)

theorem State.rawChange_keeps (n : Fin 32) (v : Bool) : Keeps s (s.rawChange n v) := by
  have put : ∀ (l : Lmu) out, l.written = s.lmu.written → l.active = s.lmu.active → Keeps s (s.putLmu l out) :=
    fun l out hw ha => State.putLmu_keeps (LmuCoherent.of_tables hw ha) out
  unfold State.rawChange
  split
  · exact .refl s
  · dsimp only
    split
    · split
      · exact put _ _ rfl rfl
      · split
        · exact Keeps.comp (State.takeLevel_keeps n v) (put _ _ rfl rfl)
        · exact put _ _ rfl rfl
    all_goals exact put _ _ rfl rfl

theorem State.attemptSelection_keeps : Keeps s s.attemptSelection := by
  unfold State.attemptSelection
  split
  · split
    · exact Keeps.comp (State.putRtu_keeps (.of_eq (by rfl) (by rfl)) _) (s.putTlu_keeps _ _)
    · exact s.hand_keeps _
  · exact .refl s

theorem State.openWindow_keeps : Keeps s s.openWindow :=
  Keeps.comp State.attemptSelection_keeps
    (Keeps.comp (State.putTlu_keeps _ _ _) (State.putRtu_keeps (.of_eq (by rfl) (by rfl)) _))

theorem State.takeBeacon_keeps (identity : BitVec 12) : Keeps s (s.takeBeacon identity) :=
  State.putLcu_keeps (Lcu.beacon_kept _ identity) _

theorem State.takePointState_keeps (j code : Nat) (report : PointReport) (run : Nat) :
    Keeps s (s.takePointState j code report run) :=
  (State.rtuEvent_keeps (Rtu.pointState_keeps _ _ _ _ _ _ _ _) _).trans (State.rewrite_keeps _ _)

theorem State.deliver_keeps (r : Option Reception) : Keeps s (s.deliver r) := by
  unfold State.deliver
  split
  · exact .refl s
  · exact .refl s
  · exact State.takeBeacon_keeps _
  · exact State.takePointState_keeps _ _ _ _
  · exact s.putTlu_keeps _ _

theorem State.sample_keeps (carrier : Bool) : Keeps s (s.sample carrier) :=
  (s.putTlu_keeps _ _).trans (State.deliver_keeps _)

theorem foldl_keeps {α : Type} {f : State → α → State} (h : ∀ s x, Keeps s (f s x)) (l : List α) :
    ∀ s, Keeps s (l.foldl f s) := by
  induction l with
  | nil => exact Keeps.refl
  | cons x l ih => exact fun s => (h s x).trans (ih _)

theorem State.hear_keeps (heard : List Bool) : Keeps s (s.hear heard) :=
  foldl_keeps (fun _ => State.sample_keeps) heard s

theorem State.endReply_keeps (e : ReplyEnd) : Keeps s (s.endReply e) :=
  (State.sruEvent_keeps (Sru.replyEnds_coherent _ _ e) _).trans (State.rewrite_keeps _ _)

theorem State.loopSample_keeps (away : Bool) : Keeps s (s.loopSample away) := by
  unfold State.loopSample
  dsimp only
  split
  · exact State.putSru_keeps (Sru.lineSample_coherent away) _
  · exact (State.putSru_keeps (Sru.lineSample_coherent away) _).trans (State.endReply_keeps _)

theorem State.listen_keeps (heard : List Bool) : Keeps s (s.listen heard) :=
  foldl_keeps (fun _ => State.loopSample_keeps) heard s

theorem State.replyTimerExpiry_keeps : Keeps s s.replyTimerExpiry := by
  unfold State.replyTimerExpiry
  split
  · exact State.endReply_keeps _
  · exact .refl s

theorem State.takeFault_keeps (kind : FaultKind) (source : UnitName) (context : FaultContext)
    (recoverable : Bool) (effort : Option Int) : Keeps s (s.takeFault kind source context recoverable effort) :=
  ((State.putFnu_keeps (Fnu.severe_kept _ _ _ _ _ _) _).trans (State.rewrite_keeps _ _)).trans
    (State.emptySlotsNaming_keeps _)

theorem State.takeNotice_keeps (c : Cause) : Keeps s (s.takeNotice c) :=
  (State.putFnu_keeps (x := s.fnu.raise c) id _).trans (State.rewrite_keeps _ _)

theorem State.notifyEvent_keeps (entry beacon : Nat) : Keeps s (s.notifyEvent entry beacon) := by
  unfold State.notifyEvent
  split
  · exact .refl s
  · exact State.putLcu_keeps (x := { s.lcu with lastEvent := some ⟨.notify, entry, beacon, .notify⟩ }) id _

theorem State.takeMoving_keeps (u : MotionTaker) : Keeps s (s.takeMoving u) := by
  cases u with
  | dau => exact s.putDau_keeps _ _
  | tdu => exact State.tduEvent_keeps _ _
  | lmu => exact State.takeCondition_keeps _ _
  | fnu => exact State.putFnu_keeps (x := { s.fnu with motion := .moving }) id _

theorem State.takeStandstill_keeps (u : MotionTaker) : Keeps s (s.takeStandstill u) := by
  cases u with
  | dau => exact s.putDau_keeps _ _
  | tdu => exact State.tduEvent_keeps _ _
  | lmu => exact State.takeCondition_keeps _ _
  | fnu => exact State.putFnu_keeps (x := { s.fnu with motion := .standstill }) id _

theorem State.teardownChange_keeps (byCommand changed : Bool) (r : Record) :
    Keeps s (s.teardownChange byCommand changed r) := by
  unfold State.teardownChange
  split
  · split
    · exact State.emptySlotsNaming_keeps r
    · exact s.hand_keeps _
  · exact .refl s

theorem State.teardownAt_keeps (former : Desk) (byCommand : Bool) (u : TeardownTaker) :
    Keeps s (s.teardownAt former byCommand u) := by
  cases u with
  | tdu =>
    exact ((((State.tduEvent_keeps _ _).trans (State.rewrite_keeps _ _)).trans
      (State.teardownChange_keeps _ _ _)).trans (State.teardownChange_keeps _ _ _)).trans
      (State.teardownChange_keeps _ _ _)
  | rtu => exact (State.rtuEvent_keeps (Rtu.teardown_keeps _ _) _).trans (State.teardownChange_keeps _ _ _)
  | sru =>
    exact ((State.sruEvent_keeps (fun _ => Sru.clearAll_coherent _) _).trans (State.rewrite_keeps _ _)).trans
      (State.teardownChange_keeps _ _ _)
  | sdu =>
    exact (State.sduEvent_keeps (fun h => h.shrinks (Sdu.teardown_shrinks _ former _)) _).trans
      (State.teardownChange_keeps _ _ _)
  | lcu => exact State.putLcu_keeps (x := { s.lcu with actions := [] }) (fun _ => Nat.zero_le _) _

theorem State.sduLockdown_keeps (view : LockState) : Keeps s (s.sduLockdown view) := by
  unfold State.sduLockdown
  split
  · exact State.putSdu_keeps (x := { s.sdu with lockView := view }) id _
  · exact (State.sduEvent_keeps (Sdu.lockdown_ok _ view) _).trans (State.rewrite_keeps _ _)

theorem State.tluLockdown_keeps (view : LockState) : Keeps s (s.tluLockdown view) := by
  unfold State.tluLockdown
  dsimp only
  split
  · exact (s.putTlu_keeps _ _).trans State.attemptSelection_keeps
  · exact s.putTlu_keeps _ _
  · exact s.putTlu_keeps _ _

theorem State.takeLockdown_keeps (view : LockState) (u : LockTaker) : Keeps s (s.takeLockdown view u) := by
  cases u with
  | tdu => exact State.entryEvent_keeps _ _ _
  | lmu => exact State.takeCondition_keeps _ _
  | tlu => exact State.tluLockdown_keeps view
  | sdu => exact State.sduLockdown_keeps view

end
end Sys2Proof.Machine

namespace Sys2Proof.Machine

/-! #### The units' rows -/

/-- What an outcome leaves keeps the units' invariants. -/
abbrev KeptBy (o : Host.Outcome State Fault Refusal) (s : State) : Prop := Keeps s (s.after o)

section
variable {s : State}

theorem keptBy_next {s t : State} (h : Keeps s t) : KeptBy (.next t) s := h

/-- Every row takes its own event off those handed on first. -/
theorem Keeps.taking {c : Instr} {t : State} (h : Keeps (s.take c) t) : Keeps s t := (s.take_keeps c).trans h

theorem execKeyPermitEvent_keeps (d : Desk) (value : Bool) : KeptBy (execKeyPermitEvent d value s) s :=
  .taking (Keeps.comp (State.rewrite_keeps _ _) (State.putDau_keeps _ _ _))

theorem execLeadingEndPublished_keeps (e : LeadingEnd) : KeptBy (execLeadingEndPublished e s) s :=
  .taking (Keeps.comp (State.putLcu_keeps (fun h => by exact h) _)
    (Keeps.comp (State.rewrite_keeps _ _) (State.putDau_keeps _ _ _)))

theorem execEmergencyStopEvent_keeps (value : Bool) : KeptBy (execEmergencyStopEvent value s) s :=
  .taking (State.putFnu_keeps (fun h => by exact h) _)

theorem execNoticeRaise_keeps (c : Cause) : KeptBy (execNoticeRaise c s) s := .taking (State.takeNotice_keeps c)

theorem execNotifyAction_keeps (entry beacon : Nat) : KeptBy (execNotifyAction entry beacon s) s :=
  Keeps.comp (State.takeNotice_keeps _) (Keeps.comp (State.take_keeps _ _) (State.notifyEvent_keeps _ _))

theorem execSevereFault_keeps (kind : FaultKind) (source : UnitName) (context : FaultContext) (recoverable : Bool)
    (effort : Option Int) : KeptBy (execSevereFault kind source context recoverable effort s) s :=
  .taking (State.takeFault_keeps _ _ _ _ _)

theorem execRawLevelChange_keeps (line : Fin 32) (level : Bool) : KeptBy (execRawLevelChange line level s) s :=
  .taking (State.rawChange_keeps _ _)

theorem execDebounceTimerExpiry_keeps (line : Fin 32) : KeptBy (execDebounceTimerExpiry line s) s := by
  unfold execDebounceTimerExpiry
  dsimp only
  split
  · exact .taking (State.takeLevel_keeps _ _)
  · exact State.take_keeps _ _

theorem execOnDelayTimerExpiry_keeps (cell : Fin 16) : KeptBy (execOnDelayTimerExpiry cell s) s := by
  unfold execOnDelayTimerExpiry
  dsimp only
  split
  · exact .taking (State.settleFrom_keeps (LmuCoherent.of_tables rfl rfl))
  · exact State.take_keeps _ _

theorem execConditionChange_keeps (c : Condition) (value : Bool) : KeptBy (execConditionChange c value s) s :=
  .taking (State.takeCondition_keeps _ _)

theorem execHardwareSoundAdd_keeps (src : SoundSource) (snd : Sounder) (pattern : Fin 16) :
    KeptBy (execHardwareSoundAdd src snd pattern s) s := by
  unfold execHardwareSoundAdd
  dsimp only
  split
  · exact State.take_keeps _ _
  · exact .taking (Keeps.comp (State.rewrite_keeps _ _)
      (State.sduEvent_keeps (Sdu.hardwareAdd_ok _ src snd pattern) _))

theorem execHardwareSoundRemove_keeps (src : SoundSource) (snd : Sounder) :
    KeptBy (execHardwareSoundRemove src snd s) s := by
  unfold execHardwareSoundRemove
  dsimp only
  split
  · exact State.take_keeps _ _
  · exact .taking (State.sduEvent_keeps (fun h => h.shrinks (Sdu.hardwareRemove_shrinks _ _ _ _)) _)

theorem execDirectSoundPermitEvent_keeps (k : DirectSound) (value : Bool) :
    KeptBy (execDirectSoundPermitEvent k value s) s := by
  unfold execDirectSoundPermitEvent
  dsimp only
  split
  · exact .taking (State.putSdu_keeps (fun h => h.shrinks (.of_eq (Sdu.recordDirect_requests _ _ _))) _)
  · exact .taking (Keeps.comp (State.rewrite_keeps _ _) (State.sduEvent_keeps (Sdu.direct_ok _ _ _) _))

theorem execPhaseTimerExpiry_keeps (snd : Sounder) : KeptBy (execPhaseTimerExpiry snd s) s := by
  unfold execPhaseTimerExpiry
  dsimp only
  split
  · exact .taking (Keeps.comp (State.rewrite_keeps _ _)
      (State.sduEvent_keeps (fun h => h.shrinks (Sdu.phaseExpiry_shrinks _ _ _)) _))
  · exact State.take_keeps _ _

theorem execStrikeEnd_keeps : KeptBy (execStrikeEnd s) s := .taking (State.sound_keeps (fun h => by exact h) _)

theorem execAtStopEvent_keeps (value : Bool) : KeptBy (execAtStopEvent value s) s :=
  .taking (Keeps.comp (State.rewrite_keeps _ _) (State.sruEvent_keeps (Sru.atStopEvent_coherent value) _))

theorem execStopZoneEnter_keeps (p : Nat) (mandatory : Bool) : KeptBy (execStopZoneEnter p mandatory s) s :=
  .taking (Keeps.comp (State.rewrite_keeps _ _) (State.sruEvent_keeps (Sru.zoneEnter_coherent _ _ p mandatory) _))

theorem execStopZoneLeave_keeps (p : Nat) : KeptBy (execStopZoneLeave p s) s :=
  .taking (Keeps.comp (State.rewrite_keeps _ _) (State.sruEvent_keeps (Sru.zoneLeave_coherent p) _))

theorem Sru.pollGone_coherent {u : Sru} (h : SruCoherent u) : SruCoherent u.pollGone := h

theorem execPollEnd_keeps : KeptBy (execPollEnd s) s := by
  unfold execPollEnd
  dsimp only
  split
  · exact .taking (State.sruEvent_keeps (fun h => by exact h) _)
  · exact .taking (State.putSru_keeps (fun h => by exact h) _)

theorem execGoodReply_keeps (heard : List Bool) : KeptBy (execGoodReply heard s) s := .taking (State.listen_keeps _)

theorem execBadReply_keeps (heard : List Bool) : KeptBy (execBadReply heard s) s := by
  unfold execBadReply
  dsimp only
  split
  · exact .taking State.replyTimerExpiry_keeps
  · exact .taking (State.listen_keeps _)

theorem Sru.countUnsolicited_coherent (n : Nat) {u : Sru} (h : SruCoherent u) : SruCoherent (u.countUnsolicited n) := h

theorem execUnsolicitedCharacter_keeps : KeptBy (execUnsolicitedCharacter s) s :=
  .taking (State.putSru_keeps (Sru.countUnsolicited_coherent 1) _)

theorem execVigilancePedalEvent_keeps (d : Desk) (value : Bool) : KeptBy (execVigilancePedalEvent d value s) s :=
  .taking (State.tduEvent_keeps _ _)

theorem execTractionPermitEvent_keeps (value : Bool) : KeptBy (execTractionPermitEvent value s) s :=
  .taking (State.entryEvent_keeps _ _ _)

theorem execFrameTimerExpiry_keeps : KeptBy (execFrameTimerExpiry s) s := .taking (State.putTdu_keeps _ _ _)

theorem execStatusFrame_keeps (octets : List Byte) : KeptBy (execStatusFrame octets s) s :=
  .taking (Keeps.comp (State.rewrite_keeps _ _) (State.tduEvent_keeps _ _))

theorem execStaleTimerExpiry_keeps : KeptBy (execStaleTimerExpiry s) s := .taking (State.tduEvent_keeps _ _)

theorem execGraceTimerExpiry_keeps : KeptBy (execGraceTimerExpiry s) s := .taking (State.tduEvent_keeps _ _)

theorem execPointGuardEntryChange_keeps (active : Bool) (value : Int) :
    KeptBy (execPointGuardEntryChange active value s) s := .taking (State.entryEvent_keeps _ _ _)

theorem execTachPulse_keeps : KeptBy (execTachPulse s) s := .taking (State.putLcu_keeps (Lcu.pulse_kept _) _)

theorem execStandstillTimerExpiry_keeps : KeptBy (execStandstillTimerExpiry s) s :=
  .taking (State.putLcu_keeps Lcu.standstillExpiry_kept _)

theorem execArmRoute_keeps (j : Nat) : KeptBy (execArmRoute j s) s :=
  .taking (Keeps.comp (State.rewrite_keeps _ _) (State.rtuEvent_keeps (Rtu.arm_keeps _ _ _ _) _))

theorem execClearance_keeps (j : Nat) : KeptBy (execClearance j s) s :=
  .taking (State.rtuEvent_keeps (Rtu.clearance_keeps _ _ _ _) _)

theorem execGuardTimerExpiry_keeps (j : Nat) : KeptBy (execGuardTimerExpiry j s) s := by
  unfold execGuardTimerExpiry
  dsimp only
  split
  · exact .taking (State.rtuEvent_keeps (Rtu.guardExpiry_keeps _ _ _ _) _)
  · exact State.take_keeps _ _

theorem execLateDecisionReport_keeps (p : Nat) : KeptBy (execLateDecisionReport p s) s :=
  .taking (Keeps.comp (State.rewrite_keeps _ _) (State.rtuEvent_keeps (Rtu.lateDecision_keeps _ _) _))

theorem execBeaconTelegram_keeps (heard : List Bool) : KeptBy (execBeaconTelegram heard s) s :=
  .taking (State.hear_keeps _)

theorem execPointStateTelegram_keeps (heard : List Bool) : KeptBy (execPointStateTelegram heard s) s :=
  .taking (State.hear_keeps _)

theorem execTrackRxError_keeps (heard : List Bool) : KeptBy (execTrackRxError heard s) s :=
  .taking (State.hear_keeps _)

theorem execReceiverRecoveringBit_keeps (carrier : Bool) : KeptBy (execReceiverRecoveringBit carrier s) s :=
  .taking (State.putTlu_keeps _ _ _)

theorem execOwedReport_keeps : KeptBy (execOwedReport s) s := .taking State.attemptSelection_keeps

theorem execTelegramEnd_keeps : KeptBy (execTelegramEnd s) s := by
  unfold execTelegramEnd
  dsimp only
  split
  · exact .taking (Keeps.comp (State.putTlu_keeps _ _ _) (Keeps.comp (State.rewrite_keeps _ _)
      (State.rtuEvent_keeps (Rtu.ended_keeps _ _ _) _)))
  · exact State.take_keeps _ _
  · exact State.take_keeps _ _

theorem execGapTimerExpiry_keeps : KeptBy (execGapTimerExpiry s) s := by
  unfold execGapTimerExpiry
  dsimp only
  split
  · exact .taking (Keeps.comp State.attemptSelection_keeps (State.putTlu_keeps _ _ _))
  · exact State.take_keeps _ _

theorem execWindowOpen_keeps : KeptBy (execWindowOpen s) s := .taking State.openWindow_keeps

theorem execWindowClose_keeps : KeptBy (execWindowClose s) s :=
  .taking (Keeps.comp (State.putTlu_keeps _ _ _) (Keeps.comp (State.rewrite_keeps _ _)
    (State.rtuEvent_keeps (Rtu.windowClose_keeps _) _)))

theorem execStructuralChangeReport_keeps (r : Record) : KeptBy (execStructuralChangeReport r s) s :=
  .taking (State.emptySlotsNaming_keeps r)

theorem execMovingReport_keeps (u : MotionTaker) : KeptBy (execMovingReport u s) s := .taking (State.takeMoving_keeps u)

theorem execStandstillReport_keeps (u : MotionTaker) : KeptBy (execStandstillReport u s) s :=
  .taking (State.takeStandstill_keeps u)

theorem execDeskStateChange_keeps (new : DeskState) : KeptBy (execDeskStateChange new s) s :=
  .taking (Keeps.comp (State.rtuEvent_keeps (.refl _) _) (State.tduEvent_keeps _ _))

theorem execNoDeskTeardown_keeps (u : TeardownTaker) (former : Desk) (byCommand : Bool) :
    KeptBy (execNoDeskTeardown u former byCommand s) s := .taking (State.teardownAt_keeps _ _ u)

theorem execLockdownViewChange_keeps (u : LockTaker) (view : LockState) :
    KeptBy (execLockdownViewChange u view s) s := .taking (State.takeLockdown_keeps view u)

end

/-! #### Events taken before a request -/

theorem State.takeEvent_keeps (s : State) (c : Instr) : Keeps s (s.takeEvent c) := by
  unfold State.takeEvent
  split
  · exact execNoDeskTeardown_keeps _ _ _
  · exact execDeskStateChange_keeps _
  · exact execLeadingEndPublished_keeps _
  · exact execPointGuardEntryChange_keeps _ _
  · exact execTractionPermitEvent_keeps _
  · exact execVigilancePedalEvent_keeps _ _
  · exact execKeyPermitEvent_keeps _ _
  · exact execMovingReport_keeps _
  · exact execMovingReport_keeps _
  · exact execStandstillReport_keeps _
  · exact execStandstillReport_keeps _
  · exact execArmRoute_keeps _
  · exact execClearance_keeps _
  · exact execLateDecisionReport_keeps _
  · exact execWindowOpen_keeps
  · exact execWindowClose_keeps
  · exact execOwedReport_keeps
  · exact execAtStopEvent_keeps _
  · exact execStopZoneEnter_keeps _ _
  · exact execStopZoneLeave_keeps _
  · exact execHardwareSoundAdd_keeps _ _ _
  · exact execHardwareSoundRemove_keeps _ _
  · exact execDirectSoundPermitEvent_keeps _ _
  · exact execLockdownViewChange_keeps _ _
  · exact execTachPulse_keeps
  · exact execConditionChange_keeps _ _
  · exact .refl s

theorem State.takeAll_keeps (s : State) (l : List Instr) : Keeps s (s.takeAll l) :=
  foldl_keeps State.takeEvent_keeps l s

theorem State.takeDeskEvents_keeps (s : State) : Keeps s s.takeDeskEvents :=
  Keeps.comp (State.takeAll_keeps _ _) (Keeps.comp (State.takeAll_keeps _ _) (State.takeAll_keeps _ _))

theorem State.completeTeardown_keeps (s : State) : Keeps s s.completeTeardown :=
  Keeps.comp (State.takeAll_keeps _ _) s.takeDeskEvents_keeps

end Sys2Proof.Machine

namespace Sys2Proof.Machine

/-! #### Requests: what a WRITE, a READ and a command keep -/

/-- What an answer leaves keeps the units' invariants. -/
abbrev Answer.KeptBy (a : Answer) (s : State) : Prop := Keeps s a.state

section
variable {s : State}

theorem Answer.refuse_keeps (why : Reason) : (Answer.refuse s why).KeptBy s := .refl s

theorem Answer.storeError_keeps (u : UnitName) (reads : StoreWord → Bool) :
    (Answer.storeError s u reads).KeptBy s := s.hand_keeps _

theorem demandWriteAnswer_keeps (d : Desk) (index : Byte) (contents : List Byte) :
    (demandWriteAnswer d index contents s).KeptBy s := by
  unfold demandWriteAnswer
  split
  · exact Answer.refuse_keeps _
  · dsimp only [Answer.KeptBy]
    split
    · exact Keeps.comp (State.tduEvent_keeps _ _) (State.rewrite_keeps _ _)
    · exact Keeps.comp (State.emptySlotsNaming_keeps _)
        (Keeps.comp (State.tduEvent_keeps _ _) (State.rewrite_keeps _ _))

theorem vehicleWriteAnswer_keeps (index : Byte) (contents : List Byte) :
    (vehicleWriteAnswer index contents s).KeptBy s := by
  unfold vehicleWriteAnswer
  split
  · exact Answer.refuse_keeps _
  · exact Keeps.comp (State.rewrite_keeps _ _) (.of_rst fun h => by exact h)

theorem settings_keeps (s : State) (c : Settings) : Keeps s { s with settings := c } :=
  ⟨id, id, id, .refl _, id, id, id⟩

theorem settingsWriteAnswer_keeps (index : Byte) (contents : List Byte) :
    (settingsWriteAnswer index contents s).KeptBy s := by
  unfold settingsWriteAnswer
  split
  · exact Answer.refuse_keeps _
  · exact Keeps.comp (State.tduEvent_keeps _ _) (Keeps.comp (State.rewrite_keeps _ _) (settings_keeps s _))

/-- R40: a table with two TACH_INPUT lines is refused. -/
theorem linesWriteAnswer_keeps (index : Byte) (contents : List Byte) :
    (linesWriteAnswer index contents s).KeptBy s := by
  unfold linesWriteAnswer
  split
  · exact Answer.refuse_keeps _
  · split
    case isTrue => exact Answer.refuse_keeps _
    case isFalse ht =>
      rw [twoTachs_iff] at ht
      exact Keeps.comp (State.rewrite_keeps _ _) (State.putLmu_keeps (fun ⟨hc, hac, _, hal⟩ => by exact ⟨hc, hac, ht, hal⟩) _)

/-- R46: a table with a cycle is refused. -/
theorem cellsWriteAnswer_keeps (index : Byte) (contents : List Byte) :
    (cellsWriteAnswer index contents s).KeptBy s := by
  unfold cellsWriteAnswer
  split
  · exact Answer.refuse_keeps _
  · split
    case isTrue => exact Answer.refuse_keeps _
    case isFalse ht =>
      rw [hasCycle_iff_cyclic] at ht
      exact Keeps.comp (State.rewrite_keeps _ _) (State.putLmu_keeps (fun ⟨_, hrest⟩ => by exact ⟨ht, hrest⟩) _)

theorem permitsWriteAnswer_keeps (index : Byte) (contents : List Byte) :
    (permitsWriteAnswer index contents s).KeptBy s := by
  unfold permitsWriteAnswer
  split
  · exact Answer.refuse_keeps _
  · exact Keeps.comp (State.rewrite_keeps _ _) (State.putLmu_keeps (fun h => by exact h) _)

theorem locationsWriteAnswer_keeps (index : Byte) (contents : List Byte) :
    (locationsWriteAnswer index contents s).KeptBy s := by
  unfold locationsWriteAnswer
  split
  · exact Answer.refuse_keeps _
  · exact Keeps.comp (State.rewrite_keeps _ _) (State.putLcu_keeps (fun h => by exact h) _)

theorem patternsWriteAnswer_keeps (index : Byte) (contents : List Byte) :
    (patternsWriteAnswer index contents s).KeptBy s := by
  unfold patternsWriteAnswer
  split
  · exact Answer.refuse_keeps _
  · split
    · exact Answer.refuse_keeps _
    · exact Keeps.comp (State.rewrite_keeps _ _) (State.putSdu_keeps (fun h => by exact h) _)

theorem writeAnswer_keeps (index : Byte) (contents : List Byte) (r : Record) :
    (writeAnswer index contents s r).KeptBy s := by
  cases r with
  | demandA => exact demandWriteAnswer_keeps _ _ _
  | demandB => exact demandWriteAnswer_keeps _ _ _
  | vehicle => exact vehicleWriteAnswer_keeps _ _
  | lines => exact linesWriteAnswer_keeps _ _
  | cells => exact cellsWriteAnswer_keeps _ _
  | permits => exact permitsWriteAnswer_keeps _ _
  | locations => exact locationsWriteAnswer_keeps _ _
  | patterns => exact patternsWriteAnswer_keeps _ _
  | settings => exact settingsWriteAnswer_keeps _ _
  | _ => exact Answer.refuse_keeps _

theorem deskClaimAnswer_keeps (p : Port) (args : List Byte) : (deskClaimAnswer p args s).KeptBy s := by
  unfold deskClaimAnswer
  split
  · split
    · exact Answer.storeError_keeps _ _
    · split
      · exact State.putDau_keeps _ _ _
      · exact Answer.refuse_keeps _
  · exact Answer.refuse_keeps _
  · exact Answer.refuse_keeps _

theorem deskReleaseAnswer_keeps (p : Port) (args : List Byte) : (deskReleaseAnswer p args s).KeptBy s := by
  unfold deskReleaseAnswer
  split
  · split
    · exact Answer.storeError_keeps _ _
    · split
      · exact State.putDau_keeps _ _ _
      · exact Answer.refuse_keeps _
  · exact Answer.refuse_keeps _
  · exact Answer.refuse_keeps _

theorem deskForceReleaseAnswer_keeps (args : List Byte) : (deskForceReleaseAnswer args s).KeptBy s := by
  unfold deskForceReleaseAnswer
  split
  · exact Answer.refuse_keeps _
  · split
    · exact Answer.storeError_keeps _ _
    · split
      · exact State.putDau_keeps _ _ _
      · exact Answer.refuse_keeps _

theorem supervisorCeilingAnswer_keeps (args : List Byte) : (supervisorCeilingAnswer args s).KeptBy s := by
  unfold supervisorCeilingAnswer
  split
  · exact Answer.refuse_keeps _
  · split
    · exact Answer.storeError_keeps _ _
    · exact State.putTdu_keeps _ _ _

theorem State.routeCommand_keeps (l : List SettingName) {r : RouteResult} (h : RtuKeeps s.rtu r.1) :
    (s.routeCommand l r).KeptBy s := by
  unfold State.routeCommand
  split
  · exact Answer.storeError_keeps _ _
  · exact State.putRtu_keeps h _

theorem routeInsertAnswer_keeps (p : Port) (args : List Byte) : (routeInsertAnswer p args s).KeptBy s := by
  unfold routeInsertAnswer
  split
  · exact State.routeCommand_keeps _ (Rtu.insert_keeps _ _ _ _ _)
  · exact Answer.refuse_keeps _

theorem routeSetCodeAnswer_keeps (args : List Byte) : (routeSetCodeAnswer args s).KeptBy s := by
  unfold routeSetCodeAnswer
  split
  · exact State.routeCommand_keeps _ (Rtu.setCode_keeps _ _ _ _ _)
  · exact Answer.refuse_keeps _

theorem routeCancelAnswer_keeps (args : List Byte) : (routeCancelAnswer args s).KeptBy s := by
  unfold routeCancelAnswer
  split
  · exact State.routeCommand_keeps _ (Rtu.cancelRoute_keeps _ _ _ _)
  · exact Answer.refuse_keeps _

theorem routeOverrideAnswer_keeps (args : List Byte) : (routeOverrideAnswer args s).KeptBy s := by
  unfold routeOverrideAnswer
  split
  · exact State.routeCommand_keeps _ (Rtu.override_keeps _ _ _ _)
  · exact Answer.refuse_keeps _

theorem planSyncAnswer_keeps (args : List Byte) : (planSyncAnswer args s).KeptBy s := by
  unfold planSyncAnswer
  split
  · exact State.routeCommand_keeps _ (.refl _)
  · exact Answer.refuse_keeps _

theorem stopSetAnswer_keeps (args : List Byte) : (stopSetAnswer args s).KeptBy s := by
  unfold stopSetAnswer
  split
  · split
    · exact Answer.storeError_keeps _ _
    · split
      · exact Answer.refuse_keeps _
      · exact State.putSru_keeps (Sru.press_coherent _ _ _ _) _
  · exact Answer.refuse_keeps _

theorem stopClearAnswer_keeps (args : List Byte) : (stopClearAnswer args s).KeptBy s := by
  unfold stopClearAnswer
  split
  · split
    · exact Answer.storeError_keeps _ _
    · exact State.putSru_keeps Sru.clear_coherent _
  · exact Answer.refuse_keeps _

theorem soundStartAnswer_keeps (p : Port) (args : List Byte) : (soundStartAnswer p args s).KeptBy s := by
  unfold soundStartAnswer
  split
  case h_1 => exact Answer.refuse_keeps _
  case h_2 a _ =>
    dsimp only
    split_ifs with hmay hbad hempty
    · exact Answer.refuse_keeps _
    · exact Answer.storeError_keeps _ _
    · exact Answer.refuse_keeps _
    · split
      case h_1 r hr => exact State.sound_keeps (fun h => Sdu.offer_ok _ h hr) _
      case h_2 => exact Answer.refuse_keeps _

theorem soundStopAnswer_keeps (p : Port) (args : List Byte) : (soundStopAnswer p args s).KeptBy s := by
  unfold soundStopAnswer
  split
  case h_1 => exact Answer.refuse_keeps _
  case h_2 snd _ =>
    dsimp only
    split_ifs
    · exact Answer.storeError_keeps _ _
    · exact State.sound_keeps (fun h => h.shrinks (Sdu.remove_shrinks _ _ _ _)) _
    · exact .refl s

theorem faultAckAnswer_keeps (args : List Byte) : (faultAckAnswer args s).KeptBy s := by
  unfold faultAckAnswer
  split
  · exact Answer.refuse_keeps _
  · split_ifs
    · exact Answer.storeError_keeps _ _
    · exact Answer.refuse_keeps _
    · exact Keeps.comp (State.rewrite_keeps _ _) (State.putFnu_keeps (fun _ => by exact rfl) _)

theorem lockdownReleaseAnswer_keeps (args : List Byte) : (lockdownReleaseAnswer args s).KeptBy s := by
  unfold lockdownReleaseAnswer
  split
  · exact Answer.refuse_keeps _
  · split_ifs
    · exact Answer.storeError_keeps _ _
    · exact State.putFnu_keeps (fun h => by exact h) _
    · exact Answer.refuse_keeps _

theorem noticeClearAnswer_keeps (p : Port) (args : List Byte) : (noticeClearAnswer p args s).KeptBy s := by
  unfold noticeClearAnswer
  split
  · exact Answer.refuse_keeps _
  · split
    · exact Answer.storeError_keeps _ _
    · exact State.putFnu_keeps (fun h => by exact h) _

theorem noticeEnableAnswer_keeps (p : Port) (args : List Byte) : (noticeEnableAnswer p args s).KeptBy s := by
  unfold noticeEnableAnswer
  split
  · exact Answer.refuse_keeps _
  · split
    · exact Answer.storeError_keeps _ _
    · exact Keeps.comp (State.rewrite_keeps _ _) (State.putFnu_keeps (fun h => by exact h) _)

/-! #### CONFIG_COMMIT and RECONFIGURE -/

theorem State.commit_keeps (s : State) : Keeps s s.commit :=
  Keeps.comp (State.rewrite_keeps _ _) <| Keeps.comp (State.sduEvent_keeps (Sdu.addAll_ok _ _ _) _) <|
  Keeps.comp State.attemptSelection_keeps <| Keeps.comp (State.putTlu_keeps _ _ _) <|
  Keeps.comp (State.sruEvent_keeps (Sru.startPolling_coherent _) _) <|
  Keeps.comp (State.settleFrom_keeps Lmu.commit_coherent) <|
  Keeps.comp (State.rewrite_keeps _ _) (s.setMode_keeps .service)

theorem configCommitAnswer_keeps (args : List Byte) : (configCommitAnswer args s).KeptBy s := by
  unfold configCommitAnswer
  split
  · exact Answer.refuse_keeps _
  · split_ifs
    · exact Answer.storeError_keeps _ _
    · exact Answer.refuse_keeps _
    · exact Answer.refuse_keeps _
    · exact Answer.storeError_keeps _ _
    · exact s.commit_keeps

theorem State.endGuard_keeps (s : State) (plan : List PlanEntry) : Keeps s (s.endGuard plan) := by
  unfold State.endGuard
  split
  · exact Keeps.comp (State.takeCondition_keeps _ _) (State.entryEvent_keeps _ _ _)
  · exact .refl s

theorem State.reconfigureRtu_keeps (s : State) : Keeps s s.reconfigureRtu :=
  Keeps.comp (State.endGuard_keeps _ _) (State.putRtu_keeps (Rtu.reconfigure_keeps _) _)

theorem State.reconfigureLcu_keeps (s : State) : Keeps s s.reconfigureLcu :=
  Keeps.comp (State.putTlu_keeps _ _ _) (State.putLcu_keeps (fun _ => Nat.zero_le _) _)

theorem Sru.stopPolling_coherent {u : Sru} (h : SruCoherent u) : SruCoherent u.stopPolling := h

theorem State.reconfigureSru_keeps (s : State) : Keeps s s.reconfigureSru := by
  have hsru : Keeps s ((s.sruEvent stopWords (s.sru.clearAll.stopPolling, [])).rewrite clearAllWritten) :=
    Keeps.comp (State.rewrite_keeps _ _)
      (State.sruEvent_keeps (fun _ => by exact Sru.stopPolling_coherent (Sru.clearAll_coherent _)) _)
  unfold State.reconfigureSru
  dsimp only
  split
  · exact Keeps.comp (State.takeCondition_keeps _ _) hsru
  · exact hsru

theorem Sdu.reconfigure_ok (u : Sdu) : RequestsOk u.reconfigure := ⟨Nat.zero_le _, List.nodup_nil⟩

theorem State.reconfigureParts_keeps (s : State) : Keeps s s.reconfigureParts :=
  Keeps.comp (State.putTlu_keeps _ _ _) <| Keeps.comp (State.takeCondition_keeps _ _) <|
  Keeps.comp (State.setMode_keeps _) <| Keeps.comp (State.rewrite_keeps _ _) <|
  Keeps.comp (State.putSdu_keeps (fun _ => Sdu.reconfigure_ok _) _) <|
  Keeps.comp (State.reconfigureSru_keeps _) <| Keeps.comp (State.reconfigureLcu_keeps _) <|
  Keeps.comp (State.reconfigureRtu_keeps _) <|
  .of_rst fun h => h.of_slots rfl fun p => .inl (by cases p <;> rfl)

theorem State.reconfigure_keeps (s : State) : Keeps s s.reconfigure :=
  Keeps.comp (State.reconfigureParts_keeps _) (State.takeAll_keeps _ _)

theorem reconfigureAnswer_keeps (args : List Byte) : (reconfigureAnswer args s).KeptBy s := by
  unfold reconfigureAnswer
  split
  · exact Answer.refuse_keeps _
  · split_ifs
    · exact Answer.storeError_keeps _ _
    · exact s.reconfigure_keeps
    · exact Answer.refuse_keeps _

theorem commandAnswer_keeps (p : Port) (args : List Byte) (c : CommandName) :
    (commandAnswer p args s c).KeptBy s := by
  cases c with
  | deskClaim => exact deskClaimAnswer_keeps _ _
  | deskRelease => exact deskReleaseAnswer_keeps _ _
  | deskForceRelease => exact deskForceReleaseAnswer_keeps _
  | supervisorCeiling => exact supervisorCeilingAnswer_keeps _
  | routeInsert => exact routeInsertAnswer_keeps _ _
  | routeSetCode => exact routeSetCodeAnswer_keeps _
  | routeCancel => exact routeCancelAnswer_keeps _
  | routeOverride => exact routeOverrideAnswer_keeps _
  | planSync => exact planSyncAnswer_keeps _
  | stopSet => exact stopSetAnswer_keeps _
  | stopClear => exact stopClearAnswer_keeps _
  | soundStart => exact soundStartAnswer_keeps _ _
  | soundStop => exact soundStopAnswer_keeps _ _
  | faultAck => exact faultAckAnswer_keeps _
  | lockdownRelease => exact lockdownReleaseAnswer_keeps _
  | noticeClear => exact noticeClearAnswer_keeps _ _
  | noticeEnable => exact noticeEnableAnswer_keeps _ _
  | configCommit => exact configCommitAnswer_keeps _
  | reconfigure => exact reconfigureAnswer_keeps _

/-! #### A request served whole -/

theorem State.serveChecked_keeps (p : Port) (cond : Bool) (r : Record) (modeOk portOk : Bool)
    {owner : State → Answer} (h : (owner s).KeptBy s) :
    Keeps s (s.serveChecked p cond r modeOk portOk owner).1 := by
  refine Keeps.comp (State.consume_keeps p cond _) (Keeps.comp (State.cancelOthers_keeps p _ r) ?_)
  split_ifs
  iterate 3 exact Answer.refuse_keeps _
  exact h

theorem draws_keeps (s : State) (n : Nat) : Keeps s { s with draws := n } := ⟨id, id, id, .refl _, id, id, id⟩

theorem State.afterRead_keeps (s : State) (p : Port) (r : Record) (index : Byte) :
    Keeps s (s.afterRead p r index) := by
  cases r with
  | notices => exact State.putFnu_keeps (fun h => by exact h) _
  | sound =>
    unfold State.afterRead
    dsimp only
    split
    · exact draws_keeps s _
    · exact .refl s
  | _ => exact .refl s

theorem State.serveRead_keeps (s : State) (p : Port) (reserve : Bool) (target index : Byte) :
    Keeps s (s.serveRead p reserve target index).1 := by
  unfold State.serveRead
  split
  case h_1 => exact .refl s
  case h_2 r _ =>
    split
    case isTrue => exact .refl s
    case isFalse hres =>
      split
      case h_1 => exact .refl s
      case h_2 =>
        split
        · exact s.hand_keeps _
        · dsimp only
          split
          case isTrue ht =>
            refine Keeps.comp (State.setSlot_keeps p ?_) (s.afterRead_keeps p r index)
            rintro _ ⟨⟩
            simpa [ht] using hres
          case isFalse => exact s.afterRead_keeps p r index

theorem State.answerRequest_keeps (s : State) (p : Port) (r : Request) : Keeps s (s.answerRequest p r).1 := by
  cases r with
  | null => exact .refl s
  | read target index => exact s.serveRead_keeps p _ _ _
  | readReserve target index => exact s.serveRead_keeps p _ _ _
  | write cond target index contents =>
    unfold State.answerRequest
    dsimp only
    split
    · exact State.consume_keeps _ _ _
    · exact State.serveChecked_keeps _ _ _ _ _ (writeAnswer_keeps _ _ _)
  | command cond code args =>
    unfold State.answerRequest
    dsimp only
    split
    · exact State.consume_keeps _ _ _
    · exact State.serveChecked_keeps _ _ _ _ _ (commandAnswer_keeps _ _ _)

theorem State.respond_keeps (s : State) (p : Port) (resp : Response) : Keeps s (s.respond p resp) :=
  s.atPort_keeps p _

theorem State.serve_keeps (s : State) (p : Port) (r : Request) : Keeps s (s.serve p r) :=
  Keeps.comp (State.respond_keeps _ _ _) <| Keeps.comp (State.answerRequest_keeps _ _ _) <|
  Keeps.comp (State.engineWork_keeps _ _) s.completeTeardown_keeps

theorem State.request_keeps (s : State) (p : Port) (r : Request) : Keeps s (s.request p r) := by
  have hserve : ∀ (t : State) (now : Prop) [Decidable now], Keeps s t → Keeps s (if now then t.serve p r else t) := by
    intro t now _ ht
    split
    · exact ht.trans (t.serve_keeps p r)
    · exact ht
  unfold State.request
  dsimp only
  apply hserve
  split
  · exact s.atPort_keeps _ _
  · exact .refl s

theorem State.serveChoice_keeps (s : State) : Keeps s s.serveChoice := by
  unfold State.serveChoice
  split
  · split
    · exact s.serve_keeps _ _
    · exact .refl s
  · exact .refl s

/-! #### The rows at the ports, and a step -/

/-- The units as they stand after power-on; the raw levels are no part of the tables (R188). -/
theorem execPowerOn_keeps : KeptBy (execPowerOn s) s where
  rst := fun _ => by
    refine ⟨fun p r h => ?_, Nat.zero_le _⟩
    cases p <;> cases h
  lmu := fun _ => by
    have hlines : ¬ TwoTachs Lmu.reset.written.lines := by
      rw [← twoTachs_iff]
      decide
    have hcells : ¬ Cyclic Lmu.reset.written.cells := by
      rw [← hasCycle_iff_cyclic]
      decide
    exact ⟨hcells, hcells, hlines, hlines⟩
  lcu := fun _ => Nat.zero_le _
  rtu := .of_sublist (List.nil_sublist _) (List.nil_sublist _)
  sru := fun _ => ⟨List.nodup_nil, fun _ => rfl⟩
  sdu := fun _ => ⟨Nat.zero_le _, List.nodup_nil⟩
  fnu := fun _ => rfl

theorem execPortTransaction_keeps (p : Port) (frame : PortFrame) : KeptBy (execPortTransaction p frame s) s := by
  unfold execPortTransaction
  dsimp only [KeptBy, State.after]
  split
  · exact Keeps.comp (.of_rst fun h => Rst.arrives_kept h p) (s.atPort_keeps p _)
  · exact s.atPort_keeps p _

theorem exec_keeps (c : Instr) : KeptBy (exec c s) s := by
  cases c with
  | powerOn => exact execPowerOn_keeps
  | portTransaction p frame => exact execPortTransaction_keeps p frame
  | structuralChangeReport r => exact execStructuralChangeReport_keeps r
  | rawLevelChange line level => exact execRawLevelChange_keeps line level
  | debounceTimerExpiry line => exact execDebounceTimerExpiry_keeps line
  | onDelayTimerExpiry cell => exact execOnDelayTimerExpiry_keeps cell
  | conditionChange c value => exact execConditionChange_keeps c value
  | keyPermitEvent d value => exact execKeyPermitEvent_keeps d value
  | vigilancePedalEvent d value => exact execVigilancePedalEvent_keeps d value
  | tractionPermitEvent value => exact execTractionPermitEvent_keeps value
  | atStopEvent value => exact execAtStopEvent_keeps value
  | directSoundPermitEvent k value => exact execDirectSoundPermitEvent_keeps k value
  | emergencyStopEvent value => exact execEmergencyStopEvent_keeps value
  | tachPulse => exact execTachPulse_keeps
  | standstillTimerExpiry => exact execStandstillTimerExpiry_keeps
  | movingReport u => exact execMovingReport_keeps u
  | standstillReport u => exact execStandstillReport_keeps u
  | deskStateChange new => exact execDeskStateChange_keeps new
  | noDeskTeardown u former byCommand => exact execNoDeskTeardown_keeps u former byCommand
  | leadingEndPublished e => exact execLeadingEndPublished_keeps e
  | frameTimerExpiry => exact execFrameTimerExpiry_keeps
  | statusFrame octets => exact execStatusFrame_keeps octets
  | staleTimerExpiry => exact execStaleTimerExpiry_keeps
  | graceTimerExpiry => exact execGraceTimerExpiry_keeps
  | pointGuardEntryChange active value => exact execPointGuardEntryChange_keeps active value
  | beaconTelegram heard => exact execBeaconTelegram_keeps heard
  | pointStateTelegram heard => exact execPointStateTelegram_keeps heard
  | trackRxError heard => exact execTrackRxError_keeps heard
  | armRoute junction => exact execArmRoute_keeps junction
  | clearance junction => exact execClearance_keeps junction
  | stopZoneEnter platform mandatory => exact execStopZoneEnter_keeps platform mandatory
  | stopZoneLeave platform => exact execStopZoneLeave_keeps platform
  | notifyAction entry beacon => exact execNotifyAction_keeps entry beacon
  | windowOpen => exact execWindowOpen_keeps
  | windowClose => exact execWindowClose_keeps
  | guardTimerExpiry junction => exact execGuardTimerExpiry_keeps junction
  | lateDecisionReport platform => exact execLateDecisionReport_keeps platform
  | owedReport => exact execOwedReport_keeps
  | telegramEnd => exact execTelegramEnd_keeps
  | gapTimerExpiry => exact execGapTimerExpiry_keeps
  | pollEnd => exact execPollEnd_keeps
  | goodReply heard => exact execGoodReply_keeps heard
  | badReply heard => exact execBadReply_keeps heard
  | unsolicitedCharacter => exact execUnsolicitedCharacter_keeps
  | hardwareSoundAdd src snd pattern => exact execHardwareSoundAdd_keeps src snd pattern
  | hardwareSoundRemove src snd => exact execHardwareSoundRemove_keeps src snd
  | phaseTimerExpiry snd => exact execPhaseTimerExpiry_keeps snd
  | strikeEnd => exact execStrikeEnd_keeps
  | severeFault kind source context recoverable effort => exact execSevereFault_keeps _ _ _ _ _
  | lockdownViewChange u view => exact execLockdownViewChange_keeps u view
  | noticeRaise c => exact execNoticeRaise_keeps c
  | receiverRecoveringBit carrier => exact execReceiverRecoveringBit_keeps carrier
  | _ => exact s.request_keeps _ _

theorem pending_keeps (s : State) (l : List Instr) : Keeps s { s with pending := l } :=
  ⟨id, id, id, .refl _, id, id, id⟩

theorem step_keeps {t : State} (h : step s = .next t) : Keeps s t := by
  have hk : ∀ {u : State} {o}, KeptBy o u → o = .next t → Keeps u t := fun hu ho => by
    rw [ho] at hu
    exact hu
  unfold step at h
  split at h
  · exact (pending_keeps s _).trans (hk (exec_keeps _) h)
  · unfold idle at h
    split at h
    · exact hk (exec_keeps _) h
    · cases h
      exact s.serveChoice_keeps

end

/-! #### The statement -/

theorem kept_iff {s : State} : Kept s ↔
    RstKept s.rst ∧ LcuKept s.lcu ∧ RtuKept s.rtu ∧ RequestsOk s.sdu ∧ FnuKept s.fnu := by
  simp only [Kept, SlotsReservable, PlanOk, ListsOk, FlagsAgree, RstKept, LcuKept, RtuKept, FnuKept, planJunctions]
  tauto

theorem coherent_iff {s : State} : Coherent s ↔ LmuCoherent s.lmu ∧ RtuCoherent s.rtu ∧ SruCoherent s.sru := Iff.rfl

theorem Keeps.kept {s t : State} (h : Keeps s t) (hs : Kept s) : Kept t := by
  rw [kept_iff] at hs ⊢
  obtain ⟨hrst, hlcu, hrtu, hsdu, hfnu⟩ := hs
  exact ⟨h.rst hrst, h.lcu hlcu, h.rtu.kept hrtu, h.sdu hsdu, h.fnu hfnu⟩

theorem Keeps.coherent {s t : State} (h : Keeps s t) (hs : Kept s) (hc : Coherent s) : Coherent t := by
  rw [kept_iff] at hs
  rw [coherent_iff] at hc ⊢
  obtain ⟨-, -, hrtu, -, -⟩ := hs
  obtain ⟨clmu, crtu, csru⟩ := hc
  exact ⟨h.lmu clmu, h.rtu.coherent hrtu crtu, h.sru csru⟩

/-- Settles O59: every unit's own invariant is kept by each of its events, and a step is made of such events. -/
theorem listsSlotsAndFlagsKeepTheirBoundsAtEveryStep : Obligations.ListsSlotsAndFlagsKeepTheirBoundsAtEveryStep := by
  unfold Obligations.ListsSlotsAndFlagsKeepTheirBoundsAtEveryStep
  exact ⟨fun _ _ hs h => (step_keeps h).kept hs, fun _ _ hs hc h => (step_keeps h).coherent hs hc⟩

end Sys2Proof.Machine

namespace Sys2Proof.Machine

/-! ### A request at the engine, before it comes to its owner -/

theorem recordOfCode_recordCode (r : Record) : recordOfCode (recordCode r) = some r := by cases r <;> decide

theorem commandOfCode_commandCode (c : CommandName) : commandOfCode (commandCode c) = some c := by cases c <;> decide

/-- A code that is no command's names nothing in the catalogue. -/
theorem commandOfCode_eq_none {code : Byte} (h : ∀ c, commandCode c ≠ code) : commandOfCode code = none := by
  simp [commandOfCode, h]

section
variable {s : State} {p : Port} {r : Request}

/-- What the engine leaves of a request that it serves in a state. -/
def State.outcome (s : State) (p : Port) (r : Request) : State :=
  ((s.background p r).answerRequest p r).1.respond p ((s.background p r).answerRequest p r).2

theorem State.request_eq_outcome (h : Ready s p r) : s.request p r = s.outcome p r := State.request_ready h

theorem State.withRequest_waiting (h : (s.pif.get p).waiting = some r) : s.withRequest p r = s := by
  have hslot : { s.pif.get p with waiting := some r } = s.pif.get p := by rw [← h]
  exact congrArg (fun x => { s with pif := x }) ((congrArg (s.pif.set p) hslot).trans (s.pif.set_get p))

/-- A request that waits is served as one that is served at once. -/
theorem State.serve_eq_outcome (ht : teardownDone s) (hw : (s.pif.get p).waiting = some r)
    (hg : meetsBad s (storeReads s p r) = false) : s.serve p r = s.outcome p r := by
  rw [State.serve, State.completeTeardown_eq ht, State.engineWork_eq hg, State.outcome, State.background,
    State.withRequest_waiting hw]

/-- The response of a request that changes nothing else. -/
theorem State.background_respond (resp : Response) : (s.background p r).respond p resp = s.served p resp :=
  State.respond_served s p r resp

/-- R6 step 1. -/
theorem serveUnknown_respond (cond : Bool) :
    (((s.background p r).serveUnknown p cond).1.respond p ((s.background p r).serveUnknown p cond).2) =
      s.servedRefused p cond .unknownTarget :=
  Answer.finish_refuse s p r cond .desk .unknownTarget

/-- R6 steps 2 to 4: the first check that fails refuses the request. -/
theorem serveChecked_respond_refused {q : Record} {cond modeOk portOk : Bool} {owner : State → Answer} {why : Reason}
    (h : (if cond && s.rst.slots.get p != some q then Answer.refuse (s.background p r) .noReservation
      else if !modeOk then .refuse (s.background p r) .configLocked
      else if !portOk then .refuse (s.background p r) .notAuthorised
      else owner (s.background p r)) = .refuse (s.background p r) why) :
    (((s.background p r).serveChecked p cond q modeOk portOk owner).1.respond p
      ((s.background p r).serveChecked p cond q modeOk portOk owner).2) = s.servedRefused p cond why := by
  unfold State.serveChecked
  rw [background_slots, h]
  exact Answer.finish_refuse s p r cond q why

theorem reserved_of_admitted {q : Record} {cond : Bool} (h : Admitted s p cond q) :
    (cond && s.rst.slots.get p != some q) = false := by
  cases cond with
  | false => rfl
  | true => simp [h rfl]

end

/-! ### The checks in their order (R6, R11) -/

section
variable {s : State} {p : Port} {cond : Bool}

theorem outcome_write_unknown {target index : Byte} {contents : List Byte} (h : recordOfCode target = none) :
    s.outcome p (.write cond target index contents) = s.servedRefused p cond .unknownTarget := by
  unfold State.outcome State.answerRequest
  dsimp only
  rw [h]
  exact serveUnknown_respond cond

theorem outcome_command_unknown {code : Byte} {args : List Byte} (h : commandOfCode code = none) :
    s.outcome p (.command cond code args) = s.servedRefused p cond .unknownTarget := by
  unfold State.outcome State.answerRequest
  dsimp only
  rw [h]
  exact serveUnknown_respond cond

/-- The check of a WRITE that refuses it. -/
theorem outcome_write_refused {target index : Byte} {contents : List Byte} {r : Record} {why : Reason}
    (hr : recordOfCode target = some r)
    (h : ∀ x : State, ∀ owner : Answer, (if cond && s.rst.slots.get p != some r then Answer.refuse x .noReservation
      else if !modeAdmits s.rst.mode r then .refuse x .configLocked
      else if !mayWrite s.dau.state p r then .refuse x .notAuthorised else owner) = .refuse x why) :
    s.outcome p (.write cond target index contents) = s.servedRefused p cond why := by
  unfold State.outcome State.answerRequest
  dsimp only
  rw [hr]
  exact serveChecked_respond_refused (h _ _)

/-- The check of a command that refuses it. -/
theorem outcome_command_refused {c : CommandName} {args : List Byte} {why : Reason}
    (h : ∀ x : State, ∀ owner : Answer,
      (if cond && s.rst.slots.get p != some (commandTarget c) then Answer.refuse x .noReservation
      else if !modeAdmits s.rst.mode (commandTarget c) then .refuse x .configLocked
      else if !mayCommand s.dau.state p c then .refuse x .notAuthorised else owner) = .refuse x why) :
    s.outcome p (.command cond (commandCode c) args) = s.servedRefused p cond why := by
  unfold State.outcome State.answerRequest
  dsimp only
  rw [commandOfCode_commandCode]
  exact serveChecked_respond_refused (h _ _)

end

/-- The row of a command is the request of its code. -/
theorem exec_commandRow (p : Port) (cond : Bool) (args : List Byte) (c : CommandName) (s : State) :
    exec (commandRow p cond args c) s = .next (s.request p (.command cond (commandCode c) args)) := by
  cases c <;> rfl

theorem exec_recordWrite (p : Port) (cond : Bool) (target index : Byte) (contents : List Byte) (s : State) :
    exec (.recordWrite p cond target index contents) s = .next (s.request p (.write cond target index contents)) := rfl

theorem isActiveDesk_iff {desk : DeskState} {p : Port} :
    isActiveDesk desk p = true ↔ ∃ d, deskHolder desk = some d ∧ p = deskPort d := by
  cases p with
  | supervisor =>
    simp only [isActiveDesk, portDesk, Bool.false_eq_true, false_iff, not_exists, not_and]
    intro d _
    cases d <;> decide
  | deskA =>
    constructor
    · exact fun h => ⟨.a, by simpa [isActiveDesk, portDesk] using h, rfl⟩
    · rintro ⟨d, hd, hp⟩
      cases d with
      | a => simp [isActiveDesk, portDesk, hd]
      | b => cases hp
  | deskB =>
    constructor
    · exact fun h => ⟨.b, by simpa [isActiveDesk, portDesk] using h, rfl⟩
    · rintro ⟨d, hd, hp⟩
      cases d with
      | a => cases hp
      | b => simp [isActiveDesk, portDesk, hd]

/-- Settles O13. -/
theorem checksAreMadeInOrderByTheAuthorityTable : Obligations.ChecksAreMadeInOrderByTheAuthorityTable := by
  unfold Obligations.ChecksAreMadeInOrderByTheAuthorityTable
  refine ⟨fun p cond target index contents s hready => ?_, fun c p cond args s hready => ?_,
    fun p cond code args s ht hw hg hcode => ?_, fun desk p m => ?_⟩
  · simp only [exec_recordWrite, State.request_eq_outcome hready]
    refine ⟨fun h => by rw [outcome_write_unknown h], fun r hr => ⟨fun hc hslot => ?_, fun ha hm => ?_,
      fun ha hm hp => ?_⟩⟩
    · exact congrArg _ (outcome_write_refused hr fun x owner => by simp [hc, hslot])
    · exact congrArg _ (outcome_write_refused hr fun x owner => by simp [reserved_of_admitted ha, hm])
    · exact congrArg _ (outcome_write_refused hr fun x owner => by simp [reserved_of_admitted ha, hm, hp])
  · simp only [exec_commandRow, State.request_eq_outcome hready]
    refine ⟨fun hc hslot => ?_, fun ha hm => ?_, fun ha hm hp => ?_⟩
    · exact congrArg _ (outcome_command_refused fun x owner => by simp [hc, hslot])
    · exact congrArg _ (outcome_command_refused fun x owner => by simp [reserved_of_admitted ha, hm])
    · exact congrArg _ (outcome_command_refused fun x owner => by simp [reserved_of_admitted ha, hm, hp])
  · rw [State.serve_eq_outcome ht hw hg, outcome_command_unknown (commandOfCode_eq_none hcode)]
  · refine ⟨fun d => ?_, ?_, ?_, ?_, ?_, ?_, ?_, ?_, ?_, ?_, ?_⟩
    · cases d <;> simp [mayWrite, demandRecord, deskPort]
    · simp [mayWrite]
    · simp [mayWrite]
    · cases m <;> decide
    · cases m <;> decide
    · cases m <;> decide
    · cases p <;> simp [mayCommand]
    · simp [mayCommand]
    · simp [mayCommand, isActiveDesk_iff]
    · simp [mayCommand, isActiveDesk_iff]
    · simp [mayCommand]

end Sys2Proof.Machine

namespace Sys2Proof.Machine

/-! ### The arbiter (R16, R17) -/

theorem arbiterChoice_promoted {s : State} (hw : isWaiting s .supervisor = true)
    (hp : s.settings.promotion ≤ s.rst.passOver) : arbiterChoice s = some .supervisor := by
  simp [arbiterChoice, hw, hp]

/-- R16: without a promotion the first of the desk state's order that waits is chosen. -/
theorem arbiterChoice_ordered {s : State}
    (h : isWaiting s .supervisor = false ∨ s.rst.passOver < s.settings.promotion) :
    arbiterChoice s = (arbiterOrder s.dau.state).find? (isWaiting s) := by
  have hno : (isWaiting s .supervisor && decide (s.settings.promotion ≤ s.rst.passOver)) = false := by
    rcases h with h | h
    · simp [h]
    · simp [Nat.not_le.mpr h]
  simp [arbiterChoice, hno]

/-- The first of three ports that waits. -/
theorem find_waiting (s : State) (x y z : Port) : [x, y, z].find? (isWaiting s) =
    if isWaiting s x then some x else if isWaiting s y then some y else if isWaiting s z then some z else none := by
  cases hx : isWaiting s x <;> cases hy : isWaiting s y <;> cases hz : isWaiting s z <;> simp [List.find?, hx, hy, hz]

theorem nextPassOver_eq (s : State) (p : Port) : nextPassOver s p =
    if p = .supervisor then 0 else if isWaiting s .supervisor then min 4 (s.rst.passOver + 1) else s.rst.passOver := by
  cases p <;> rfl

theorem Rst.arrives_eq (x : Rst) (p : Port) : x.arrives p =
    if p = .supervisor ∧ (x.served = some .deskA ∨ x.served = some .deskB)
    then { x with passOver := min 4 (x.passOver + 1), served := none } else x := by
  obtain ⟨slots, passOver, mode, vehicle, served⟩ := x
  rcases p with _ | _ | _ <;> rcases served with _ | _ | _ | _ <;> rfl

/-- R186, R187: the record store as a frame becomes the waiting request. -/
theorem execPortTransaction_rst {s : State} {p : Port} {inService : Bool} {frame : List Byte} {r : Request}
    (hw : (s.pif.get p).waiting = none) (hf : parseFrame frame = some r) :
    ∃ t, exec (.portTransaction p ⟨frame, inService⟩) s = .next t ∧
      t.rst = if inService = true then s.rst.arrives p else s.rst := by
  refine ⟨_, rfl, ?_⟩
  have htaken : frameTaken s p frame = true := by simp [frameTaken, hw, hf]
  cases inService with
  | false => rfl
  | true => simp [htaken, State.atPort]

/-- R2: a NULL changes nothing but its port's slots and the count. -/
theorem exec_nullRequest_ready {p : Port} {s : State} (h : Ready s p .null) :
    exec (.nullRequest p) s = .next (s.served p ⟨.done, .none, []⟩) :=
  congrArg Host.Outcome.next ((State.request_eq_outcome h).trans (State.background_respond _))

/-- Log 3: a request that joins an EMPTY slot and is not chosen waits there. -/
theorem State.request_waits {s : State} {p : Port} {r : Request} (hw : (s.pif.get p).waiting = none)
    (hc : arbiterChoice (s.withRequest p r) ≠ some p) : s.request p r = s.withRequest p r := by
  unfold State.request
  rw [hw]
  exact if_neg fun h => hc h.2

/-- Settles O6. -/
theorem arbiterFollowsItsOrderAndNullIsDone : Obligations.ArbiterFollowsItsOrderAndNullIsDone := by
  unfold Obligations.ArbiterFollowsItsOrderAndNullIsDone
  refine ⟨fun s => ⟨arbiterChoice_promoted, fun h => ?_, fun p r _ resp => nextPassOver_eq s p, fun p r _ resp => rfl,
    fun p inService frame hw r hf => ?_⟩, fun p s => ⟨exec_nullRequest_ready, fun hw hc => ?_⟩⟩
  · rw [arbiterChoice_ordered h]
    refine ⟨fun hd => ?_, fun hd => ?_, fun hd => ?_⟩ <;> simp only [arbiterOrder, hd, find_waiting]
  · obtain ⟨t, ht, hrst⟩ := execPortTransaction_rst (inService := inService) hw hf
    refine ⟨t, ht, ?_⟩
    rw [hrst, Rst.arrives_eq]
    cases inService <;> simp
  · exact congrArg Host.Outcome.next (State.request_waits hw hc)

/-! ### Reads (R4, R6, R10, R19, R181) -/

section
variable {s : State} {p : Port} {q : Request}

@[simp] theorem readView_background (o : Port) (r : Record) (index : Byte) :
    readView (s.background p q) o r index = readView s o r index := by
  unfold readView
  cases r <;> rfl

@[simp] theorem readWords_background (o : Port) (r : Record) (index : Byte) :
    readWords (s.background p q) o r index = readWords s o r index := rfl

/-- What a response leaves where the state came from the background with other slots of reservation. -/
theorem State.respond_of_background {x : State} {slots : PerPort (Option Record)}
    (hpif : x.pif = (s.background p q).pif) (hrst : x.rst = { (s.background p q).rst with slots := slots })
    (resp : Response) : x.respond p resp =
      { x with pif := (s.served p resp).pif, rst := { (s.served p resp).rst with slots := slots } } := by
  have hslots : x.pif.set p { waiting := none, response := resp, returned := (x.pif.get p).returned } =
      s.pif.set p { waiting := none, response := resp, returned := (s.pif.get p).returned } := by
    rw [hpif, background_pif_set, background_returned]
  unfold State.respond State.atPort
  rw [hslots, hrst]
  simp only [State.served]
  rw [← background_passOver s p q]
  obtain ⟨⟩ := x
  cases hrst
  rfl

/-- A read that marks nothing and draws nothing leaves the state, but for a whole one of SOUND (log 5). -/
theorem State.afterRead_eq {x : State} {r : Record} (h : r ≠ .notices) (o : Port) (index : Byte) :
    x.afterRead o r index = { x with draws := if r = .sound ∧ index = 0xFF then x.draws + 5 else x.draws } := by
  cases r with
  | notices => exact absurd rfl h
  | sound => by_cases hi : index = 255#8 <;> simp [State.afterRead, isWhole, hi]
  | _ => rfl

variable {reserve : Bool} {r : Record} {index : Byte}

/-- A read that is refused leaves what every service leaves. -/
theorem serveRead_respond_refused {target : Byte} {why : Reason}
    (h : (s.background p q).serveRead p reserve target index = (s.background p q, refusal why)) :
    (((s.background p q).serveRead p reserve target index).1.respond p
      ((s.background p q).serveRead p reserve target index).2) = s.served p ⟨.refused, why, []⟩ := by
  rw [h]
  exact State.background_respond _

theorem serveRead_unknown {target : Byte} (h : recordOfCode target = none) :
    (s.background p q).serveRead p reserve target index = (s.background p q, refusal .unknownTarget) := by
  simp only [State.serveRead, h]

/-- R10: before the index is looked at (log 15). -/
theorem serveRead_not_reservable (h : reservable r = false) :
    (s.background p q).serveRead p true (recordCode r) index = (s.background p q, refusal .wrongState) := by
  simp only [State.serveRead, recordOfCode_recordCode, h]
  rfl

theorem serveRead_out_of_range (hr : reserve = true → reservable r = true) (hv : readView s p r index = none) :
    (s.background p q).serveRead p reserve (recordCode r) index = (s.background p q, refusal .outOfRange) := by
  have hres : (reserve && !reservable r) = false := by cases reserve <;> simp_all
  simp [State.serveRead, recordOfCode_recordCode, hres, hv]

/-- R19: the refusal of a read raises STORE_PARITY once. -/
theorem serveRead_respond_store_error {payload : List Byte} (hr : reserve = true → reservable r = true)
    (hv : readView s p r index = some payload) (hb : meetsBad s (readWords s p r index) = true) :
    (((s.background p q).serveRead p reserve (recordCode r) index).1.respond p
      ((s.background p q).serveRead p reserve (recordCode r) index).2) =
      { s.served p ⟨.refused, .storeError, []⟩ with
        handed := s.handed ++ [.severeFault .storeParity .rst (.record r) false none] } := by
  have hres : (reserve && !reservable r) = false := by cases reserve <;> simp_all
  simp only [State.serveRead, recordOfCode_recordCode, hres, readView_background, hv, readWords_background,
    meetsBad_background, hb, if_true, Bool.false_eq_true, if_false]
  exact State.respond_of_background (q := q) (slots := s.rst.slots) (by rfl) (by rfl) _

/-- R4, R10: a read that is answered. -/
theorem serveRead_good {payload : List Byte} (hr : reserve = true → reservable r = true)
    (hv : readView s p r index = some payload) (hb : meetsBad s (readWords s p r index) = false) :
    (s.background p q).serveRead p reserve (recordCode r) index =
      (if reserve then ((s.background p q).afterRead p r index).setSlot p (some r)
        else (s.background p q).afterRead p r index, ⟨.done, .none, payload⟩) := by
  have hres : (reserve && !reservable r) = false := by cases reserve <;> simp_all
  simp [State.serveRead, recordOfCode_recordCode, hres, hv, hb]

end

section
variable {s : State} {p : Port} {r : Record} {index : Byte} {payload : List Byte}

theorem outcome_readReserve_good (hr : reservable r = true) (hv : readView s p r index = some payload)
    (hb : meetsBad s (readWords s p r index) = false) : s.outcome p (.readReserve (recordCode r) index) =
      { s.served p ⟨.done, .none, payload⟩ with
        rst := { (s.served p ⟨.done, .none, payload⟩).rst with slots := s.rst.slots.set p (some r) }
        draws := if r = .sound ∧ index = 0xFF then s.draws + 5 else s.draws } := by
  have hne : r ≠ .notices := by rintro rfl; cases hr
  unfold State.outcome State.answerRequest
  dsimp only
  rw [serveRead_good (fun _ => hr) hv hb, if_pos rfl, State.afterRead_eq hne]
  exact State.respond_of_background (q := .readReserve (recordCode r) index) (by rfl) (by rfl) _

theorem outcome_read_good (hne : r ≠ .notices) (hv : readView s p r index = some payload)
    (hb : meetsBad s (readWords s p r index) = false) : s.outcome p (.read (recordCode r) index) =
      { s.served p ⟨.done, .none, payload⟩ with
        draws := if r = .sound ∧ index = 0xFF then s.draws + 5 else s.draws } := by
  unfold State.outcome State.answerRequest
  dsimp only
  rw [serveRead_good (fun h => by cases h) hv hb, if_neg (by simp), State.afterRead_eq hne]
  exact State.respond_of_background (q := .read (recordCode r) index) (slots := s.rst.slots) (by rfl) (by rfl) _

/-- A change of a port's notice sets rewrites words of these sets alone. -/
theorem Fnu.portNoticeWords_of_rewrote {f : Fnu} {g : NoticeSets → NoticeSets} {w : StoreWord}
    (h : f.rewrote (f.atPort p g) w = true) : portNoticeWords p w = true := by
  have other : ∀ o, o ≠ p → (f.atPort p g).notices.get o = f.notices.get o := fun o ho =>
    PerPort.get_set_other _ ho _
  unfold Fnu.rewrote at h
  split at h
  case h_13 | h_14 | h_15 =>
    rename_i o
    by_cases ho : o = p
    · simp [portNoticeWords, ho]
    · simp [other o ho] at h
  all_goals simp [Fnu.atPort] at h

/-- With its words good a change of a port's notice sets repairs none. -/
theorem State.putFnu_atPort {x : State} {g : NoticeSets → NoticeSets} (h : meetsBad x (portNoticeWords p) = false) :
    x.putFnu (x.fnu.atPort p g) [] = { x with fnu := x.fnu.atPort p g } := by
  have hbad : (x.bad.filter fun w => !x.fnu.rewrote (x.fnu.atPort p g) w) = x.bad := by
    rw [List.filter_eq_self]
    intro w hw
    have hgood : portNoticeWords p w = false := by
      simp only [meetsBad, List.any_eq_false] at h
      simpa using h w hw
    cases hr : x.fnu.rewrote (x.fnu.atPort p g) w with
    | false => rfl
    | true => simp [Fnu.portNoticeWords_of_rewrote hr] at hgood
  unfold State.putFnu
  rw [hbad, List.append_nil]

/-- R181: a port that reads its notices has seen those that are pending. -/
theorem outcome_read_notices (hb : meetsBad s (readWords s p .notices 0xFF) = false) :
    s.outcome p (.read (recordCode .notices) 0xFF) =
      { s.served p ⟨.done, .none, noticesView (s.fnu.notices.get p)⟩ with
        fnu := s.fnu.atPort p markSeen } := by
  have hwords : ∀ w, portNoticeWords p w = true → readWords s p .notices 0xFF w = true := by
    intro w hw
    cases w <;> simp_all [portNoticeWords, readWords]
  have hb' : meetsBad s (portNoticeWords p) = false := by
    simp only [meetsBad, List.any_eq_false] at hb ⊢
    exact fun w hw h => hb w hw (hwords w h)
  unfold State.outcome State.answerRequest
  dsimp only
  rw [serveRead_good (payload := noticesView (s.fnu.notices.get p)) (fun h => by cases h) rfl hb, if_neg (by simp)]
  have hmark : (s.background p (.read (recordCode .notices) 0xFF)).afterRead p .notices 0xFF = _ :=
    State.putFnu_atPort hb'
  rw [hmark]
  exact State.respond_of_background (q := .read (recordCode .notices) 0xFF) (slots := s.rst.slots)
    (by rfl) (by rfl) _

theorem outcome_read_store_error (hv : readView s p r index = some payload)
    (hb : meetsBad s (readWords s p r index) = true) : s.outcome p (.read (recordCode r) index) =
      { s.served p ⟨.refused, .storeError, []⟩ with
        handed := s.handed ++ [.severeFault .storeParity .rst (.record r) false none] } :=
  serveRead_respond_store_error (fun h => by cases h) hv hb

theorem outcome_read_out_of_range (hv : readView s p r index = none) :
    s.outcome p (.read (recordCode r) index) = s.served p ⟨.refused, .outOfRange, []⟩ :=
  serveRead_respond_refused (serveRead_out_of_range (fun h => by cases h) hv)

end

/-- R191: no entry of NOTICES is read alone. -/
theorem readView_notices {s : State} {p : Port} {index : Byte} (h : index ≠ 0xFF) :
    readView s p .notices index = none := if_neg h

theorem readView_whole (s : State) (p : Port) (r : Record) : readView s p r 0xFF = some (wholeView s p r) := if_pos rfl

theorem exists_of_meetsBad {s : State} {reads : StoreWord → Bool} (h : meetsBad s reads = true) :
    ∃ w ∈ s.bad, reads w = true := List.any_eq_true.mp h

/-- Settles O7. -/
theorem readsReserveRefuseBadWordsAndMarkNotices : Obligations.ReadsReserveRefuseBadWordsAndMarkNotices := by
  unfold Obligations.ReadsReserveRefuseBadWordsAndMarkNotices
  have next : ∀ {x y : State}, x = y → (Host.Outcome.next x : Host.Outcome State Fault Refusal) = .next y :=
    fun h => congrArg _ h
  refine ⟨fun p index s => ⟨fun r payload h hr hv hb => ?_, fun r h hr => ?_, fun r h hr hv => ?_,
    fun target h ht => ?_⟩, fun p r index payload s h hr hv hb => ⟨exists_of_meetsBad hb, ?_⟩,
    fun p index s h => ⟨fun hi hb => ?_, fun hi hb => ?_, fun hi => ?_⟩, fun p index s ht =>
    ⟨fun r hne hw hg => ⟨fun payload hv => ⟨fun hb => ?_, fun hb => ?_⟩, fun hv => ?_⟩, fun target hu hw hg => ?_⟩,
    fun p s => ?_⟩
  · exact next ((State.request_eq_outcome h).trans (outcome_readReserve_good hr hv hb))
  · exact next ((State.request_eq_outcome h).trans (serveRead_respond_refused (serveRead_not_reservable hr)))
  · exact next ((State.request_eq_outcome h).trans
      (serveRead_respond_refused (serveRead_out_of_range (fun _ => hr) hv)))
  · exact next ((State.request_eq_outcome h).trans (serveRead_respond_refused (serveRead_unknown ht)))
  · exact next ((State.request_eq_outcome h).trans (serveRead_respond_store_error (fun _ => hr) hv hb))
  · subst hi
    exact next ((State.request_eq_outcome h).trans (outcome_read_notices hb))
  · subst hi
    exact next ((State.request_eq_outcome h).trans (outcome_read_store_error (readView_whole s p .notices) hb))
  · exact next ((State.request_eq_outcome h).trans (outcome_read_out_of_range (readView_notices hi)))
  · exact (State.serve_eq_outcome ht hw hg).trans (outcome_read_good hne hv hb)
  · exact (State.serve_eq_outcome ht hw hg).trans (outcome_read_store_error hv hb)
  · exact (State.serve_eq_outcome ht hw hg).trans (outcome_read_out_of_range hv)
  · exact (State.serve_eq_outcome ht hw hg).trans (serveRead_respond_refused (serveRead_unknown hu))
  · refine ⟨rfl, rfl, rfl, ?_, ?_, rfl, rfl, fun age q => ?_, fun snd => rfl, rfl, rfl⟩
    · refine (readView_whole s p .plan).trans (congrArg some ?_)
      show planHeaderView s ++ putList planEntryView s.rtu.plan ++ trackStatusView s = _
      unfold trackStatusView
      simp only [← List.append_assoc]
      rfl
    · have hlatch : latchSet s.sru = decide (s.sru.list ≠ []) := by
        cases h : s.sru.list <;> simp [latchSet, h]
      refine (readView_whole s p .stops).trans ?_
      simp only [wholeView, hlatch]
    · have hplay : isPlaying s.sdu q = decide ((player s.sdu q.sounder).playing = some q.source) := by
        rw [Bool.eq_iff_iff]
        exact beq_iff_eq.trans decide_eq_true_iff.symm
      simp only [requestView, hplay]

end Sys2Proof.Machine

namespace Sys2Proof.Machine

/-! ### What a taken WRITE or command leaves -/

section
variable {s x : State} {p : Port} {q : Request} {cond changed : Bool} {r : Record} {payload : List Byte}

/-- R3, R11, R12: a request that its owner takes, where the owner has left the ports' slots of the request, and of
the record store has changed at most the vehicle numbers and the reservation slots. -/
theorem Answer.finish_done_eq {slots : PerPort (Option Record)} {v : Vehicle}
    (hpif : x.pif = (s.background p q).pif)
    (hrst : x.rst = { (s.background p q).rst with slots := slots, vehicle := v }) :
    (⟨x, .done payload, changed⟩ : Answer).finish p cond r = { x with
      pif := (s.served p ⟨.done, .none, payload⟩).pif
      rst := { (s.served p ⟨.done, .none, payload⟩).rst with
        slots := slotsAfter p cond changed r slots, vehicle := v } } := by
  rw [Answer.finish_done, hpif, hrst, background_pif_set, background_returned]
  simp only [background_passOver]
  rfl

/-- The same where the owner has left the record store as it was. -/
theorem Answer.finish_done_kept (hpif : x.pif = (s.background p q).pif) (hrst : x.rst = (s.background p q).rst) :
    (⟨x, .done [], changed⟩ : Answer).finish p cond r = { x with
      pif := (s.servedDone p cond changed r).pif, rst := (s.servedDone p cond changed r).rst } := by
  rw [Answer.finish_done_eq (s := s) (q := q) (slots := s.rst.slots) (v := s.rst.vehicle) hpif hrst]
  rfl

end

/-! ### The contents of a WRITE (R7, R191) -/

theorem isWhole_iff {index : Byte} : isWhole index = true ↔ index = 0xFF := by simp [isWhole]

section
variable {α : Type} {get : Reader α} {put : α → List Byte}

theorem readWhole_eq_some {ok : α → Prop} (h : Exact get put ok) {index : Byte} {contents : List Byte} {x : α} :
    readWhole get index contents = some x ↔ index = 0xFF ∧ ok x ∧ Carries contents (put x) := by
  simp only [readWhole, Option.ite_none_right_eq_some, isWhole_iff, h.readAll_iff]

/-- R7: the table that the reader makes of a WRITE is the one that it asks for. -/
theorem writeTable_eq_some {ok : α → Bool} (h : Exact get put fun x => ok x = true) {n : Nat} (hn : n ≤ 255)
    {old new : Table α n} {index : Byte} {contents : List Byte} :
    writeTable get old index contents = some new ↔ TableWrite put ok old new index contents := by
  unfold writeTable TableWrite
  split_ifs with hw hi
  · rw [isWhole_iff] at hw
    have hno : ∀ i : Fin n, index ≠ BitVec.ofNat 8 i.val := by
      rintro i rfl
      have := congrArg BitVec.toNat hw
      simp at this
      omega
    have hall : (∀ x ∈ new.toList, ok x = true) ↔ ∀ i : Fin n, ok new[i] = true := by
      simp only [List.mem_iff_getElem, Vector.length_toList, Vector.getElem_toList]
      exact ⟨fun h i => h _ ⟨i, i.isLt, rfl⟩, by rintro h _ ⟨i, hi, rfl⟩; exact h ⟨i, hi⟩⟩
    rw [(getTable_exact h).readAll_iff, hall]
    constructor
    · exact fun ⟨ho, hc⟩ => .inr ⟨hw, hc, ho⟩
    · rintro (⟨i, e, he, -⟩ | ⟨-, hc, ho⟩)
      · exact absurd he (hno i)
      · exact ⟨ho, hc⟩
  · simp only [Option.map_eq_some_iff, h.readAll_iff]
    constructor
    · rintro ⟨e, ⟨ho, hc⟩, rfl⟩
      exact .inl ⟨⟨index.toNat, hi⟩, e, by simp, hc, ho, rfl⟩
    · rintro (⟨i, e, rfl, hc, ho, rfl⟩ | ⟨rfl, -⟩)
      · have hmod : (BitVec.ofNat 8 i.val).toNat = i.val := by
          have := i.isLt
          simp
          omega
        exact ⟨e, ⟨ho, hc⟩, by simp only [hmod]⟩
      · exact absurd rfl (isWhole_iff.not.mp (by simpa using hw))
  · simp only [false_iff, not_or, not_exists, not_and]
    constructor
    · rintro i e rfl
      have := i.isLt
      simp at hi
      omega
    · rintro rfl
      exact absurd rfl (isWhole_iff.not.mp (by simpa using hw))

end

/-! ### The words a WRITE stores -/

theorem parityFaults_rewrite {s : State} {f reads : StoreWord → Bool} (h : ∀ w, reads w = true → f w = false)
    (u : UnitName) (effort : Option Int) : parityFaults (s.rewrite f) u reads effort = parityFaults s u reads effort := by
  have hfilter : (s.bad.filter fun w => !f w).filter reads = s.bad.filter reads := by
    rw [List.filter_filter]
    refine List.filter_congr fun w _ => ?_
    cases hr : reads w with
    | false => rfl
    | true => simp [h w hr]
  simp only [parityFaults, State.rewrite, hfilter]

theorem parityFaults_eq_nil {s : State} {reads : StoreWord → Bool} (h : ∀ w, reads w = false) (u : UnitName)
    (effort : Option Int) : parityFaults s u reads effort = [] := by
  have : reads = fun _ => false := funext h
  simp [parityFaults, this]

/-- R159: the patterns are no part of what SOUND holds. -/
theorem Sdu.rewrote_patterns (u : Sdu) (t : Table Pattern 16) (w : StoreWord) :
    u.rewrote { u with patterns := t } w = false := by
  unfold Sdu.rewrote
  split
  · unfold requestDiffers
    dsimp only
    split
    · rename_i h1 h2
      cases h1.symm.trans h2
      split <;> simp
    · rfl
    · simp_all
    · simp_all
  · simp
  · simp
  · rfl

theorem State.putSdu_patterns (s : State) (t : Table Pattern 16) :
    s.putSdu { s.sdu with patterns := t } [] = { s with sdu := { s.sdu with patterns := t } } := by
  rw [State.putSdu_nil]
  simp [Sdu.rewrote_patterns]

/-! ### The owners' checks of a WRITE -/

theorem playsInNoTime_iff {p : Pattern} :
    playsInNoTime p = true ↔ p.steps ≠ [] ∧ ∀ x ∈ p.steps, x.on = 0 ∧ x.off = 0 := by
  simp [playsInNoTime]

/-- R159: the check of a PATTERNS write. -/
theorem any_playsInNoTime {t : Table Pattern 16} : t.toList.any playsInNoTime = true ↔
    ∃ i : Fin 16, t[i].steps ≠ [] ∧ ∀ x ∈ t[i].steps, x.on = 0 ∧ x.off = 0 := by
  simp only [List.any_eq_true, List.mem_iff_getElem, Vector.length_toList, Vector.getElem_toList, playsInNoTime_iff]
  constructor
  · rintro ⟨_, ⟨i, hi, rfl⟩, h⟩
    exact ⟨⟨i, hi⟩, h⟩
  · rintro ⟨i, h⟩
    exact ⟨_, ⟨i, i.isLt, rfl⟩, h⟩

theorem setEntry_noDesk (c : CeilingSource) (new : CeilingEntry) (t : Tdu) :
    t.setEntry .noDesk c new = { t with ceilings := t.ceilings.set (ceilingIndex c) new } := by
  simp [Tdu.setEntry, leverPositive, deskHolder]

theorem ceilingWords_not_settings {desk : DeskState} {index : Byte} {w : StoreWord}
    (h : ceilingWords desk w = true) : writtenWords .settings index w = false := by
  unfold ceilingWords at h
  split at h <;> simp_all [writtenWords]

/-- R20: an event of the traction unit that reads no words of its own reads those of the ceilings where it changes
an entry. -/
theorem parityFaults_tduReads (s : State) (t : Tdu) : parityFaults s .tdu (tduReads s (fun _ => false) t) none =
    if t.ceilings = s.tdu.ceilings then [] else parityFaults s .tdu (ceilingWords s.dau.state) none := by
  split
  case isTrue h => exact parityFaults_eq_nil (fun w => by simp [tduReads, h]) _ _
  case isFalse h =>
    have hreads : tduReads s (fun _ => false) t = ceilingWords s.dau.state := by
      funext w
      simp [tduReads, h]
    rw [hreads]

theorem table_set_eq_self {α : Type} {n : Nat} {t : Table α n} {i : Nat} (hi : i < n) {e : α} :
    t.set i e = t ↔ t[i] = e := by
  constructor
  · intro h
    have := congrArg (fun x => x[i]) h
    simpa using this.symm
  · rintro rfl
    simp

section
variable {s : State} {p : Port} {cond : Bool} {index : Byte} {contents : List Byte}

theorem request_vehicle {v : Vehicle} (hok : v.ok = true) (hc : Carries contents (putVehicle v))
    (h : WriteReaches s p cond .vehicle 0xFF contents) :
    s.request p (.write cond (recordCode .vehicle) 0xFF contents) =
      { s.servedDone p cond (s.rst.vehicle != v) .vehicle with
        rst := { (s.servedDone p cond (s.rst.vehicle != v) .vehicle).rst with vehicle := v }
        bad := s.bad.filter fun w => !writtenWords .vehicle 0xFF w } := by
  have hread : readWhole getVehicle 0xFF contents = some v :=
    (readWhole_eq_some getVehicle_exact).mpr ⟨rfl, hok, hc⟩
  rw [State.request_write h]
  simp only [writeAnswer, vehicleWriteAnswer, hread]
  refine (Answer.finish_done_eq (q := .write cond (recordCode .vehicle) 0xFF contents) (slots := s.rst.slots)
    (v := v) (by rfl) (by rfl)).trans ?_
  rfl

theorem request_lines {t : Table LineEntry 32} (ht : TableWrite putLine LineEntry.ok s.lmu.written.lines t index contents)
    (h : WriteReaches s p cond .lines index contents) (hno : ¬ TwoTachs t) :
    s.request p (.write cond (recordCode .lines) index contents) =
      { s.servedDone p cond (s.lmu.written.lines != t) .lines with
        lmu := { s.lmu with written := { s.lmu.written with lines := t } }
        bad := s.bad.filter fun w => !writtenWords .lines index w
        handed := s.handed ++ parityFaults s .lmu (otherEntries .lines index) none } := by
  rw [← writeTable_eq_some getLine_exact (by decide)] at ht
  rw [← twoTachs_iff, Bool.not_eq_true] at hno
  rw [State.request_write h]
  simp only [writeAnswer, linesWriteAnswer, background_lmu, ht, hno, Bool.false_eq_true, if_false]
  refine (Answer.finish_done_kept (q := .write cond (recordCode .lines) index contents) (by rfl) (by rfl)).trans ?_
  rfl

theorem request_cells {t : Table CellEntry 16} (ht : TableWrite putCell CellEntry.ok s.lmu.written.cells t index contents)
    (h : WriteReaches s p cond .cells index contents) (hno : ¬ Cyclic t) :
    s.request p (.write cond (recordCode .cells) index contents) =
      { s.servedDone p cond (s.lmu.written.cells != t) .cells with
        lmu := { s.lmu with written := { s.lmu.written with cells := t } }
        bad := s.bad.filter fun w => !writtenWords .cells index w
        handed := s.handed ++ parityFaults s .lmu (otherEntries .cells index) none } := by
  rw [← writeTable_eq_some getCell_exact (by decide)] at ht
  rw [← hasCycle_iff_cyclic, Bool.not_eq_true] at hno
  rw [State.request_write h]
  simp only [writeAnswer, cellsWriteAnswer, background_lmu, ht, hno, Bool.false_eq_true, if_false]
  refine (Answer.finish_done_kept (q := .write cond (recordCode .cells) index contents) (by rfl) (by rfl)).trans ?_
  rfl

/-- R191: every source of a permit is in its range. -/
theorem getPermit_ok : Exact getPermit putPermit fun e => (fun _ => true) e = true :=
  getPermit_exact.congr (fun _ => rfl) (fun _ => by simp)

theorem request_permits {t : Table PermitEntry 9}
    (ht : TableWrite putPermit (fun _ => true) s.lmu.written.permits t index contents)
    (h : WriteReaches s p cond .permits index contents) :
    s.request p (.write cond (recordCode .permits) index contents) =
      { s.servedDone p cond (s.lmu.written.permits != t) .permits with
        lmu := { s.lmu with written := { s.lmu.written with permits := t } }
        bad := s.bad.filter fun w => !writtenWords .permits index w } := by
  rw [← writeTable_eq_some getPermit_ok (by decide)] at ht
  rw [State.request_write h]
  simp only [writeAnswer, permitsWriteAnswer, background_lmu, ht]
  refine (Answer.finish_done_kept (q := .write cond (recordCode .permits) index contents) (by rfl) (by rfl)).trans ?_
  simp [State.putLmu, State.rewrite, State.servedDone, State.served]

theorem request_locations {t : Table LocationEntry 16}
    (ht : TableWrite putLocation LocationEntry.ok s.lcu.table t index contents)
    (h : WriteReaches s p cond .locations index contents) :
    s.request p (.write cond (recordCode .locations) index contents) =
      { s.servedDone p cond (s.lcu.table != t) .locations with
        lcu := { s.lcu with table := t }
        bad := s.bad.filter fun w => !writtenWords .locations index w } := by
  rw [← writeTable_eq_some getLocation_exact (by decide)] at ht
  rw [State.request_write h]
  simp only [writeAnswer, locationsWriteAnswer, background_lcu, ht]
  refine (Answer.finish_done_kept (q := .write cond (recordCode .locations) index contents) (by rfl) (by rfl)).trans ?_
  simp [State.putLcu, State.rewrite, State.servedDone, State.served]

theorem request_patterns {t : Table Pattern 16}
    (ht : TableWrite putPattern Pattern.ok s.sdu.patterns t index contents)
    (h : WriteReaches s p cond .patterns index contents)
    (hno : ¬ ∃ i : Fin 16, t[i].steps ≠ [] ∧ ∀ x ∈ t[i].steps, x.on = 0 ∧ x.off = 0) :
    s.request p (.write cond (recordCode .patterns) index contents) =
      { s.servedDone p cond (s.sdu.patterns != t) .patterns with
        sdu := { s.sdu with patterns := t }
        bad := s.bad.filter fun w => !writtenWords .patterns index w } := by
  rw [← writeTable_eq_some getPattern_exact (by decide)] at ht
  rw [← any_playsInNoTime, Bool.not_eq_true] at hno
  rw [State.request_write h]
  simp only [writeAnswer, patternsWriteAnswer, background_sdu, ht, hno, Bool.false_eq_true, if_false]
  have hput := State.putSdu_patterns (s.background p (.write cond (recordCode .patterns) index contents)) t
  rw [background_sdu] at hput
  rw [hput]
  refine (Answer.finish_done_kept (q := .write cond (recordCode .patterns) index contents) (by rfl) (by rfl)).trans ?_
  rfl

/-- The traction unit as a no-desk ceiling is written with no active desk. -/
def withNoDeskCeiling (t : Tdu) (value : Int) : Tdu := { t with ceilings := t.ceilings.set 0 ⟨true, value⟩ }

theorem newNoDeskCeiling_noDesk (t : Tdu) (value : Int) :
    t.newNoDeskCeiling .noDesk value = withNoDeskCeiling t value := setEntry_noDesk _ _ _

/-- R34: with no active desk a written no-desk ceiling is the DESK entry's value at once. -/
theorem settingsWriteAnswer_noDesk {x : State} {c : Settings} (hread : readWhole getSettings 0xFF contents = some c)
    (hdesk : x.dau.state = .noDesk) : settingsWriteAnswer 0xFF contents x = ⟨{ x with
      settings := c
      tdu := withNoDeskCeiling x.tdu c.noDeskCeiling
      bad := (x.bad.filter fun w => !writtenWords .settings 0xFF w).filter fun w =>
        !x.tdu.rewrote (withNoDeskCeiling x.tdu c.noDeskCeiling) w
      handed := x.handed ++ (if x.tdu.ceilings[0] = ⟨true, c.noDeskCeiling⟩ then []
        else parityFaults x .tdu (ceilingWords .noDesk) none) }, .done [], x.settings != c⟩ := by
  have hsame : (withNoDeskCeiling x.tdu c.noDeskCeiling).ceilings = x.tdu.ceilings ↔
      x.tdu.ceilings[0] = ⟨true, c.noDeskCeiling⟩ := table_set_eq_self _
  have hlock : lockReport x.tdu (withNoDeskCeiling x.tdu c.noDeskCeiling) = [] := if_pos rfl
  have hfaults := parityFaults_tduReads ({ x with settings := c }.rewrite (writtenWords .settings 0xFF))
    (withNoDeskCeiling x.tdu c.noDeskCeiling)
  rw [parityFaults_rewrite fun w => ceilingWords_not_settings] at hfaults
  simp only [settingsWriteAnswer, hread, hdesk, newNoDeskCeiling_noDesk, State.tduEvent, hlock, List.append_nil]
  simp only [State.rewrite, hdesk, hsame] at hfaults ⊢
  rw [hfaults]
  rfl

theorem request_settings {c : Settings} (hok : c.ok = true) (hc : Carries contents (putSettings c))
    (h : WriteReaches s p cond .settings 0xFF contents) (hdesk : s.dau.state = .noDesk) :
    ∃ b, b.Sublist s.bad ∧ (∀ w, writtenWords .settings 0xFF w = true → w ∉ b) ∧
      s.request p (.write cond (recordCode .settings) 0xFF contents) =
        { s.servedDone p cond (s.settings != c) .settings with
          settings := c
          tdu := { s.tdu with ceilings := s.tdu.ceilings.set 0 ⟨true, c.noDeskCeiling⟩ }
          bad := b
          handed := s.handed ++ (if s.tdu.ceilings[0] = ⟨true, c.noDeskCeiling⟩ then []
            else parityFaults s .tdu (ceilingWords .noDesk) none) } := by
  have hread : readWhole getSettings 0xFF contents = some c :=
    (readWhole_eq_some getSettings_exact).mpr ⟨rfl, hok, hc⟩
  refine ⟨(s.bad.filter fun w => !writtenWords .settings 0xFF w).filter fun w =>
      !s.tdu.rewrote (withNoDeskCeiling s.tdu c.noDeskCeiling) w,
    List.filter_sublist.trans List.filter_sublist, fun w hw hmem => ?_, ?_⟩
  · have hgood := (List.mem_filter.mp (List.mem_filter.mp hmem).1).2
    rw [hw] at hgood
    cases hgood
  · rw [State.request_write h, writeAnswer, settingsWriteAnswer_noDesk (x := s.background p _) hread hdesk]
    refine (Answer.finish_done_kept (q := .write cond (recordCode .settings) 0xFF contents)
      (by rfl) (by rfl)).trans ?_
    rfl

end

/-- R19: which words a taken WRITE stores. -/
theorem writtenWords_field {r x : Record} {k : Nat} {index : Byte} :
    writtenWords r index (.field x k) = true ↔ x = r ∧ index = 0xFF := by
  simp [writtenWords, isWhole]

theorem writtenWords_entry {r x : Record} {i k : Nat} {index : Byte} :
    writtenWords r index (.entry x i k) = true ↔ x = r ∧ (index = 0xFF ∨ i = index.toNat) := by
  simp [writtenWords, isWhole]

/-- Settles O8. -/
theorem writesStoreTheirRecordAlone : Obligations.WritesStoreTheirRecordAlone := by
  unfold Obligations.WritesStoreTheirRecordAlone
  refine ⟨fun p cond v contents s hok hc h => congrArg _ (request_vehicle hok hc h),
    fun p cond c contents s hok hc h hdesk => ?_,
    fun p cond index contents s => ⟨fun t ht h hno => congrArg _ (request_lines ht h hno),
      fun t ht h hno => congrArg _ (request_cells ht h hno), fun t ht h => congrArg _ (request_permits ht h)⟩,
    fun p cond index contents s => ⟨fun t ht h => congrArg _ (request_locations ht h), fun t ht h hplays => ?_⟩,
    fun r x i k index => ⟨writtenWords_field, writtenWords_entry⟩⟩
  · obtain ⟨b, hb, hw, he⟩ := request_settings hok hc h hdesk
    exact ⟨b, hb, hw, congrArg _ he⟩
  · refine congrArg _ (request_patterns ht h ?_)
    rintro ⟨i, hne, hzero⟩
    obtain ⟨x, hx, hpos⟩ := (hplays i).resolve_left hne
    have := hzero x hx
    omega

end Sys2Proof.Machine

namespace Sys2Proof.Machine

/-! ### Payloads that do not match their layout (R7, R191) -/

section
variable {s : State} {p : Port} {cond : Bool} {index : Byte} {payload : List Byte}

theorem request_write_refused {r : Record} {why : Reason} (h : WriteReaches s p cond r index payload)
    (ha : ∀ x : State, x.lmu = s.lmu → x.lcu = s.lcu → x.sdu = s.sdu → writeAnswer index payload x r = .refuse x why) :
    s.request p (.write cond (recordCode r) index payload) = s.servedRefused p cond why := by
  rw [State.request_write h, ha (s.background p _) rfl rfl rfl]
  exact Answer.finish_refuse _ _ _ _ _ _

theorem request_command_refused {c : CommandName} {why : Reason} (h : CommandReaches s p cond c payload)
    (ha : ∀ x : State, commandAnswer p payload x c = .refuse x why) :
    s.request p (.command cond (commandCode c) payload) = s.servedRefused p cond why := by
  rw [State.request_command h, ha]
  exact Answer.finish_refuse _ _ _ _ _ _

section
variable {α : Type} {get : Reader α} {put : α → List Byte}

theorem readAll_eq_none {ok : α → Prop} (h : Exact get put ok) (hno : ¬ ∃ x, ok x ∧ Carries payload (put x)) :
    readAll get payload = none :=
  Option.eq_none_iff_forall_ne_some.mpr fun x hx => hno ⟨x, (h.readAll_iff payload x).mp hx⟩

theorem readWhole_eq_none {ok : α → Prop} (h : Exact get put ok)
    (hno : ¬ (index = 0xFF ∧ ∃ x, ok x ∧ Carries payload (put x))) : readWhole get index payload = none :=
  Option.eq_none_iff_forall_ne_some.mpr fun x hx =>
    hno ⟨((readWhole_eq_some h).mp hx).1, x, ((readWhole_eq_some h).mp hx).2⟩

theorem writeTable_eq_none {ok : α → Bool} (h : Exact get put fun x => ok x = true) {n : Nat} (hn : n ≤ 255)
    {old : Table α n} (hno : ¬ ∃ new, TableWrite put ok old new index payload) :
    writeTable get old index payload = none :=
  Option.eq_none_iff_forall_ne_some.mpr fun t ht => hno ⟨t, (writeTable_eq_some h hn).mp ht⟩

end

theorem readAll_nothing_eq_none (h : ¬ NoArguments payload) : readAll getNothing payload = none :=
  Option.eq_none_iff_forall_ne_some.mpr fun _ hx => h ((readAll_getNothing payload).mp hx)

/-- R7: contents that do not fit are refused by the owner. -/
theorem writeAnswer_of_not_fit {r : Record} (hno : ¬ ContentsFit s index payload r) {desk : DeskState}
    (hmay : mayWrite desk p r = true) {x : State} (hlmu : x.lmu = s.lmu) (hlcu : x.lcu = s.lcu)
    (hsdu : x.sdu = s.sdu) : writeAnswer index payload x r = .refuse x .outOfRange := by
  cases r with
  | demandA => simp only [writeAnswer, demandWriteAnswer, readWhole_eq_none getDemand_exact hno]
  | demandB => simp only [writeAnswer, demandWriteAnswer, readWhole_eq_none getDemand_exact hno]
  | vehicle => simp only [writeAnswer, vehicleWriteAnswer, readWhole_eq_none getVehicle_exact hno]
  | settings => simp only [writeAnswer, settingsWriteAnswer, readWhole_eq_none getSettings_exact hno]
  | lines => simp only [writeAnswer, linesWriteAnswer, hlmu, writeTable_eq_none getLine_exact (by decide) hno]
  | cells => simp only [writeAnswer, cellsWriteAnswer, hlmu, writeTable_eq_none getCell_exact (by decide) hno]
  | permits => simp only [writeAnswer, permitsWriteAnswer, hlmu, writeTable_eq_none getPermit_ok (by decide) hno]
  | locations => simp only [writeAnswer, locationsWriteAnswer, hlcu, writeTable_eq_none getLocation_exact (by decide) hno]
  | patterns => simp only [writeAnswer, patternsWriteAnswer, hsdu, writeTable_eq_none getPattern_exact (by decide) hno]
  | _ => simp [mayWrite] at hmay

/-- R191: arguments that do not fit are refused by the owner, before it looks for bad words (log 16). -/
theorem commandAnswer_of_not_fit {c : CommandName} (hno : ¬ ArgumentsFit payload c) (x : State) :
    commandAnswer p payload x c = .refuse x .outOfRange := by
  cases c with
  | deskClaim => simp only [commandAnswer, deskClaimAnswer, readAll_nothing_eq_none hno]
  | deskRelease => simp only [commandAnswer, deskReleaseAnswer, readAll_nothing_eq_none hno]
  | deskForceRelease => simp only [commandAnswer, deskForceReleaseAnswer, readAll_nothing_eq_none hno]
  | planSync => simp only [commandAnswer, planSyncAnswer, readAll_nothing_eq_none hno]
  | stopClear => simp only [commandAnswer, stopClearAnswer, readAll_nothing_eq_none hno]
  | faultAck => simp only [commandAnswer, faultAckAnswer, readAll_nothing_eq_none hno]
  | lockdownRelease => simp only [commandAnswer, lockdownReleaseAnswer, readAll_nothing_eq_none hno]
  | configCommit => simp only [commandAnswer, configCommitAnswer, readAll_nothing_eq_none hno]
  | reconfigure => simp only [commandAnswer, reconfigureAnswer, readAll_nothing_eq_none hno]
  | supervisorCeiling =>
    have hnone := readAll_eq_none getCeilingArgs_exact (payload := payload)
      (fun ⟨a, ha⟩ => hno ⟨a.1, a.2, ha⟩)
    simp only [commandAnswer, supervisorCeilingAnswer, hnone]
  | routeInsert => simp only [commandAnswer, routeInsertAnswer, readAll_eq_none getInsertArgs_exact hno]
  | routeSetCode =>
    have hnone := readAll_eq_none getCodeArgs_exact (payload := payload)
      (fun ⟨a, ⟨hj, hcode⟩, hc⟩ => hno ⟨a.1, a.2, hj, hcode, hc⟩)
    simp only [commandAnswer, routeSetCodeAnswer, hnone]
  | routeCancel => simp only [commandAnswer, routeCancelAnswer, readAll_eq_none getJunction_exact hno]
  | routeOverride => simp only [commandAnswer, routeOverrideAnswer, readAll_eq_none getJunction_exact hno]
  | stopSet =>
    have hnone := readAll_eq_none (getEnum_exact (all := stopKindList)) (payload := payload)
      (fun ⟨k, _, hc⟩ => hno ⟨k, hc⟩)
    simp only [commandAnswer, stopSetAnswer, hnone]
  | soundStart => simp only [commandAnswer, soundStartAnswer, readAll_eq_none getStartArgs_exact hno]
  | soundStop =>
    have hnone := readAll_eq_none (getEnum_exact (all := allSounders)) (payload := payload)
      (fun ⟨snd, _, hc⟩ => hno ⟨snd, hc⟩)
    simp only [commandAnswer, soundStopAnswer, hnone]
  | noticeClear =>
    have hnone := readAll_eq_none getCauses_exact (payload := payload) (fun ⟨c, _, hc⟩ => hno ⟨c, hc⟩)
    simp only [commandAnswer, noticeClearAnswer, hnone]
  | noticeEnable =>
    have hnone := readAll_eq_none getCauses_exact (payload := payload) (fun ⟨c, _, hc⟩ => hno ⟨c, hc⟩)
    simp only [commandAnswer, noticeEnableAnswer, hnone]

end

/-- Settles O9. -/
theorem badContentsAreRefusedWithTheirReason : Obligations.BadContentsAreRefusedWithTheirReason := by
  unfold Obligations.BadContentsAreRefusedWithTheirReason
  refine ⟨fun p cond index contents s => ⟨fun t ht h hbad => ?_, fun t ht h hbad => ?_, fun t ht h hbad => ?_⟩,
    fun p cond index payload s => ⟨fun r h hno => ?_, fun c h hno => ?_⟩⟩
  · rw [← writeTable_eq_some getLine_exact (by decide)] at ht
    rw [← twoTachs_iff] at hbad
    exact congrArg _ (request_write_refused h fun x hx _ _ => by
      simp only [writeAnswer, linesWriteAnswer, hx, ht, hbad, if_true])
  · rw [← writeTable_eq_some getCell_exact (by decide)] at ht
    rw [← hasCycle_iff_cyclic] at hbad
    exact congrArg _ (request_write_refused h fun x hx _ _ => by
      simp only [writeAnswer, cellsWriteAnswer, hx, ht, hbad, if_true])
  · rw [← writeTable_eq_some getPattern_exact (by decide)] at ht
    rw [← any_playsInNoTime] at hbad
    exact congrArg _ (request_write_refused h fun x _ _ hx => by
      simp only [writeAnswer, patternsWriteAnswer, hx, ht, hbad, if_true])
  · obtain ⟨-, -, -, hmay⟩ := id h
    exact congrArg _ (request_write_refused h fun x => writeAnswer_of_not_fit hno hmay)
  · rw [exec_commandRow]
    exact congrArg _ (request_command_refused h (commandAnswer_of_not_fit hno))

end Sys2Proof.Machine

namespace Sys2Proof.Machine

/-! ### Demand writes (R57, R58, R64, R65) -/

/-- R64: the DIRECTION entry and the taken direction after a selector is compared with the direction taken. -/
def afterComparison (t : Tdu) (sel : Selector) : CeilingEntry × Option Direction :=
  match selectorDirection sel with
  | none => (⟨true, 0⟩, t.taken)
  | some dir =>
    if t.taken = some dir ∨ t.motion = .standstill then (⟨false, t.ceilings[1].value⟩, some dir)
    else (⟨true, 0⟩, t.taken)

theorem leverPositive_active (d : Desk) (t : Tdu) :
    leverPositive (.active d) t = decide (0 < (t.demand.get d).lever) := rfl

section
variable {t : Tdu} {sel : Selector} {dir : Direction}

theorem afterComparison_neutral (h : selectorDirection sel = none) : afterComparison t sel = (⟨true, 0⟩, t.taken) := by
  simp only [afterComparison, h]

theorem afterComparison_taken (h : selectorDirection sel = some dir)
    (hd : t.taken = some dir ∨ t.motion = .standstill) :
    afterComparison t sel = (⟨false, t.ceilings[1].value⟩, some dir) := by
  simp only [afterComparison, h, hd, if_true]

theorem afterComparison_against (h : selectorDirection sel = some dir) (ht : t.taken ≠ some dir)
    (hm : t.motion = .moving) : afterComparison t sel = (⟨true, 0⟩, t.taken) := by
  simp only [afterComparison, h, ht, hm, reduceCtorEq, or_self, if_false]

end

/-- R62: the comparison makes the entry inactive, or active at 0. -/
theorem forcesLock_afterComparison (old : CeilingEntry) (t : Tdu) (sel : Selector) :
    forcesLock old (afterComparison t sel).1 =
      ((afterComparison t sel).1.active && (!old.active || decide (0 < old.value))) := by
  unfold afterComparison
  split
  · rfl
  · split <;> simp [forcesLock]

/-- R64: the comparison sets the lock alone where it makes the entry active. -/
theorem Tdu.compareDirection_active (d : Desk) (t : Tdu) : t.compareDirection (.active d) d = { t with
    ceilings := t.ceilings.set 1 (afterComparison t (t.demand.get d).selector).1
    taken := (afterComparison t (t.demand.get d).selector).2
    lock := t.lock || (forcesLock t.ceilings[1] (afterComparison t (t.demand.get d).selector).1
      && decide (0 < (t.demand.get d).lever)) } := by
  unfold Tdu.compareDirection
  split
  case h_1 hs =>
    rw [afterComparison_neutral hs]
    rfl
  case h_2 dir hs =>
    split
    case isTrue h =>
      rw [afterComparison_taken hs (.inl h)]
      simp [h, Tdu.dropEntry, ceilingIndex, forcesLock]
    case isFalse h =>
      split
      case h_1 hm =>
        rw [afterComparison_taken hs (.inr hm)]
        simp [hm, Tdu.dropEntry, ceilingIndex, forcesLock]
      case h_2 hm =>
        rw [afterComparison_against hs h hm]
        rfl

/-- R57: what a demand write leaves of the traction unit. -/
theorem Tdu.demandWrite_active (cfg : Settings) (d : Desk) (new : Demand) (t : Tdu) :
    t.demandWrite (.active d) cfg d new = { t with
      demand := t.demand.set d new
      staleTimer := some cfg.staleTime
      ceilings := (t.ceilings.set 6 ⟨false, t.ceilings[6].value⟩).set 1 (afterComparison t new.selector).1
      taken := (afterComparison t new.selector).2
      lock := decide (0 < new.lever) &&
        (t.lock || forcesLock t.ceilings[1] (afterComparison t new.selector).1) } := by
  unfold Tdu.demandWrite
  dsimp only
  split
  case isTrue h =>
    rw [Tdu.compareDirection_active]
    have hl : decide (0 < new.lever) = false := by simp [h]
    simp [Tdu.dropEntry, ceilingIndex, hl, afterComparison]
  case isFalse h =>
    rw [Tdu.compareDirection_active]
    have hl : decide (0 < new.lever) = true := by simpa using h
    simp [Tdu.dropEntry, ceilingIndex, hl, afterComparison]

/-- R13 after R11 and R12: the slots that name a record are emptied before or after the others. -/
theorem slotsAfter_emptySlots_get (p q : Port) (cond changed : Bool) (r x : Record) (slots : PerPort (Option Record)) :
    (slotsAfter p cond changed r (emptySlots x slots)).get q =
      if (slotsAfter p cond changed r slots).get q = some x then none
      else (slotsAfter p cond changed r slots).get q := by
  by_cases hq : q = p
  · subst hq
    cases cond <;> cases changed <;> simp [slotsAfter, emptyOtherSlots]
  · cases cond <;> cases changed <;> simp [slotsAfter, emptyOtherSlots, PerPort.get_set_other _ hq]
    all_goals split_ifs <;> simp_all

theorem mayWrite_demand {desk : DeskState} {p : Port} {d : Desk} :
    mayWrite desk p (demandRecord d) = true ↔ p = deskPort d ∧ desk = .active d := by
  cases d <;> simp [mayWrite, demandRecord, deskPort]

/-- The slots of reservation as a demand write leaves them at its owner. -/
def demandSlots (x : State) (t : Tdu) : PerPort (Option Record) :=
  if t.lock = x.tdu.lock then x.rst.slots else emptySlots .ceilings x.rst.slots

/-- R57: a demand write at its owner; `good` is the state with the words that it stores. -/
theorem demandWriteAnswer_active {x : State} {d : Desk} {new : Demand} {contents : List Byte}
    (hread : readWhole getDemand 0xFF contents = some new) (hdesk : x.dau.state = .active d) :
    let t := x.tdu.demandWrite (.active d) x.settings d new
    let good := x.rewrite (writtenWords (demandRecord d) 0xFF)
    demandWriteAnswer d 0xFF contents x = ⟨{ x with
      rst := { x.rst with slots := demandSlots x t }
      tdu := t
      bad := good.bad.filter fun w => !x.tdu.rewrote t w
      handed := x.handed ++ (parityFaults good .tdu (fun w => settingWords [.staleTime] w
          || (t.ceilings != x.tdu.ceilings && ceilingWords (.active d) w)) none
        ++ publishTaken (.active d) x.tdu t) }, .done [], x.tdu.demand.get d != new⟩ := by
  have hreads : ∀ t, tduReads (x.rewrite (writtenWords (demandRecord d) 0xFF)) (settingWords [.staleTime]) t =
      fun w => settingWords [.staleTime] w || (t.ceilings != x.tdu.ceilings && ceilingWords (.active d) w) := by
    intro t
    funext w
    simp only [tduReads, State.rewrite, hdesk]
  dsimp only
  simp only [demandWriteAnswer, hread, hdesk, State.tduEvent, hreads, demandSlots]
  split <;> rfl

section
variable {s : State} {p : Port} {cond : Bool} {d : Desk} {new : Demand} {contents : List Byte}

/-- R57: the whole of a demand write that is served. -/
theorem request_demand (hok : new.ok = true) (hc : Carries contents (putDemand new))
    (h : WriteReaches s p cond (demandRecord d) 0xFF contents) :
    let t := s.tdu.demandWrite (.active d) s.settings d new
    let good := s.rewrite (writtenWords (demandRecord d) 0xFF)
    let changed := s.tdu.demand.get d != new
    s.request p (.write cond (recordCode (demandRecord d)) 0xFF contents) =
      { s.servedDone p cond changed (demandRecord d) with
        rst := { (s.servedDone p cond changed (demandRecord d)).rst with
          slots := slotsAfter p cond changed (demandRecord d) (demandSlots s t) }
        tdu := t
        bad := good.bad.filter fun w => !s.tdu.rewrote t w
        handed := s.handed ++ (parityFaults good .tdu (fun w => settingWords [.staleTime] w
            || (t.ceilings != s.tdu.ceilings && ceilingWords (.active d) w)) none
          ++ publishTaken (.active d) s.tdu t) } := by
  obtain ⟨-, -, -, hmay⟩ := id h
  obtain ⟨-, hdesk⟩ := mayWrite_demand.mp hmay
  have hread : readWhole getDemand 0xFF contents = some new :=
    (readWhole_eq_some getDemand_exact).mpr ⟨rfl, hok, hc⟩
  have hanswer : ∀ x : State, writeAnswer 0xFF contents x (demandRecord d) = demandWriteAnswer d 0xFF contents x := by
    cases d <;> exact fun _ => rfl
  rw [State.request_write h, hanswer, demandWriteAnswer_active (x := s.background p _) hread hdesk]
  refine (Answer.finish_done_eq (q := .write cond (recordCode (demandRecord d)) 0xFF contents)
    (by rfl) (by rfl)).trans ?_
  rfl

end

/-- R13: a change of the lock empties the slots that name CEILINGS and are left by the request. -/
theorem slotsAfter_demandSlots_get (s : State) (t : Tdu) (p q : Port) (cond changed : Bool) (r : Record) :
    (slotsAfter p cond changed r (demandSlots s t)).get q =
      if t.lock ≠ s.tdu.lock ∧ (slotsAfter p cond changed r s.rst.slots).get q = some .ceilings then none
      else (slotsAfter p cond changed r s.rst.slots).get q := by
  unfold demandSlots
  by_cases hl : t.lock = s.tdu.lock
  · simp [hl]
  · simp [hl, slotsAfter_emptySlots_get]

/-- Settles O12. -/
theorem demandWriteStoresTheDemandAndComparesTheDirection :
    Obligations.DemandWriteStoresTheDemandAndComparesTheDirection := by
  unfold Obligations.DemandWriteStoresTheDemandAndComparesTheDirection
  intro p cond d new contents s hok hc h
  have ht := Tdu.demandWrite_active s.settings d new s.tdu
  refine ⟨_, _, ?_, ?_, congrArg Host.Outcome.next (request_demand hok hc h), rfl, rfl, ?_, ?_⟩
  · exact List.filter_sublist.trans List.filter_sublist
  · intro w hw hmem
    have hgood := (List.mem_filter.mp (List.mem_filter.mp hmem).1).2
    rw [hw] at hgood
    cases hgood
  · exact fun q => slotsAfter_demandSlots_get _ _ _ _ _ _ _
  · dsimp only
    generalize s.tdu.demandWrite (.active d) s.settings d new = t at ht
    subst ht
    refine ⟨rfl, by simp, fun i h1 h6 => ?_, fun hn => ?_, fun dir hs => ⟨fun hd => ?_, fun hd hm => ?_, fun hd hm => ?_⟩,
      fun hl => ?_, fun hl => ?_, ?_⟩
    · have hi1 : (1 : Nat) ≠ i := fun h => h1 (Fin.ext h.symm)
      have hi6 : (6 : Nat) ≠ i := fun h => h6 (Fin.ext h.symm)
      simp [hi1, hi6]
    · have hs : selectorDirection new.selector = none := by rw [hn]; rfl
      simp [afterComparison_neutral hs]
    · simp [afterComparison_taken hs (.inl hd)]
    · simp [afterComparison_taken hs (.inr hm)]
    · simp [afterComparison_against hs hd hm]
    · simp [hl]
    · simp [hl, forcesLock_afterComparison]
    · rw [← List.append_assoc]
      rfl

end Sys2Proof.Machine

namespace Sys2Proof.Machine

/-! ### The lowest ceiling (R60) -/

theorem lowestOf_cons (e : CeilingEntry) (l : List CeilingEntry) :
    lowestOf (e :: l) = if e.active then min e.value (lowestOf l) else lowestOf l := rfl

theorem lowestOf_le {l : List CeilingEntry} {e : CeilingEntry} (he : e ∈ l) (ha : e.active = true) :
    lowestOf l ≤ e.value := by
  induction l with
  | nil => cases he
  | cons x l ih =>
    rw [lowestOf_cons]
    rcases List.mem_cons.mp he with rfl | he
    · simp [ha]
    · have := ih he
      split <;> omega

theorem lowestOf_inactive {l : List CeilingEntry} (h : ∀ e ∈ l, e.active = false) : lowestOf l = 100 := by
  induction l with
  | nil => rfl
  | cons x l ih =>
    rw [lowestOf_cons, h x List.mem_cons_self]
    exact ih fun e he => h e (List.mem_cons_of_mem x he)

/-- The value is that of an active entry, unless none is active. -/
theorem lowestOf_attained {l : List CeilingEntry} (hv : ∀ e ∈ l, e.value ≤ 100) (hex : ∃ e ∈ l, e.active = true) :
    ∃ e ∈ l, e.active = true ∧ e.value = lowestOf l := by
  induction l with
  | nil => obtain ⟨e, he, -⟩ := hex; cases he
  | cons x l ih =>
    by_cases hl : ∃ e ∈ l, e.active = true
    · obtain ⟨e, he, ha, hmin⟩ := ih (fun e he => hv e (List.mem_cons_of_mem x he)) hl
      by_cases hx : x.active = true ∧ x.value ≤ lowestOf l
      · exact ⟨x, List.mem_cons_self, hx.1, by rw [lowestOf_cons, if_pos hx.1, min_eq_left hx.2]⟩
      · refine ⟨e, List.mem_cons_of_mem x he, ha, ?_⟩
        rw [lowestOf_cons]
        split
        · have : lowestOf l < x.value := by simp_all
          omega
        · exact hmin
    · have hnone : ∀ e ∈ l, e.active = false := by simpa using hl
      have hx : x.active = true := by
        obtain ⟨e, he, ha⟩ := hex
        rcases List.mem_cons.mp he with rfl | he
        · exact ha
        · exact absurd ⟨e, he, ha⟩ hl
      have := hv x List.mem_cons_self
      exact ⟨x, List.mem_cons_self, hx, by rw [lowestOf_cons, if_pos hx, lowestOf_inactive hnone]; omega⟩

theorem mem_table_toList {α : Type} {n : Nat} {t : Table α n} {x : α} : x ∈ t.toList ↔ ∃ i : Fin n, t[i] = x := by
  simp only [List.mem_iff_getElem, Vector.length_toList, Vector.getElem_toList]
  exact ⟨fun ⟨i, hi, h⟩ => ⟨⟨i, hi⟩, h⟩, fun ⟨i, h⟩ => ⟨i, i.isLt, h⟩⟩

/-! ### Entries set under the lock rule (R59, R62) -/

section
variable {s : State}

/-- With no bad word an event of the traction unit puts the unit's state, and hands on what it does. -/
theorem State.tduEvent_of_bad_nil (h : s.bad = []) (reads : StoreWord → Bool) (r : Tdu × List Instr) :
    s.tduEvent reads r = { s with tdu := r.1, handed := s.handed ++ r.2 } := by
  simp only [State.tduEvent, State.putTdu, parityFaults_of_bad_nil h, List.nil_append]
  rw [h, List.filter_nil]

theorem State.entryEvent_of_bad_nil (h : s.bad = []) (c : CeilingSource) (reads : StoreWord → Bool) (t : Tdu) :
    s.entryEvent c reads t = { s with tdu := t, handed := s.handed ++ lockNews s.tdu.lock t.lock } := by
  rw [State.entryEvent, State.tduEvent_of_bad_nil h, lockReport_eq]
  exact State.rewrite_of_bad_nil { s with tdu := t, handed := s.handed ++ lockNews s.tdu.lock t.lock } h _

/-- An entry that is dropped is set to inactive with its value: the lock rule does not speak of it. -/
theorem Tdu.dropEntry_eq_setEntry (desk : DeskState) (c : CeilingSource) (t : Tdu) :
    t.dropEntry c = t.setEntry desk c ⟨false, t.ceilings[ceilingIndex c].value⟩ := by
  simp [Tdu.dropEntry, Tdu.setEntry, forcesLock]

/-- R62: the lock after an entry of the table is set. -/
theorem setEntry_lock_iff {desk : DeskState} {t u : Tdu} {c : CeilingSource} {new : CeilingEntry}
    (hd : u.demand = t.demand) (hc : u.ceilings = t.ceilings) (hl : u.lock = t.lock) :
    (u.setEntry desk c new).lock = true ↔
      t.lock = true ∨ LockForced desk t t.ceilings[ceilingIndex c] new := by
  rw [← lock_iff_forced]
  simp only [Tdu.setEntry, leverPositive, hd, hc, hl]

/-- R59, R62: a row that sets one entry, and changes other fields of the unit besides. -/
theorem exec_of_setEntry (h : s.bad = []) {c : Instr} (src : CeilingSource) (new : CeilingEntry) {t u : Tdu}
    (hrow : exec c s = .next ((s.take c).entryEvent src (fun _ => false) t))
    (ht : t = u.setEntry s.dau.state src new) (hd : u.demand = s.tdu.demand) (hc : u.ceilings = s.tdu.ceilings)
    (hl : u.lock = s.tdu.lock) :
    ∃ k : Bool, (k = true ↔ s.tdu.lock = true ∨ LockForced s.dau.state s.tdu s.tdu.ceilings[ceilingIndex src] new) ∧
      exec c s = .next { s with
        tdu := { u with ceilings := s.tdu.ceilings.set (ceilingIndex src) new, lock := k }
        handed := s.handed.erase c ++ lockNews s.tdu.lock k } := by
  refine ⟨_, setEntry_lock_iff hd hc hl, ?_⟩
  rw [hrow, ht, State.entryEvent_of_bad_nil (s := s.take c) h]
  simp only [Tdu.setEntry, hc]
  rfl

/-- R61: SUPERVISOR_CEILING at its owner. -/
theorem supervisorCeilingAnswer_good {args : List Byte} {active : Bool} {value : Int} (h : s.bad = [])
    (hv : withinInt (-100) 100 value = true) (hc : Carries args (putFlag active ++ putInt8 value)) :
    supervisorCeilingAnswer args s =
      ⟨{ s with tdu := s.tdu.setEntry s.dau.state .supervisor ⟨active, value⟩ }, .done [],
        (s.tdu.setEntry s.dau.state .supervisor ⟨active, value⟩).lock != s.tdu.lock⟩ := by
  have hread : readAll getCeilingArgs args = some (active, value) :=
    (getCeilingArgs_exact.readAll_iff args (active, value)).mpr ⟨hv, hc⟩
  simp only [supervisorCeilingAnswer, hread, meetsBad_of_bad_nil h, State.putTdu_nil, h, List.filter_nil]
  rw [← h]
  rfl

end

/-- Settles O22. -/
theorem ceilingEntriesAreSetUnderTheLockRule : Obligations.CeilingEntriesAreSetUnderTheLockRule := by
  unfold Obligations.CeilingEntriesAreSetUnderTheLockRule
  refine ⟨fun t ht => ⟨fun h => lowestOf_inactive ?_, fun ⟨i, hi⟩ => ⟨?_, fun j hj =>
    lowestOf_le (mem_table_toList.mpr ⟨j, rfl⟩) hj⟩⟩, fun s h => ?_, fun p cond active value args s h hv hc hr => ?_⟩
  · intro e he
    obtain ⟨i, rfl⟩ := mem_table_toList.mp he
    exact h i
  · have hval : ∀ e ∈ t.toList, e.value ≤ 100 := fun e he => by
      obtain ⟨j, rfl⟩ := mem_table_toList.mp he
      exact ht j
    obtain ⟨e, he, ha, hmin⟩ := lowestOf_attained hval ⟨_, mem_table_toList.mpr ⟨i, rfl⟩, hi⟩
    obtain ⟨j, rfl⟩ := mem_table_toList.mp he
    exact ⟨j, ha, hmin⟩
  · have drop := fun src u => Tdu.dropEntry_eq_setEntry s.dau.state src u
    refine ⟨?_, ?_, fun v => ?_, fun v => ?_, ?_, ?_⟩
    · exact exec_of_setEntry h .matrix ⟨true, 0⟩ (u := { s.tdu with tractionPermit := false }) rfl rfl rfl rfl rfl
    · exact exec_of_setEntry h .matrix _ (u := { s.tdu with tractionPermit := true }) rfl (drop _ _) rfl rfl rfl
    · exact exec_of_setEntry h .pointGuard ⟨true, v⟩ rfl rfl rfl rfl rfl
    · exact exec_of_setEntry h .pointGuard _ rfl (drop _ _) rfl rfl rfl
    · exact exec_of_setEntry h .lockdown ⟨true, -100⟩ (u := { s.tdu with lockView := .held }) rfl rfl rfl rfl rfl
    · exact exec_of_setEntry h .lockdown _ (u := { s.tdu with lockView := .clear }) rfl (drop _ _) rfl rfl rfl
  · refine ⟨_, setEntry_lock_iff (c := .supervisor) rfl rfl rfl, congrArg Host.Outcome.next ?_⟩
    rw [State.request_command hr, commandAnswer, supervisorCeilingAnswer_good (s := s.background p _) h hv hc]
    refine (Answer.finish_done_kept (q := .command cond (commandCode .supervisorCeiling) args)
      (by rfl) (by rfl)).trans ?_
    rw [bne_comm]
    rfl

end Sys2Proof.Machine

namespace Sys2Proof.Machine

/-! ### Desk changes and the teardown at the traction unit (R23, R58, R70, R77, R78) -/

/-- With no bad word an event of the route unit puts the unit's state, and hands on what it does. -/
theorem State.rtuEvent_of_bad_nil {s : State} (h : s.bad = []) (reads : StoreWord → Bool) (r : Rtu × List Instr) :
    s.rtuEvent reads r = { s with rtu := r.1, handed := s.handed ++ r.2 } := by
  simp only [State.rtuEvent, State.putRtu, parityFaults_of_bad_nil h, List.nil_append]
  rw [h, List.filter_nil]

theorem exec_deskStateChange_of_bad_nil {s : State} (h : s.bad = []) (new : DeskState) :
    exec (.deskStateChange new) s = .next { s with
      tdu := (s.tdu.deskState s.settings new).1
      handed := s.handed.erase (.deskStateChange new) ++
        ((s.tdu.deskState s.settings new).2 ++ s.rtu.deskState s.dau.state s.settings new) } := by
  refine congrArg Host.Outcome.next ?_
  rw [State.rtuEvent_of_bad_nil (by rw [State.tduEvent_of_bad_nil (s := s.take _) h]; exact h),
    State.tduEvent_of_bad_nil (s := s.take _) h]
  simp only [State.take, List.append_assoc]

theorem Rtu.deskState_active (desk : DeskState) (cfg : Settings) (d : Desk) (u : Rtu) :
    u.deskState desk cfg (.active d) = if deskHolder desk = some d ∧ holding u.plan = true
      then [.hardwareSoundAdd .pointGuard (deskBuzzer d) cfg.uses.guardAlert] else [] := by
  simp only [Rtu.deskState, holding_eq, addAlert]

/-- R70's last row, with the ceilings as they were before it. -/
theorem Tdu.endVigilance_eq (d : Desk) (t : Tdu) : t.endVigilance (some d) =
    ({ t with
      ceilings := if t.vigilance ≠ .off then t.ceilings.set 4 ⟨false, t.ceilings[4].value⟩ else t.ceilings
      vigilance := .off
      graceTimer := if t.vigilance ≠ .off then none else t.graceTimer },
    if t.vigilance ≠ .off then [.hardwareSoundRemove .vigilance (deskBuzzer d)] else []) := by
  obtain ⟨⟩ := t
  rename_i vigilance _ _ _ _ _ _
  cases vigilance <;> rfl

theorem Tdu.endStale_eq (t : Tdu) : t.endStale = { t with
    staleTimer := none, ceilings := t.ceilings.set 6 ⟨false, t.ceilings[6].value⟩ } := rfl

/-- R78: the unit's share of the teardown. -/
theorem Tdu.teardown_eq (cfg : Settings) (former : Desk) (t : Tdu) : t.teardown cfg former =
    ({ t with
      demand := ⟨⟨0, .neutral⟩, ⟨0, .neutral⟩⟩
      ceilings :=
        let c := ((t.ceilings.set 1 ⟨true, 0⟩).set 0 ⟨true, cfg.noDeskCeiling⟩).set 6 ⟨false, t.ceilings[6].value⟩
        if t.vigilance ≠ .off then c.set 4 ⟨false, t.ceilings[4].value⟩ else c
      lock := false
      taken := none
      staleTimer := none
      vigilance := .off
      graceTimer := if t.vigilance ≠ .off then none else t.graceTimer },
    .leadingEndPublished .none ::
      if t.vigilance ≠ .off then [.hardwareSoundRemove .vigilance (deskBuzzer former)] else []) := by
  simp only [Tdu.teardown, setEntry_noDesk, Tdu.endStale_eq, Tdu.endVigilance_eq]
  simp [ceilingIndex]

/-! ### Structural changes of the teardown (R8, R13, R32) -/

/-- The slots as a change empties those that name the record, where it does. -/
def emptyIf (empties : Bool) (r : Record) (slots : PerPort (Option Record)) : PerPort (Option Record) :=
  if empties then emptySlots r slots else slots

theorem emptyIf_get (empties : Bool) (r : Record) (slots : PerPort (Option Record)) (q : Port) :
    (emptyIf empties r slots).get q = if empties = true ∧ slots.get q = some r then none else slots.get q := by
  cases empties <;> simp [emptyIf]

theorem State.teardownChange_eq (s : State) (byCommand changed : Bool) (r : Record) :
    s.teardownChange byCommand changed r = { s with
      rst := { s.rst with slots := emptyIf (byCommand && changed) r s.rst.slots }
      handed := s.handed ++ if changed && !byCommand then [.structuralChangeReport r] else [] } := by
  cases byCommand <;> cases changed <;> simp [State.teardownChange, State.emptySlotsNaming, State.hand, emptyIf]

theorem State.teardownTdu_of_bad_nil {s : State} (h : s.bad = []) (former : Desk) (byCommand : Bool) :
    s.teardownTdu former byCommand = { s with
      rst := { s.rst with
        slots := emptyIf (byCommand && s.tdu.demand.b != ⟨0, .neutral⟩) .demandB
          (emptyIf (byCommand && s.tdu.demand.a != ⟨0, .neutral⟩) .demandA
            (emptyIf (byCommand && s.tdu.lock) .ceilings s.rst.slots)) }
      tdu := (s.tdu.teardown s.settings former).1
      handed := s.handed ++ (s.tdu.teardown s.settings former).2
        ++ (if s.tdu.lock && !byCommand then [.structuralChangeReport .ceilings] else []) } := by
  have hput : ∀ reads f r, (s.tduEvent reads r).rewrite f = { s with tdu := r.1, handed := s.handed ++ r.2 } := by
    intro reads f r
    rw [State.tduEvent_of_bad_nil h]
    exact State.rewrite_of_bad_nil { s with tdu := r.1, handed := s.handed ++ r.2 } h f
  simp only [State.teardownTdu, hput, State.teardownChange_eq, Tdu.teardown_eq]
  cases byCommand <;> cases s.tdu.lock <;> simp

/-- Settles O27. -/
theorem deskChangesAndTeardownReachTheTractionUnit : Obligations.DeskChangesAndTeardownReachTheTractionUnit := by
  unfold Obligations.DeskChangesAndTeardownReachTheTractionUnit
  refine ⟨fun d s h => ⟨?_, ?_, _, setEntry_lock_iff (c := .desk) rfl rfl rfl, ?_⟩,
    fun former byCommand s h => ⟨_, congrArg Host.Outcome.next (State.teardownTdu_of_bad_nil (s := s.take _) h former
      byCommand), ?_, fun i => ?_, fun q r hq => ?_, fun q hq => ?_⟩⟩
  · rw [exec_deskStateChange_of_bad_nil h, Rtu.deskState_active]
    rfl
  · rw [exec_deskStateChange_of_bad_nil h]
    simp [Tdu.deskState, Rtu.deskState, setEntry_noDesk, ceilingIndex, lockReport]
  · rw [exec_deskStateChange_of_bad_nil h]
    simp only [Tdu.deskState, Rtu.deskState, Tdu.endStale_eq, Tdu.endVigilance_eq, lockReport_eq, List.append_nil]
    by_cases hv : s.tdu.vigilance = .off <;> simp [Tdu.setEntry, ceilingIndex, hv]
  · simp only [Tdu.teardown_eq, State.take, List.append_assoc]
    rfl
  · simp only [Tdu.teardown_eq]
    by_cases hv : s.tdu.vigilance = .off <;> fin_cases i <;> simp [State.take, hv]
  · simp only [emptyIf_get, State.take, hq]
    cases byCommand with
    | false => simp
    | true => grind
  · simp [emptyIf_get, hq]

end Sys2Proof.Machine

namespace Sys2Proof.Machine

/-! ### Beacons (R90 to R94) -/

theorem masked_eq_iff {x y mask : BitVec 12} :
    (x &&& mask == y &&& mask) = true ↔ ∀ k : Fin 12, mask[k] = true → x[k] = y[k] := by
  simp only [beq_iff_eq]
  constructor
  · intro h k hk
    have hk' : mask[k.val] = true := hk
    have := congrArg (fun b => b[k]) h
    simpa [hk'] using this
  · intro h
    refine BitVec.eq_of_getElem_eq fun i hi => ?_
    have := h ⟨i, hi⟩
    cases hm : mask[i] with
    | false => simp [hm]
    | true => simpa [hm] using this hm

/-- R90, R91: the match of an entry. -/
theorem entryMatches_iff {e : LocationEntry} {identity : BitVec 12} {leading : LeadingEnd} :
    entryMatches e identity leading = true ↔ Answers e identity leading := by
  have horient : orientationAdmits e.orientation leading = true ↔
      (e.orientation = .either ∨ (e.orientation = .aLeading ∧ leading = .aLeading)
        ∨ (e.orientation = .bLeading ∧ leading = .bLeading)) := by
    cases e.orientation <;> cases leading <;> simp [orientationAdmits]
  simp only [entryMatches, Answers, Bool.and_eq_true, masked_eq_iff, horient, and_assoc]

/-- An entry of the location table with its index. -/
abbrev Indexed := LocationEntry × Nat

/-- R92: the entries found, each with whether it is dropped where the list has room for `room` of those with an
offset. -/
def withDrops : Nat → List Indexed → List (Indexed × Bool)
  | _, [] => []
  | room, x :: xs =>
    if x.1.offset = 0 then (x, false) :: withDrops room xs
    else match room with
      | 0 => (x, true) :: withDrops 0 xs
      | n + 1 => (x, false) :: withDrops n xs

/-- R92: the entries that come to the list. -/
def laterOf (found : List Indexed) : List Indexed := found.filter fun x => decide (0 < x.1.offset)

/-- No entry being found twice, those beyond the room are the ones dropped. -/
theorem withDrops_eq {found : List Indexed} (h : found.Nodup) : ∀ room, withDrops room found =
    found.map fun x => (x, decide (x ∈ (laterOf found).drop room)) := by
  induction found with
  | nil => exact fun _ => rfl
  | cons x xs ih =>
    intro room
    obtain ⟨hx, hxs⟩ := List.nodup_cons.mp h
    have hlater : x ∉ laterOf xs := fun hm => hx (List.mem_of_mem_filter hm)
    have hdrop : ∀ n, x ∉ (laterOf xs).drop n := fun n hm => hlater (List.mem_of_mem_drop hm)
    have hne : ∀ y ∈ xs, y ≠ x := fun y hy he => hx (he ▸ hy)
    by_cases h0 : x.1.offset = 0
    · have hl : laterOf (x :: xs) = laterOf xs := by simp [laterOf, h0]
      simp [withDrops, h0, hl, hdrop, ih hxs]
    · have hl : laterOf (x :: xs) = x :: laterOf xs := by simp [laterOf, Nat.pos_of_ne_zero h0]
      cases room with
      | zero =>
        simp only [withDrops, h0, if_false, hl, List.drop_zero, List.map_cons, List.mem_cons, true_or, decide_true,
          ih hxs, List.cons.injEq, true_and]
        exact List.map_congr_left fun y hy => by simp [hne y hy]
      | succ n => simp [withDrops, h0, hl, hdrop, ih hxs]

/-- R90, R93: what an entry hands on. -/
def beaconOut (identity : BitVec 12) (x : Indexed × Bool) : List Instr :=
  if x.1.1.offset = 0 then [deliveredAs x.1.2 identity x.1.1.act]
  else if x.2 then [dropReport x.1.1.act] else []

/-- R93, R94: what an entry notes as the last event. -/
def beaconNote (identity : BitVec 12) (x : Indexed × Bool) : Option LocationEvent :=
  if x.1.1.offset = 0 then
    (if x.1.1.act.action = .notify then some ⟨.notify, x.1.2, identity.toNat, .notify⟩ else none)
  else if x.2 = true ∧ dropsSevere x.1.1.act = false
    then some ⟨.overflow, x.1.2, identity.toNat, x.1.1.act.action⟩ else none

/-- The last of the events noted, or the one that stood before. -/
def lastNoted (noted : List LocationEvent) (old : Option LocationEvent) : Option LocationEvent :=
  match noted.getLast? with
  | some e => some e
  | none => old

theorem lastNoted_cons (e : LocationEvent) (l : List LocationEvent) (old : Option LocationEvent) :
    lastNoted (e :: l) old = lastNoted l (some e) := by
  cases l with
  | nil => rfl
  | cons x l => simp [lastNoted, List.getLast?_cons]

/-- R87: one of the entries found fires an ARM_ROUTE. -/
def armsFound (found : List Indexed) : Bool := found.any fun x => x.1.offset == 0 && x.1.act.action == .armRoute

theorem armsFound_cons (x : Indexed) (found : List Indexed) : armsFound (x :: found) = true ↔
    (x.1.offset = 0 ∧ x.1.act.action = .armRoute) ∨ armsFound found = true := by
  simp [armsFound]

/-- R92: what an entry that waits joins the list as. -/
def pendingOf (identity : BitVec 12) (x : Indexed) : PendingAction := ⟨x.2, identity, x.1.act, x.1.offset⟩

section
variable (cfg : Settings) (identity : BitVec 12)

/-- R90 to R94: what the entries found do in their order. -/
def beaconDone (found : List Indexed) (l : Lcu) : Lcu × List Instr :=
  let tagged := withDrops (8 - l.actions.length) found
  let out := tagged.flatMap (beaconOut identity)
  ({ l with
      window := if armsFound found then max l.window cfg.windowLength else l.window
      actions := l.actions ++ ((laterOf found).take (8 - l.actions.length)).map (pendingOf identity)
      lastEvent := lastNoted (tagged.filterMap (beaconNote identity)) l.lastEvent },
    if l.window = 0 then openingFirst out else out)

theorem Lcu.drop_eq (i : Nat) (a : ActionSpec) (l : Lcu) : l.drop i identity a =
    ({ l with lastEvent := if dropsSevere a then l.lastEvent else some ⟨.overflow, i, identity.toNat, a.action⟩ },
      [dropReport a]) := by
  obtain ⟨ac, j, p, m, pt⟩ := a
  cases ac <;> rfl

theorem Lcu.fire_eq (i : Nat) (a : ActionSpec) (l : Lcu) : l.fire cfg i identity a =
    ({ l with
        window := if a.action = .armRoute then max l.window cfg.windowLength else l.window
        lastEvent := if a.action = .notify then some ⟨.notify, i, identity.toNat, .notify⟩ else l.lastEvent },
      (if l.window = 0 ∧ a.action = .armRoute then [.windowOpen] else []) ++ [deliveredAs i identity a]) := by
  obtain ⟨ac, j, p, m, pt⟩ := a
  cases ac
  case armRoute => by_cases hw : l.window = 0 <;> simp [Lcu.fire, deliveredAs, windowIsOpen, hw]
  all_goals simp [Lcu.fire, deliveredAs]

theorem openingFirst_dropReport (a : ActionSpec) (out : List Instr) :
    openingFirst (dropReport a :: out) = dropReport a :: openingFirst out := by
  unfold dropReport
  split <;> rfl

theorem openingFirst_deliveredAs (i : Nat) (a : ActionSpec) (out : List Instr) :
    openingFirst (deliveredAs i identity a :: out) =
      if a.action = .armRoute then .windowOpen :: deliveredAs i identity a :: out
      else deliveredAs i identity a :: openingFirst out := by
  obtain ⟨ac, j, p, m, pt⟩ := a
  cases ac <;> rfl

variable {cfg}

/-- One entry found, and those after it. -/
theorem beaconDone_cons (h : 0 < cfg.windowLength) (e : LocationEntry) (i : Nat) (found : List Indexed) (l : Lcu) :
    beaconDone cfg identity ((e, i) :: found) l =
      ((beaconDone cfg identity found (l.matched cfg identity i e).1).1,
        (l.matched cfg identity i e).2 ++ (beaconDone cfg identity found (l.matched cfg identity i e).1).2) := by
  by_cases h0 : e.offset = 0
  · by_cases ha : e.act.action = .armRoute
    · have hwindow : max l.window cfg.windowLength ≠ 0 := by omega
      simp [Lcu.matched, h0, Lcu.fire_eq, beaconDone, withDrops, laterOf, armsFound_cons, beaconOut, beaconNote, ha,
        hwindow, openingFirst_deliveredAs]
      split <;> rfl
    · simp [Lcu.matched, h0, Lcu.fire_eq, beaconDone, withDrops, laterOf, armsFound_cons, beaconOut, beaconNote, ha,
        openingFirst_deliveredAs]
      refine ⟨?_, by split <;> rfl⟩
      by_cases hn : e.act.action = .notify <;> simp [beaconNote, h0, hn, lastNoted_cons]
  · have hpos : 0 < e.offset := Nat.pos_of_ne_zero h0
    by_cases hroom : l.actions.length < 8
    · obtain ⟨n, hn⟩ : ∃ n, 8 - l.actions.length = n + 1 := ⟨7 - l.actions.length, by omega⟩
      have hleft : 8 - (l.actions.length + 1) = n := by omega
      simp [Lcu.matched, h0, hroom, Config.actionCapacity, beaconDone, withDrops, hn, hleft, laterOf, hpos,
        armsFound_cons, beaconOut, beaconNote, pendingOf]
    · have hn : 8 - l.actions.length = 0 := by omega
      cases hs : dropsSevere e.act <;>
        simp [Lcu.matched, h0, hroom, Config.actionCapacity, Lcu.drop_eq, beaconDone, withDrops, hn, laterOf, hpos,
          armsFound_cons, beaconOut, beaconNote, hs, lastNoted_cons, openingFirst_dropReport]
      all_goals split <;> rfl

theorem Lcu.matched_leading (i : Nat) (e : LocationEntry) (l : Lcu) :
    (l.matched cfg identity i e).1.leading = l.leading := by
  unfold Lcu.matched
  split
  · rw [Lcu.fire_eq]
  · split
    · rfl
    · rw [Lcu.drop_eq]

/-- The entries that a beacon finds among those with their indices. -/
def foundOf (identity : BitVec 12) (leading : LeadingEnd) (entries : List Indexed) : List Indexed :=
  entries.filter fun x => entryMatches x.1 identity leading

/-- The entries of the location table that a beacon finds. -/
abbrev Lcu.found (identity : BitVec 12) (l : Lcu) : List Indexed :=
  foundOf identity l.leading l.table.toList.zipIdx

theorem matchEntries_eq (h : 0 < cfg.windowLength) (entries : List Indexed) : ∀ l : Lcu,
    matchEntries cfg identity entries l = beaconDone cfg identity (foundOf identity l.leading entries) l := by
  induction entries with
  | nil =>
    intro l
    simp [matchEntries, foundOf, beaconDone, withDrops, laterOf, armsFound, lastNoted, openingFirst]
  | cons x entries ih =>
    obtain ⟨e, i⟩ := x
    intro l
    unfold matchEntries
    split
    case isTrue hm =>
      have hfound : foundOf identity l.leading ((e, i) :: entries) =
          (e, i) :: foundOf identity l.leading entries := List.filter_cons_of_pos hm
      simp only [ih, hfound, beaconDone_cons identity h, Lcu.matched_leading]
    case isFalse hm =>
      have hfound : foundOf identity l.leading ((e, i) :: entries) = foundOf identity l.leading entries :=
        List.filter_cons_of_neg hm
      rw [ih, hfound]

/-- R129: the sample point that ends the silent bit period delivers the telegram that met every test. -/
theorem Tlu.sample_tested {t : Tlu} {v : Bool} {r : Reception} (hr : t.receiver = .receiving) (hw : t.wait ≤ 1)
    (ht : tested t.bits = some r) : t.sample v =
      ({ t with receiver := .recovering, silent := 0, bits := [], wait := 2, run := carrierRun v t.run }, some r) := by
  simp [Tlu.sample, hr, Nat.not_lt.mpr hw, ht]

theorem armsAtBeacon_eq (l : Lcu) :
    armsAtBeacon identity l = armsFound (l.found identity) := by
  have hfst : l.table.toList = l.table.toList.zipIdx.map Prod.fst := by simp
  rw [armsAtBeacon, hfst, List.any_map, armsFound, Lcu.found, foundOf, List.any_filter]
  simp [Function.comp_def, Bool.and_assoc]

end

theorem mem_zipIdx_table {α : Type} {n : Nat} (t : Table α n) (i : Fin n) : (t[i], i.val) ∈ t.toList.zipIdx := by
  rw [List.mem_zipIdx_iff_getElem?]
  simp

theorem nodup_zipIdx {α : Type} (l : List α) : l.zipIdx.Nodup := by
  refine List.Nodup.of_map Prod.snd ?_
  rw [List.zipIdx_map_snd]
  exact List.nodup_range' ..

/-- R90: the beacon at the location unit. -/
theorem Lcu.beacon_eq {cfg : Settings} (h : 0 < cfg.windowLength) (identity : BitVec 12) (l : Lcu) :
    l.beacon cfg identity = beaconDone cfg identity (l.found identity)
      { l with distance := 0, lastBeacon := some identity } := matchEntries_eq identity h _ _

theorem State.hear_beacon {s : State} {v : Bool} {identity : BitVec 12} (hr : s.tlu.receiver = .receiving)
    (hw : s.tlu.wait ≤ 1) (ht : tested s.tlu.bits = some (.beacon identity)) : s.hear [v] = { s with
      tlu := { s.tlu with
        receiver := .recovering, silent := 0, bits := [], wait := 2, run := carrierRun v s.tlu.run }
      lcu := (s.lcu.beacon s.settings identity).1
      handed := s.handed ++ parityFaults s .lcu (beaconReads identity s.lcu) none
        ++ (s.lcu.beacon s.settings identity).2 } := by
  have hsample := Tlu.sample_tested (v := v) hr hw ht
  show s.sample v = _
  simp only [State.sample, hsample, State.deliver, State.takeBeacon, State.putTlu, State.putLcu, List.append_nil,
    List.append_assoc]
  rfl

/-- Settles O29. -/
theorem beaconFiresJoinsOrDropsEveryEntryThatAnswers : Obligations.BeaconFiresJoinsOrDropsEveryEntryThatAnswers := by
  unfold Obligations.BeaconFiresJoinsOrDropsEveryEntryThatAnswers
  intro v identity s hwin hrec hwait hbits
  have htested : tested s.tlu.bits = some (.beacon identity) := tested_eq_some.mpr ⟨hbits, by simp⟩
  refine ⟨s.lcu.found identity, List.filter_sublist, fun i => ?_, ?_⟩
  · rw [Lcu.found, foundOf, List.mem_filter, entryMatches_iff]
    exact and_iff_right (mem_zipIdx_table s.lcu.table i)
  · have hnodup : (s.lcu.found identity).Nodup := (nodup_zipIdx _).filter _
    have hreads : beaconReads identity s.lcu = fun w => locationWords w ||
        (armsFound (s.lcu.found identity) && settingWords [.windowLength] w) := by
      rw [← armsAtBeacon_eq]
      rfl
    have hrow : ∀ c, (s.take c).hear [v] = _ := fun c => State.hear_beacon (s := s.take c) hrec hwait htested
    have hnext : ∀ c ∈ [Instr.beaconTelegram [v], .pointStateTelegram [v], .trackRxError [v]],
        exec c s = .next ((s.take c).hear [v]) := by
      simp only [List.mem_cons, List.not_mem_nil, or_false]
      rintro c (rfl | rfl | rfl) <;> rfl
    intro later joined dropped arms out noted reads c hc
    rw [hnext c hc, hrow c]
    simp only [State.take, Lcu.beacon_eq hwin, beaconDone, withDrops_eq hnodup, List.flatMap_map, List.filterMap_map,
      hreads]
    have hout : out = (s.lcu.found identity).flatMap fun x =>
        beaconOut identity (x, decide (x ∈ (laterOf
          (s.lcu.found identity)).drop (8 - s.lcu.actions.length))) := by
      simp only [out, beaconOut, decide_eq_true_eq]
      rfl
    have hnoted : noted = (s.lcu.found identity).filterMap
        (beaconNote identity ∘ fun x => (x, decide (x ∈ (laterOf
          (s.lcu.found identity)).drop (8 - s.lcu.actions.length)))) := by
      simp only [noted, beaconNote, Function.comp_def, decide_eq_true_eq]
      rfl
    rw [← hout, ← hnoted]
    rfl

end Sys2Proof.Machine

namespace Sys2Proof.Machine

/-! ### Route commands (R18, R101 to R105) -/

theorem meetsBad_mono {s : State} {f g : StoreWord → Bool} (h : ∀ w, g w = true → f w = true)
    (hb : meetsBad s f = false) : meetsBad s g = false := by
  simp only [meetsBad, List.any_eq_false] at hb ⊢
  exact fun w hw hg => hb w hw (h w hg)

theorem planDiffers_self (k : Nat) (o : Option PlanEntry) : planDiffers k o o = false := by
  cases o with
  | none => rfl
  | some e =>
    unfold planDiffers
    split
    · split <;> simp_all
    all_goals simp_all

theorem Rtu.rewrote_self (u : Rtu) (w : StoreWord) : u.rewrote u w = false := by
  unfold Rtu.rewrote
  split
  · exact planDiffers_self _ _
  all_goals simp

theorem State.putRtu_self (s : State) : s.putRtu s.rtu [] = s := by
  rw [State.putRtu_nil]
  simp [Rtu.rewrote_self]

theorem State.putRtu_of_bad_nil {s : State} (h : s.bad = []) (x : Rtu) (out : List Instr) :
    s.putRtu x out = { s with rtu := x, handed := s.handed ++ out } := by
  rw [State.putRtu, h, List.filter_nil]

theorem planChanged_self (u : Rtu) : planChanged u u = false := by simp [planChanged]

theorem planChanged_of_length {u v : Rtu} (h : v.plan.length ≠ u.plan.length) : planChanged u v = true := by
  have hne : planFields u.plan ≠ planFields v.plan := fun he => h (by
    have := congrArg List.length he
    simpa [planFields] using this.symm)
  simp [planChanged, hne]

/-- A route command that leaves the unit as it is, and hands on nothing. -/
theorem State.routeCommand_unchanged {s : State} {l : List SettingName} {v : Verdict}
    (h : meetsBad s (routeReads l) = false) : s.routeCommand l (s.rtu, [], v) = ⟨s, v, false⟩ := by
  simp only [State.routeCommand, h, Bool.false_eq_true, if_false, State.putRtu_self, planChanged_self]

theorem State.routeCommand_of_bad_nil {s : State} {l : List SettingName} (h : s.bad = []) (r : RouteResult) :
    s.routeCommand l r = ⟨{ s with rtu := r.1, handed := s.handed ++ r.2.1 }, r.2.2, planChanged s.rtu r.1⟩ := by
  simp only [State.routeCommand, meetsBad_of_bad_nil h, Bool.false_eq_true, if_false, State.putRtu_of_bad_nil h]

/-- A bad word among all that the route commands read is none of a command's own. -/
theorem meetsBad_routeReads {s : State} {l : List SettingName} (hl : ∀ x ∈ l, x ∈ [SettingName.repeats, .guardTime, .creep])
    (h : meetsBad s (fun w => planWords w || settingWords [.repeats, .guardTime, .creep] w) = false) :
    meetsBad s (routeReads l) = false := by
  refine meetsBad_mono (fun w hw => ?_) h
  simp only [routeReads, Bool.or_eq_true] at hw ⊢
  refine hw.imp_right fun hs => ?_
  obtain ⟨x, hx, hw⟩ := List.any_eq_true.mp hs
  exact List.any_eq_true.mpr ⟨x, hl x hx, hw⟩

theorem setCodeSettings_subset (u : Rtu) (j : Nat) :
    ∀ x ∈ setCodeSettings u j, x ∈ [SettingName.repeats, .guardTime, .creep] := by
  unfold setCodeSettings
  split
  · exact fun _ => id
  · simp

/-! #### What the unit's commands come to -/

theorem flightFor_iff {u : Rtu} {j : Nat} : flightFor u j = true ↔ ∃ f, u.inFlight = some f ∧ f.junction = j := by
  unfold flightFor
  split <;> simp_all

theorem cancelInFlight_iff {u : Rtu} {j : Nat} :
    cancelInFlight u j = true ↔ ∃ f, u.inFlight = some f ∧ f.kind = .cancel ∧ f.junction = j := by
  unfold cancelInFlight
  split <;> simp_all

theorem findEntry_of_mem {plan : List PlanEntry} {e : PlanEntry} (h : (planJunctions plan).Nodup) (he : e ∈ plan) :
    findEntry plan e.junction = some e := by
  obtain ⟨x, hx⟩ : ∃ x, findEntry plan e.junction = some x := by
    rw [← Option.ne_none_iff_exists']
    exact fun hn => findEntry_eq_none.mp hn (List.mem_map_of_mem he)
  rw [hx, List.inj_on_of_nodup_map h (findEntry_mem hx) he (findEntry_junction hx)]

theorem Rtu.sync_done {u : Rtu} (hc : u.cancels = []) (ho : ∀ e ∈ u.plan, e.updateOwed = false) :
    u.sync = .done [] := by
  simpa [Rtu.sync, hc] using ho

theorem Rtu.sync_retry {u : Rtu} (h : u.cancels ≠ [] ∨ ∃ e ∈ u.plan, e.updateOwed = true) : u.sync = .retry := by
  unfold Rtu.sync
  rw [if_neg]
  rcases h with h | ⟨e, he, ho⟩
  · simp [h]
  · simp only [Bool.and_eq_true, Bool.not_eq_true', List.any_eq_false]
    exact fun hn => hn.2 e he ho

/-- R103, R118: the entry leaves, and its CANCEL joins the list or is dropped. -/
theorem Rtu.cancelRoute_some {desk : DeskState} {cfg : Settings} {u : Rtu} {j : Nat} {e : PlanEntry}
    (hf : flightFor u j = false) (he : findEntry u.plan j = some e) :
    let plan := u.plan.filter fun x => x.junction != j
    let v := u.withPlan plan u.cancels
    let news := planHandOn desk cfg false u.plan plan
    u.cancelRoute desk cfg j =
      if u.windowOpen = true ∧ 1 ≤ e.transmissions then
        if u.cancels.length < 4 then ({ v with cancels := u.cancels ++ [⟨j, e.code⟩] }, news ++ [.owedReport], .done [])
        else ({ v with exception := some (.telegramDiscarded, j) }, news ++ [.noticeRaise .telegramDiscarded], .done [])
      else (v, news ++ [], .done []) := by
  simp only [Rtu.cancelRoute, hf, he, Bool.false_eq_true, if_false, Bool.and_eq_true, decide_eq_true_eq]
  split
  · unfold Rtu.queueCancel
    split <;> simp_all [Rtu.withPlan, Config.cancelCapacity, removeEntry]
  · rfl

section
variable {s : State} {p : Port} {cond : Bool} {args : List Byte}

/-- A command of the route unit that leaves the unit as it is: the engine answers its verdict. -/
theorem request_route_unchanged {c : CommandName} {l : List SettingName} {v : Verdict}
    (h : CommandReaches s p cond c args) (hb : meetsBad s (routeReads l) = false)
    (ha : ∀ x : State, x.rtu = s.rtu → x.dau = s.dau → x.settings = s.settings →
      commandAnswer p args x c = x.routeCommand l (x.rtu, [], v)) :
    s.request p (.command cond (commandCode c) args) =
      (⟨s.background p (.command cond (commandCode c) args), v, false⟩ : Answer).finish p cond (commandTarget c) := by
  rw [State.request_command h, ha (s.background p _) rfl rfl rfl,
    State.routeCommand_unchanged (s := s.background p _) hb]

/-- One that is answered RETRY leaves what every service leaves. -/
theorem request_route_retry {c : CommandName} {l : List SettingName} (h : CommandReaches s p cond c args)
    (hb : meetsBad s (routeReads l) = false)
    (ha : ∀ x : State, x.rtu = s.rtu → commandAnswer p args x c = x.routeCommand l (x.rtu, [], .retry)) :
    s.request p (.command cond (commandCode c) args) = s.served p ⟨.retry, .none, []⟩ :=
  (request_route_unchanged h hb fun x hx _ _ => ha x hx).trans (Answer.finish_retry _ _ _ _ _)

/-- A command of the route unit that is taken and changes the plan. -/
theorem request_route_done {c : CommandName} {l : List SettingName} {u : Rtu} {out : List Instr}
    (h : CommandReaches s p cond c args) (ht : commandTarget c = .plan) (hb : s.bad = [])
    (ha : ∀ x : State, x.rtu = s.rtu → x.dau = s.dau → x.settings = s.settings →
      commandAnswer p args x c = x.routeCommand l (u, out, .done [])) (hc : planChanged s.rtu u = true) :
    s.request p (.command cond (commandCode c) args) =
      { s.servedDone p cond true .plan with rtu := u, handed := s.handed ++ out } := by
  rw [State.request_command h, ha (s.background p _) rfl rfl rfl, State.routeCommand_of_bad_nil (s := s.background p _) hb,
    ht]
  simp only [background_rtu, hc]
  refine (Answer.finish_done_kept (q := .command cond (commandCode c) args) (by rfl) (by rfl)).trans ?_
  rfl

theorem request_routeCancel {j : Nat} (hb : s.bad = []) (hj : junctionOk j = true) (hc : Carries args (putNat16 j))
    (h : CommandReaches s p cond .routeCancel args) {u : Rtu} {out : List Instr}
    (hr : s.rtu.cancelRoute s.dau.state s.settings j = (u, out, .done [])) (hch : planChanged s.rtu u = true) :
    exec (.routeCancel p cond args) s =
      .next { s.servedDone p cond true .plan with rtu := u, handed := s.handed ++ out } := by
  have hread : readAll getJunction args = some j := (getJunction_exact.readAll_iff args j).mpr ⟨hj, hc⟩
  refine congrArg Host.Outcome.next (request_route_done (l := [.creep]) h rfl hb (fun x hu hd hs => ?_) hch)
  simp only [commandAnswer, routeCancelAnswer, hread, hu, hd, hs, hr]

end

/-- Settles O32. -/
theorem routeCancelPlanSyncAndRetry : Obligations.RouteCancelPlanSyncAndRetry := by
  unfold Obligations.RouteCancelPlanSyncAndRetry
  refine ⟨fun p cond args s hb => ⟨fun j hj hc h hfl hplan => ⟨fun hno => ?_, fun e he hej => ?_⟩,
    fun hargs h hcan hupd => ?_⟩,
    fun p cond args s hb => ⟨fun a hok hc h hpos hnew hroom hfl => ?_, fun j code hj hcode hc h hfl => ?_,
      fun j hj hc h hfl => ?_, fun hargs h howed => ?_⟩⟩
  · have hread : readAll getJunction args = some j := (getJunction_exact.readAll_iff args j).mpr ⟨hj, hc⟩
    have hf : flightFor s.rtu j = false := Bool.eq_false_iff.mpr fun hf => by
      obtain ⟨f, hs, hfj⟩ := flightFor_iff.mp hf
      exact hfl f hs hfj
    have hnone : findEntry s.rtu.plan j = none := findEntry_eq_none.mpr fun hm => by
      obtain ⟨e, he, hej⟩ := List.mem_map.mp hm
      exact hno e he hej
    refine congrArg _ ((request_route_unchanged (l := [.creep]) (v := .refused .wrongState) h
      (meetsBad_of_bad_nil hb _) fun x hu hd hs => ?_).trans (Answer.finish_refuse _ _ _ _ _ _))
    simp only [commandAnswer, routeCancelAnswer, hread, Rtu.cancelRoute, hu, hf, hnone, Bool.false_eq_true, if_false]
  · have hf : flightFor s.rtu j = false := Bool.eq_false_iff.mpr fun hf => by
      obtain ⟨f, hs, hfj⟩ := flightFor_iff.mp hf
      exact hfl f hs hfj
    subst hej
    have hr := Rtu.cancelRoute_some (desk := s.dau.state) (cfg := s.settings) hf (findEntry_of_mem hplan.2 he)
    have hch : ∀ v : Rtu, v.plan = (s.rtu.plan.filter fun x => x.junction != e.junction) →
        planChanged s.rtu v = true := fun v hv => planChanged_of_length (by
      rw [hv]
      intro hl
      have := List.length_filter_eq_length_iff.mp hl e he
      simp at this)
    intro plan u out
    simp only [planHandOn_eq] at hr
    split
    case isTrue hopen =>
      rw [if_pos hopen] at hr
      split
      case isTrue hroom =>
        rw [if_pos hroom] at hr
        rw [request_routeCancel hb hj hc h hr (hch _ rfl), ← List.append_assoc]
      case isFalse hroom =>
        rw [if_neg hroom] at hr
        rw [request_routeCancel hb hj hc h hr (hch _ rfl), ← List.append_assoc]
    case isFalse hopen =>
      rw [if_neg hopen] at hr
      rw [request_routeCancel hb hj hc h hr (hch _ rfl), ← List.append_assoc]
  · refine congrArg _ ((request_route_unchanged (l := []) (v := .done []) h (meetsBad_of_bad_nil hb _)
      fun x hu _ _ => ?_).trans ((Answer.finish_done_kept (by rfl) (by rfl)).trans rfl))
    simp only [commandAnswer, planSyncAnswer, readAll_nothing hargs, hu, Rtu.sync_done hcan hupd]
  · have hread := (getInsertArgs_exact.readAll_iff args a).mpr ⟨hok, hc⟩
    have hretry := cancelInFlight_iff.mpr hfl
    refine congrArg _ (request_route_retry (l := [.creep]) h (meetsBad_routeReads (by simp) hb) fun x hu => ?_)
    simp [commandAnswer, routeInsertAnswer, hread, Rtu.insert, hu, hnew, hretry, Nat.not_lt.mpr hpos,
      Config.planCapacity, Nat.not_le.mpr hroom]
  · have hread := (getCodeArgs_exact.readAll_iff args (j, code)).mpr ⟨⟨hj, hcode⟩, hc⟩
    have hretry := flightFor_iff.mpr hfl
    refine congrArg _ (request_route_retry h (meetsBad_routeReads (setCodeSettings_subset s.rtu j) hb) fun x hu => ?_)
    simp only [commandAnswer, routeSetCodeAnswer, hread, Rtu.setCode, hu, hretry, if_true]
  · have hread := (getJunction_exact.readAll_iff args j).mpr ⟨hj, hc⟩
    have hretry := flightFor_iff.mpr hfl
    refine congrArg _ (request_route_retry (l := [.creep]) h (meetsBad_routeReads (by simp) hb) fun x hu => ?_)
    simp only [commandAnswer, routeCancelAnswer, hread, Rtu.cancelRoute, hu, hretry, if_true]
  · refine congrArg _ (request_route_retry (l := []) h (meetsBad_routeReads (by simp) hb) fun x hu => ?_)
    simp only [commandAnswer, planSyncAnswer, readAll_nothing hargs, hu, Rtu.sync_retry howed]

end Sys2Proof.Machine

namespace Sys2Proof.Machine

/-! ### Selection (R114, R133 to R135) -/

theorem maySelect_iff {t : Tlu} :
    maySelect t = true ↔ t.transmitter = .idle ∧ t.modeView = .service ∧ t.windowOpen = true := by
  simp [maySelect, and_assoc]

theorem find_of_firstWith {α : Type} {l : List α} {good : α → Prop} {f : α → Bool} {x : α}
    (h : FirstWith l good x) (hf : ∀ y, f y = true ↔ good y) : l.find? f = some x := by
  obtain ⟨before, after, rfl, hb, hx⟩ := h
  rw [List.find?_eq_some_iff_append]
  refine ⟨(hf x).mpr hx, before, after, rfl, fun y hy => ?_⟩
  simpa using fun hy' => hb y hy ((hf y).mp hy')

theorem owesRequest_iff (e : PlanEntry) : owesRequest e = true ↔ 0 < e.requestsOwed := by simp [owesRequest]

/-- R135: the entries behind the one last requested, then those up to it. -/
theorem rotated_eq {before after : List PlanEntry} {x : PlanEntry} (h : ∀ y ∈ before, y.junction ≠ x.junction) :
    rotated (before ++ x :: after) x.junction = after ++ before ++ [x] := by
  have hidx : (before ++ x :: after).findIdx (fun e => e.junction == x.junction) = before.length := by
    rw [List.findIdx_append]
    have hno : before.findIdx (fun e => e.junction == x.junction) = before.length := by
      rw [List.findIdx_eq_length]
      simpa using h
    simp [hno, List.findIdx_cons]
  have hdrop : before.drop (before.length + 1) = [] := List.drop_eq_nil_of_le (Nat.le_succ _)
  have htake : before.take (before.length + 1) = before := List.take_of_length_le (Nat.le_succ _)
  simp [rotated, hidx, List.drop_append, List.take_append, hdrop, htake]

theorem rotate_of_rotates {plan : List PlanEntry} {last : Option Nat} {e : PlanEntry} (h : Rotates plan last e) :
    rotate plan last = some e := by
  rcases h with ⟨before, x, after, rfl, rfl, hb, hf⟩ | ⟨hno, hf⟩
  · have hfound : (findEntry (before ++ x :: after) x.junction).isSome = true := by
      simp [findEntry]
    simp only [rotate, hfound, if_true, rotated_eq hb]
    exact find_of_firstWith hf owesRequest_iff
  · have hfirst := find_of_firstWith hf owesRequest_iff
    cases last with
    | none => exact hfirst
    | some j =>
      have hnone : findEntry plan j = none := findEntry_eq_none.mpr fun hm => by
        obtain ⟨x, hx, hj⟩ := List.mem_map.mp hm
        exact hno x hx (by rw [hj])
      simp only [rotate, hnone]
      exact hfirst

theorem rotate_eq_none {plan : List PlanEntry} (h : ∀ e ∈ plan, e.requestsOwed = 0) (last : Option Nat) :
    rotate plan last = none := by
  have hno : ∀ l : List PlanEntry, (∀ e ∈ l, e ∈ plan) → l.find? owesRequest = none := fun l hl =>
    List.find?_eq_none.mpr fun e he => by simp [owesRequest, h e (hl e he)]
  unfold rotate
  split
  · split
    · refine hno _ fun e he => ?_
      rcases List.mem_append.mp he with he | he
      · exact List.mem_of_mem_drop he
      · exact List.mem_of_mem_take he
    · exact hno _ fun _ => id
  · exact hno _ fun _ => id

/-- R114: the stopping flag of an entry's telegram. -/
theorem stoppingFlag_iff {s : State} {e : PlanEntry} : stoppingFlag s.sru e.platform = true ↔ Stopping s e := by
  have hlatch : latchSet s.sru = true ↔ s.sru.list ≠ [] := by simp [latchSet]
  cases hp : e.platform with
  | none => simp [stoppingFlag, Stopping, hp]
  | some p =>
    simp only [stoppingFlag, Stopping, hp, Bool.or_eq_true, hlatch, Option.some.injEq, exists_eq_left']
    refine or_congr_right ?_
    cases s.sru.zone <;> simp

section
variable {s : State}

theorem attemptSelection_of_not_may (h : maySelect s.tlu = false) : s.attemptSelection = s := by
  simp [State.attemptSelection, h]

theorem attemptSelection_of_none (hb : s.bad = []) (h : selection s.tlu s.rtu s.rst.vehicle s.sru = none) :
    s.attemptSelection = s := by
  simp [State.attemptSelection, h, parityFaults_of_bad_nil hb, State.hand]

/-- R133, R134: a selection that takes a telegram. -/
theorem attemptSelection_of_some (hb : s.bad = []) (hm : maySelect s.tlu = true) {m : OutTelegram}
    (h : selection s.tlu s.rtu s.rst.vehicle s.sru = some m) :
    s.attemptSelection = s.sends m (if m.kind = .request then some m.junction else s.tlu.lastRequest) := by
  simp only [State.attemptSelection, hm, h, if_true, parityFaults_of_bad_nil hb]
  rw [State.putRtu_of_bad_nil (s := s.putTlu _ _) hb]
  simp only [State.putTlu, Tlu.start, State.sends, List.append_nil]

end

theorem Rtu.rewrote_windowOpen (u : Rtu) (w : StoreWord) :
    (!u.rewrote { u with windowOpen := true } w) = (u.windowOpen || w != .field .plan 4) := by
  unfold Rtu.rewrote
  split <;> simp [planDiffers_self]
  exact .inr ‹_›

/-- R133, R138: the lockdown view of the track link unit, where it stays. -/
theorem tluLockdown_of_clear {s : State} (h : s.tlu.lockView = .clear) (view : LockState) :
    s.tluLockdown view = { s with tlu := { s.tlu with lockView := view } } := by
  simp [State.tluLockdown, h, State.putTlu]

theorem tluLockdown_held (s : State) : s.tluLockdown .held = { s with tlu := { s.tlu with lockView := .held } } := by
  cases h : s.tlu.lockView <;> simp [State.tluLockdown, h, State.putTlu]

theorem tluLockdown_ends {s : State} (h : s.tlu.lockView = .held) : s.tluLockdown .clear =
    ({ s with tlu := { s.tlu with lockView := .clear } } : State).attemptSelection := by
  simp [State.tluLockdown, h, State.putTlu]

theorem openWindow_eq (s : State) : s.openWindow = ({ s with
    rtu := { s.rtu with windowOpen := true }
    tlu := { s.tlu with windowOpen := true }
    bad := s.bad.filter fun w => s.rtu.windowOpen || w != .field .plan 4 } : State).attemptSelection := by
  simp only [State.openWindow, State.putRtu_nil, State.putTlu, Rtu.rewrote_windowOpen, List.append_nil]

section
variable {s : State}

/-- R134: the oldest CANCEL goes first. -/
theorem selection_cancel {c : Cancel} {rest : List Cancel} (h : s.rtu.cancels = c :: rest) :
    selection s.tlu s.rtu s.rst.vehicle s.sru = some (cancelTelegram c s.rst.vehicle) := by
  simp only [selection, h]

theorem selection_held (h : s.rtu.cancels = []) (hv : s.tlu.lockView = .held) :
    selection s.tlu s.rtu s.rst.vehicle s.sru = none := by
  simp only [selection, h, hv]

theorem selection_update (h : s.rtu.cancels = []) (hv : s.tlu.lockView = .clear) {e : PlanEntry}
    (he : FirstWith s.rtu.plan (fun x => x.updateOwed = true) e) :
    selection s.tlu s.rtu s.rst.vehicle s.sru = some (entryTelegram .update e s.rst.vehicle s.sru) := by
  simp only [selection, h, hv, find_of_firstWith he fun _ => Iff.rfl]

/-- With no UPDATE owed the rotation decides. -/
theorem selection_request (h : s.rtu.cancels = []) (hv : s.tlu.lockView = .clear)
    (hno : ∀ e ∈ s.rtu.plan, e.updateOwed = false) : selection s.tlu s.rtu s.rst.vehicle s.sru =
      (rotate s.rtu.plan s.tlu.lastRequest).map fun e => entryTelegram .request e s.rst.vehicle s.sru := by
  have hnone : s.rtu.plan.find? (fun e => e.updateOwed) = none :=
    List.find?_eq_none.mpr fun e he => by simp [hno e he]
  simp only [selection, h, hv, hnone]

end

/-- Settles O35. -/
theorem selectionIsAttemptedAndTakesTheFirstThatApplies :
    Obligations.SelectionIsAttemptedAndTakesTheFirstThatApplies := by
  unfold Obligations.SelectionIsAttemptedAndTakesTheFirstThatApplies
  refine ⟨fun s hb => ⟨fun hno => attemptSelection_of_not_may ?_, fun ht hm hw => ?_⟩, fun s =>
    ⟨rfl, congrArg _ (openWindow_eq _), fun hg => ?_, fun hg => ?_, fun hv => 
      congrArg _ (tluLockdown_ends (s := s.take (.lockdownViewChange .tlu .clear)) hv),
      fun hv => ?_, congrArg _ (tluLockdown_held _)⟩⟩
  · rw [Bool.eq_false_iff, ne_eq, maySelect_iff]
    rintro ⟨ht, hm, hw⟩
    simp [ht, hm, hw] at hno
  · have hmay := maySelect_iff.mpr ⟨ht, hm, hw⟩
    refine ⟨fun c rest hc => attemptSelection_of_some hb hmay (selection_cancel hc),
      fun hc hv => attemptSelection_of_none hb (selection_held hc hv), fun hc hv => ⟨fun e he =>
        ⟨_, stoppingFlag_iff, attemptSelection_of_some hb hmay (selection_update hc hv he)⟩, fun hno =>
        ⟨fun e he => ⟨_, stoppingFlag_iff, attemptSelection_of_some hb hmay ?_⟩, fun h0 =>
          attemptSelection_of_none hb ?_⟩⟩⟩
    · rw [selection_request hc hv hno, rotate_of_rotates he]
      rfl
    · rw [selection_request hc hv hno, rotate_eq_none h0]
      rfl
  · obtain ⟨n, hn⟩ := Option.ne_none_iff_exists'.mp hg
    show execGapTimerExpiry s = _
    simp only [execGapTimerExpiry, State.take, hn, State.putTlu, List.append_nil]
  · show execGapTimerExpiry s = _
    simp only [execGapTimerExpiry, State.take, hg]
  · have hstay : { s.tlu with lockView := .clear } = s.tlu := by rw [← hv]
    have htlu := tluLockdown_of_clear (s := s.take (.lockdownViewChange .tlu .clear)) hv .clear
    exact congrArg Host.Outcome.next
      (htlu.trans (congrArg (fun t => { s.take (.lockdownViewChange .tlu .clear) with tlu := t }) hstay))

end Sys2Proof.Machine

namespace Sys2Proof.Machine

/-! ### Presses and stop commands (R147 to R150) -/

theorem stopBuzzer_eq (desk : DeskState) (pattern : Fin 16) : stopBuzzer desk pattern = buzzerNews desk pattern := rfl

theorem holdsWheelchair_eq (l : List StopEntry) : holdsWheelchair l = hasChair l := rfl

section
variable {l : List StopEntry} {station : Nat} {kind : StopKind}

/-- R148: a press that asks for no more than the station's entry does leaves the list. -/
theorem pressedList_of_first {e : StopEntry} (h : FirstWith l (fun x => x.station = station) e)
    (hk : e.kind = .wheelchair ∨ kind = .stop) : pressedList l station kind = l := by
  have hfind : l.find? (fun x => x.station == station) = some e := find_of_firstWith h fun x => beq_iff_eq
  have hno : ¬ (e.kind = .stop ∧ kind = .wheelchair) := by
    rintro ⟨hs, hw⟩
    rcases hk with hk | hk
    · rw [hs] at hk; cases hk
    · rw [hw] at hk; cases hk
  simp only [pressedList, hfind, if_neg hno]

theorem pressedList_new (h : ∀ x ∈ l, x.station ≠ station) : pressedList l station kind = l ++ [⟨station, kind⟩] := by
  have hfind : l.find? (fun x => x.station == station) = none :=
    List.find?_eq_none.mpr fun x hx => by simpa using h x hx
  simp only [pressedList, hfind]

theorem pressedList_raised {e : StopEntry} (h : FirstWith l (fun x => x.station = station) e) (hk : e.kind = .stop) :
    pressedList l station .wheelchair =
      l.map fun x => if x.station = station then ⟨x.station, .wheelchair⟩ else x := by
  have hfind : l.find? (fun x => x.station == station) = some e := find_of_firstWith h fun x => beq_iff_eq
  simp only [pressedList, hfind, hk, and_self, if_true]

theorem pressedList_raised_ne {e : StopEntry} (h : FirstWith l (fun x => x.station = station) e) (hk : e.kind = .stop) :
    (l.map fun x => if x.station = station then (⟨x.station, .wheelchair⟩ : StopEntry) else x) ≠ l := by
  intro heq
  obtain ⟨before, after, rfl, -, hst⟩ := h
  have hsame := List.map_inj_left.mp (heq.trans (List.map_id _).symm) e (by simp)
  rw [if_pos hst, id_eq] at hsame
  rw [← hsame] at hk
  cases hk

end

theorem lateZone_isSome (u : Sru) : (lateZone u).isSome = (u.zone.isSome && u.decision == .passAhead) := by
  unfold lateZone
  cases u.zone with
  | none => rfl
  | some z => by_cases h : u.decision = .passAhead <;> simp [h]

theorem lateZone_of_some {u : Sru} {p : Nat} (h : lateZone u = some p) : (u.zone.map (·.platform)).getD 0 = p := by
  unfold lateZone at h
  cases hz : u.zone with
  | none => simp [hz] at h
  | some z =>
    by_cases hd : u.decision = .passAhead
    · simpa [hz, hd] using h
    · simp [hz, hd] at h

/-- R148's steps after the list has changed, with the conditions as the statement of the table has them. -/
theorem Sru.pressed_eq (desk : DeskState) (cfg : Settings) (station : Nat) (list : List StopEntry) (u : Sru) :
    let late := u.zone.isSome && u.decision == .passAhead
    let platform := (u.zone.map (·.platform)).getD 0
    u.pressed desk cfg station list =
      ({ u with
          list := list
          decision := if late then .stopAhead else u.decision
          lastStop := if late then some (.late, platform)
            else if u.list = [] then some (.latched, station) else u.lastStop },
        (if u.list = [] then
            [.conditionChange .stopLatched true, .noticeRaise .stopRequest,
              .hardwareSoundAdd .stopUnit .chime cfg.uses.stopChime]
          else [])
        ++ (if late then
            [.noticeRaise .stopDecision, .lateDecisionReport platform] ++ buzzerNews desk cfg.uses.lateStop
          else if hasChair list && !hasChair u.list then buzzerNews desk cfg.uses.wheelchair else [])) := by
  intro late platform
  have hlate : (lateZone u).isSome = late := lateZone_isSome u
  cases hz : lateZone u with
  | some p =>
    rw [hz] at hlate
    have hp : platform = p := lateZone_of_some hz
    simp only [Sru.pressed, hz, ← hlate, hp, Option.isSome_some, if_true, stopBuzzer_eq]
    cases u.list <;> rfl
  | none =>
    rw [hz] at hlate
    simp only [Sru.pressed, hz, ← hlate, Option.isSome_none, Bool.false_eq_true, if_false, stopBuzzer_eq,
      holdsWheelchair_eq]
    cases u.list <;> rfl

theorem Sru.press_changed {desk : DeskState} {cfg : Settings} {station : Nat} {kind : StopKind} {u : Sru}
    {list : List StopEntry} (h : u.atStop = false) (hl : pressedList u.list station kind = list) (hne : list ≠ u.list) :
    u.press desk cfg station kind = u.pressed desk cfg station list := by
  simp only [Sru.press, h, hl, Bool.false_eq_true, if_false, if_neg hne]

/-! #### The commands and the permit event -/

theorem State.putSru_of_bad_nil {s : State} (h : s.bad = []) (x : Sru) (out : List Instr) :
    s.putSru x out = { s with sru := x, handed := s.handed ++ out } := by
  rw [State.putSru, h, List.filter_nil]

theorem State.sruEvent_of_bad_nil {s : State} (h : s.bad = []) (reads : StoreWord → Bool) (r : Sru × List Instr) :
    s.sruEvent reads r = { s with sru := r.1, handed := s.handed ++ r.2 } := by
  simp only [State.sruEvent, State.putSru_of_bad_nil h, parityFaults_of_bad_nil h, List.nil_append]

/-- R150: the record as a clear leaves it. -/
theorem Sru.clear_eq (u : Sru) : u.clear = { u with
    list := []
    decision := if u.zone.isSome then .none else u.decision
    stoppedInZone := if u.zone.isSome then true else u.stoppedInZone } := by
  unfold Sru.clear
  cases h : u.zone <;> simp

theorem Sru.clear_list (u : Sru) : u.clear.list = [] := by rw [Sru.clear_eq]

theorem latchChanges_eq (x y : Sru) : latchChanges x y = (x.list.isEmpty != y.list.isEmpty) := by
  unfold latchChanges latchSet
  cases x.list.isEmpty <;> cases y.list.isEmpty <;> rfl

/-- R147: a clear of the record changes the latch where it was set. -/
theorem latchCondition_cleared {x y : Sru} (h : y.list = []) :
    latchCondition x y = if x.list = [] then [] else [.conditionChange .stopLatched false] := by
  unfold latchCondition latchSet
  cases hx : x.list <;> simp [h]

theorem latchReport_cleared {x y : Sru} (h : y.list = []) :
    latchReport x y = if x.list = [] then [] else [.structuralChangeReport .stops] := by
  unfold latchReport latchSet
  cases hx : x.list <;> simp [h]

section
variable {s : State} {p : Port} {cond : Bool} {args : List Byte}

theorem readAll_stopKind {kind : StopKind} (hc : Carries args (putEnum stopKindList kind)) :
    readAll (getEnum stopKindList) args = some kind :=
  ((getEnum_exact (all := stopKindList)).readAll_iff args kind).mpr ⟨trivial, hc⟩

/-- The engine's part of a command, once the owner's answer is known. -/
theorem State.request_command_answer {c : CommandName} {a : Answer} (h : CommandReaches s p cond c args)
    (ha : commandAnswer p args (s.background p (.command cond (commandCode c) args)) c = a) :
    s.request p (.command cond (commandCode c) args) = a.finish p cond (commandTarget c) := by
  rw [State.request_command h, ha]

theorem stopSetAnswer_atStop {x : State} {kind : StopKind} (hb : x.bad = []) (hc : Carries args (putEnum stopKindList kind))
    (hs : x.sru.atStop = true) : stopSetAnswer args x = .refuse x .wrongState := by
  simp only [stopSetAnswer, readAll_stopKind hc, meetsBad_of_bad_nil hb, hs, Bool.false_eq_true, if_false, if_true]

theorem stopSetAnswer_taken {x : State} {kind : StopKind} (hb : x.bad = []) (hc : Carries args (putEnum stopKindList kind))
    (hs : x.sru.atStop = false) :
    let r := x.sru.press x.dau.state x.settings 0 kind
    stopSetAnswer args x = ⟨{ x with sru := r.1, handed := x.handed ++ r.2 }, .done [],
      x.sru.list.isEmpty != r.1.list.isEmpty⟩ := by
  simp only [stopSetAnswer, readAll_stopKind hc, meetsBad_of_bad_nil hb, hs, Bool.false_eq_true, if_false,
    State.putSru_of_bad_nil hb, latchChanges_eq]

theorem stopClearAnswer_taken {x : State} (hb : x.bad = []) (hn : NoArguments args) :
    stopClearAnswer args x = ⟨{ x with
      sru := x.sru.clear
      handed := x.handed ++ if x.sru.list = [] then [] else [.conditionChange .stopLatched false] },
      .done [], !x.sru.list.isEmpty⟩ := by
  simp only [stopClearAnswer, readAll_nothing hn, meetsBad_of_bad_nil hb, Bool.false_eq_true, if_false,
    State.putSru_of_bad_nil hb, latchChanges_eq, latchCondition_cleared (Sru.clear_list _), Sru.clear_list]
  simp

/-- R51, R150: each delivery of the permit event. -/
theorem exec_atStopEvent_of_bad_nil (hb : s.bad = []) (value : Bool) :
    exec (.atStopEvent value) s = .next { s with
      sru := (s.sru.atStopEvent value).1
      handed := s.handed.erase (.atStopEvent value) ++ (s.sru.atStopEvent value).2 } := by
  refine congrArg Host.Outcome.next ?_
  rw [State.sruEvent_of_bad_nil (s := s.take _) hb]
  exact State.rewrite_of_bad_nil { s with
    sru := (s.sru.atStopEvent value).1
    handed := s.handed.erase (.atStopEvent value) ++ (s.sru.atStopEvent value).2 } hb _

end

/-- Settles O40. -/
theorem pressesAndStopCommandsChangeTheStopRecord : Obligations.PressesAndStopCommandsChangeTheStopRecord := by
  unfold Obligations.PressesAndStopCommandsChangeTheStopRecord
  refine ⟨fun desk cfg station kind u => ⟨fun hs => ?_, fun hs => ⟨fun e he hk => ?_, fun list hl => ?_⟩⟩,
    fun p cond kind args s hb => ⟨fun hc h => ⟨fun hs => ?_, fun hs => ?_⟩, fun hn h => ?_, ?_, ?_⟩⟩
  · simp only [Sru.press, hs, if_true, and_self]
  · simp only [Sru.press, hs, pressedList_of_first he hk, Bool.false_eq_true, if_false, if_true]
  · rcases hl with ⟨hno, rfl⟩ | ⟨rfl, ⟨e, he, hk⟩, rfl⟩
    · exact (Sru.press_changed hs (pressedList_new hno) (by simp)).trans (Sru.pressed_eq _ _ _ _ _)
    · exact (Sru.press_changed hs (pressedList_raised he hk) (pressedList_raised_ne he hk)).trans
        (Sru.pressed_eq _ _ _ _ _)
  · exact congrArg Host.Outcome.next ((State.request_command_answer h
      (stopSetAnswer_atStop (x := s.background p _) hb hc hs)).trans (Answer.finish_refuse _ _ _ _ _ _))
  · refine congrArg Host.Outcome.next ((State.request_command_answer h
      (stopSetAnswer_taken (x := s.background p _) hb hc hs)).trans ?_)
    exact (Answer.finish_done_kept (q := .command cond (commandCode .stopSet) args) (by rfl) (by rfl)).trans rfl
  · refine congrArg Host.Outcome.next ((State.request_command_answer h
      (stopClearAnswer_taken (x := s.background p _) hb hn)).trans ?_)
    refine (Answer.finish_done_kept (q := .command cond (commandCode .stopClear) args) (by rfl) (by rfl)).trans ?_
    rw [Sru.clear_eq]
    rfl
  · rw [exec_atStopEvent_of_bad_nil hb]
    simp only [Sru.atStopEvent, if_true, latchReport_cleared (Sru.clear_list _), latchCondition_cleared (Sru.clear_list _)]
    simp only [Sru.clear_eq, List.append_assoc]
  · rw [exec_atStopEvent_of_bad_nil hb]
    simp only [Sru.atStopEvent, Bool.false_eq_true, if_false, List.append_nil]

end Sys2Proof.Machine

namespace Sys2Proof.Machine

/-! ### The characters of the loop (R142, R191) -/

/-- R142: one level read from the line, shifted into an octet; a one bit is the idle level. -/
def shiftLevel (b : Byte) (away : Bool) : Byte := (b <<< 1) ||| (if away then 0 else 1)

theorem lineOctet_eq (bits : List Bool) : lineOctet bits = (bits.take 8).foldl shiftLevel 0 := rfl

theorem getLsbD_shiftLevel_zero (b : Byte) (away : Bool) : (shiftLevel b away).getLsbD 0 = !away := by
  cases away <;> simp [shiftLevel]

theorem getLsbD_shiftLevel_succ (b : Byte) (away : Bool) {k : Nat} (hk : k + 1 < 8) :
    (shiftLevel b away).getLsbD (k + 1) = b.getLsbD k := by
  have hb : b[k] = b.getLsbD k := rfl
  cases away <;> simp [shiftLevel, hk, hb]

/-- Levels shifted in one after the other: the last stands at bit 0. -/
theorem getLsbD_shiftLevels (l : List Bool) : ∀ (acc : Byte) (k : Nat), k < 8 →
    (l.foldl shiftLevel acc).getLsbD k =
      if k < l.length then !l.getD (l.length - 1 - k) false else acc.getLsbD (k - l.length) := by
  induction l with
  | nil => intro acc k _; simp
  | cons a l ih =>
    intro acc k hk
    rw [List.foldl_cons, ih _ k hk, List.length_cons]
    rcases Nat.lt_trichotomy k l.length with h | h | h
    · obtain ⟨m, hm, hm'⟩ : ∃ m, l.length - 1 - k = m ∧ l.length + 1 - 1 - k = m + 1 := ⟨_, rfl, by omega⟩
      rw [if_pos h, if_pos (Nat.lt_succ_of_lt h), hm, hm', List.getD_cons_succ]
    · subst h
      rw [if_neg (lt_irrefl _), if_pos (Nat.lt_succ_self _), Nat.sub_self, getLsbD_shiftLevel_zero]
      simp
    · obtain ⟨m, hm, hm'⟩ : ∃ m, k - l.length = m + 1 ∧ k - (l.length + 1) = m := ⟨k - (l.length + 1), by omega, rfl⟩
      rw [if_neg (by omega), if_neg (by omega), hm, hm', getLsbD_shiftLevel_succ _ _ (by omega)]

section
variable {data rest : List Bool} (h : data.length = 8)
include h

theorem lineOctet_append : lineOctet (data ++ rest) = data.foldl shiftLevel 0 := by
  rw [lineOctet_eq, List.take_left' h]

theorem getLsbD_lineOctet {i : Nat} (hi : i < 8) :
    (lineOctet (data ++ rest)).getLsbD (7 - i) = !data.getD i false := by
  rw [lineOctet_append h, getLsbD_shiftLevels _ _ _ (by omega), h, if_pos (by omega),
    show 8 - 1 - (7 - i) = i by omega]

theorem octetBits_lineOctet : octetBits (lineOctet (data ++ rest)) = data.map fun x => !x := by
  refine List.ext_getElem (by simp [octetBits, h]) fun i hi _ => ?_
  have hi8 : i < 8 := by simpa [octetBits] using hi
  simp [octetBits, getLsbD_lineOctet h hi8, List.getElem?_eq_getElem (h ▸ hi8)]

end

/-- The parity of a list of bits. -/
theorem foldl_xor_eq (l : List Bool) : ∀ acc : Bool, l.foldl xor acc = xor acc (decide (l.countP id % 2 = 1)) := by
  induction l with
  | nil => intro acc; simp
  | cons a l ih =>
    intro acc
    rw [List.foldl_cons, ih, List.countP_cons]
    rcases Nat.mod_two_eq_zero_or_one (l.countP id) with h | h <;> cases a <;> simp [Nat.add_mod, h]

/-- R142: the nine bits of a character are even and its stop bit is idle. -/
theorem lineIntact_iff {data : List Bool} (h : data.length = 8) (parity stop : Bool) :
    lineIntact (data ++ [parity, stop]) = true ↔
      ((data ++ [parity]).countP fun b => !b) % 2 = 0 ∧ stop = false := by
  have hp : (data ++ [parity, stop]).getD 8 false = parity := by
    simp [h]
  have hs : (data ++ [parity, stop]).getD 9 false = stop := by
    simp [h]
  have hc : (data.map fun x => !x).countP id = data.countP fun b => !b := by
    rw [List.countP_map]; rfl
  rw [lineIntact, hp, hs, evenParity, octetBits_lineOctet h, foldl_xor_eq, hc, List.countP_append]
  rcases Nat.mod_two_eq_zero_or_one (data.countP fun b => !b) with hm | hm <;> cases parity <;> cases stop <;>
    simp [Nat.add_mod, hm]

/-- R142: the line bits of a character, in the model and in the statement. -/
theorem charLine_eq (b : Byte) : charLine b = lineChar b := by
  have hpar : evenParity b = (List.range 8).foldl (fun x i => xor x (b.getLsbD i)) false := by
    simp only [evenParity, octetBits, List.range_succ, List.range_zero]
    simp
    grind
  simp only [charLine, lineChar, octetBits, List.map_map, hpar]
  rfl

theorem lineOctet_charLine (b : Byte) (rest : List Bool) :
    lineOctet ((octetBits b).map (fun x => !x) ++ rest) = b := by
  have hl : ((octetBits b).map fun x => !x).length = 8 := by simp [octetBits]
  refine BitVec.eq_of_getLsbD_eq fun k hk => ?_
  have := getLsbD_lineOctet (rest := rest) hl (i := 7 - k) (by omega)
  rw [show 7 - (7 - k) = k by omega] at this
  rw [this]
  simp [octetBits, show 7 - k < 8 by omega, show 7 - (7 - k) = k by omega]

theorem lineIntact_charLine (b : Byte) :
    lineIntact ((octetBits b).map (fun x => !x) ++ [!evenParity b, false]) = true := by
  have hl : ((octetBits b).map fun x => !x).length = 8 := by simp [octetBits]
  simp only [lineIntact, lineOctet_charLine]
  simp [octetBits]

/-! ### The receiver at successive sample points (R142) -/

/-- R142: one bit period, of 16 points at one level, at a receiver that has read the last bit at its mid-sample. -/
theorem lineEvents_period {bits : List Bool} (h : bits.length < 9) (v : Bool) (rest : List Bool) :
    lineEvents ⟨0, some bits, 9⟩ (List.replicate 16 v ++ rest) =
      List.replicate 16 .none ++ lineEvents ⟨0, some (bits ++ [v]), 9⟩ rest := by
  have h' : bits.length + 1 < 10 := Nat.succ_lt_succ h
  simp [List.replicate, lineEvents, LineReceiver.sample, h']

/-- Successive bit periods of a character bring nothing until its last. -/
theorem lineEvents_periods (l : List Bool) : ∀ (bits : List Bool) (rest : List Bool), bits.length + l.length ≤ 9 →
    (lineEvents ⟨0, some bits, 9⟩ ((l.flatMap fun v => List.replicate 16 v) ++ rest)).filter (fun e => e != .none) =
      (lineEvents ⟨0, some (bits ++ l), 9⟩ rest).filter fun e => e != .none := by
  induction l with
  | nil => intro bits rest _; simp
  | cons v l ih =>
    intro bits rest h
    rw [List.length_cons] at h
    rw [List.flatMap_cons, List.append_assoc, lineEvents_period (by omega), List.filter_append,
      ih _ _ (by simp; omega), List.append_assoc]
    rfl

/-- R142: a start bit is taken at its mid-sample. -/
theorem lineEvents_start (rest : List Bool) :
    lineEvents ⟨0, none, 0⟩ (List.replicate 16 true ++ rest) =
      List.replicate 8 .none ++ .start :: (List.replicate 7 .none ++ lineEvents ⟨0, some [], 9⟩ rest) := by
  simp [List.replicate, lineEvents, LineReceiver.sample]

/-- R142: the stop bit ends the character at its mid-sample. -/
theorem lineEvents_stop {bits : List Bool} (h : bits.length = 9) :
    lineEvents ⟨0, some bits, 9⟩ (List.replicate 16 false) = List.replicate 8 .none
      ++ .char (lineOctet (bits ++ [false])) (lineIntact (bits ++ [false])) :: List.replicate 7 .none := by
  simp [List.replicate, lineEvents, LineReceiver.sample, h]

/-- R142: a character on the line is taken as its eight data bits. -/
theorem lineEvents_lineChar (b : Byte) :
    (lineEvents ⟨0, none, 0⟩ ((lineChar b).flatMap fun l => List.replicate 16 l)).filter (fun e => e != .none) =
      [.start, .char b true] := by
  have hsplit : (charLine b).flatMap (fun l => List.replicate 16 l) = List.replicate 16 true
      ++ ((((octetBits b).map fun x => !x) ++ [!evenParity b]).flatMap (fun l => List.replicate 16 l)
        ++ List.replicate 16 false) := by
    simp [charLine]
  have hlen : (((octetBits b).map fun x => !x) ++ [!evenParity b]).length = 9 := by simp [octetBits]
  have hnone : ∀ n, (List.replicate n LineEvent.none).filter (fun e => e != .none) = [] := by simp
  rw [← charLine_eq, hsplit, lineEvents_start, List.filter_append, hnone, List.nil_append,
    List.filter_cons_of_pos (by decide), List.filter_append, hnone, List.nil_append,
    lineEvents_periods _ _ _ (by simp [hlen]), List.nil_append, lineEvents_stop hlen, List.filter_append, hnone,
    List.nil_append, List.filter_cons_of_pos (by simp), hnone, List.append_assoc]
  simp only [List.singleton_append, lineOctet_charLine, lineIntact_charLine]

/-- R142: the last point of a character. -/
theorem sample_last {r : LineReceiver} {bits : List Bool} (hb : r.bits = some bits) (hw : r.wait ≤ 1)
    (hl : bits.length = 9) (away : Bool) :
    r.sample away = (⟨0, none, 0⟩, .char (lineOctet (bits ++ [away])) (lineIntact (bits ++ [away]))) := by
  simp [LineReceiver.sample, hb, Nat.not_lt.mpr hw, hl]

/-! ### The unit at a sample point (R143, R144) -/

section
variable {u : Sru} {away : Bool}

theorem lineSample_start (h : (u.line.sample away).2 = .start) :
    u.lineSample away = (Sru.startTaken { u with line := (u.line.sample away).1 }, none) := by
  simp only [Sru.lineSample, h]

theorem lineSample_char {octet : Byte} {intact : Bool} (h : (u.line.sample away).2 = .char octet intact) :
    u.lineSample away = Sru.charTaken octet intact { u with line := (u.line.sample away).1 } := by
  simp only [Sru.lineSample, h]

theorem lineSample_none (h : (u.line.sample away).2 = .none) :
    u.lineSample away = Sru.quietPoint { u with line := (u.line.sample away).1 } := by
  simp only [Sru.lineSample, h]

theorem replyFails_iff {polled : Nat} {got : List Byte} {intact : Bool} : replyFails polled got intact = true ↔
    intact = false ∨ (got.getD 0 0).toNat ≠ polled
      ∨ (got.length = 3 ∧ got.getD 2 0 ≠ crc8 [got.getD 0 0, got.getD 1 0]) := by
  simp [replyFails, or_assoc]

/-- R144: a character while no reply is awaited, or before its start bit. -/
theorem charTaken_unsolicited (octet : Byte) (intact : Bool) (h : ¬ (u.ours = true ∧ u.pollState = .receiving)) :
    u.charTaken octet intact = ({ u with unsolicited := min 255 (u.unsolicited + 1) }, none) := by
  have hb : (u.ours && u.pollState == .receiving) = false := by simpa using h
  simp only [Sru.charTaken, hb, Bool.false_eq_true, if_false, Sru.countUnsolicited, Config.countTop]

/-- R144: a character of the reply awaited. -/
theorem charTaken_ours (octet : Byte) (intact : Bool) (ho : u.ours = true) (hp : u.pollState = .receiving) :
    let got := u.got ++ [octet]
    let fails := intact = false ∨ (got.getD 0 0).toNat ≠ u.address
      ∨ (got.length = 3 ∧ got.getD 2 0 ≠ crc8 [got.getD 0 0, got.getD 1 0])
    (fails → u.charTaken octet intact = (u, some .bad)) ∧
    (¬ fails → got.length = 3 → u.charTaken octet intact =
      (u, some (.good ⟨(got.getD 1 0).getLsbD 0, (got.getD 1 0).getLsbD 1, (got.getD 1 0).getLsbD 2⟩))) ∧
    (¬ fails → got.length ≠ 3 → u.charTaken octet intact =
      ({ u with got := got, ours := false, quiet := 0 }, none)) := by
  intro got fails
  have heq : u.charTaken octet intact = if replyFails u.address got intact then (u, some .bad)
      else if got.length = 3 then (u, some (.good (replyFlags (got.getD 1 0))))
      else ({ u with got := got, ours := false, quiet := 0 }, none) := by
    simp only [Sru.charTaken, ho, hp, beq_self_eq_true, Bool.and_self, if_true, got]
  have hiff : replyFails u.address got intact = true ↔ fails := replyFails_iff
  rw [heq]
  refine ⟨fun hf => ?_, fun hf h3 => ?_, fun hf h3 => ?_⟩
  · rw [if_pos (hiff.mpr hf)]
  · rw [if_neg (mt hiff.mp hf), if_pos h3, replyFlags]
  · rw [if_neg (mt hiff.mp hf), if_neg h3]

/-- R143, R144: a sample point that brings nothing. -/
theorem quietPoint_elsewhere (h : u.pollState ≠ .receiving ∨ u.line.bits ≠ none) : u.quietPoint = (u, none) := by
  have hb : (u.pollState == .receiving && u.line.bits.isNone) = false := by
    rcases h with h | h
    · simp [h]
    · simp [Option.isNone_eq_false_iff, Option.isSome_iff_ne_none.mpr h]
  simp only [Sru.quietPoint, hb, Bool.false_eq_true, if_false]

theorem quietPoint_between (hp : u.pollState = .receiving) (hb : u.line.bits = none) :
    (u.quiet < 182 → u.quietPoint = ({ u with quiet := u.quiet + 1 }, none)) ∧
    (182 ≤ u.quiet → u.quietPoint = (u, some .bad)) := by
  have heq : u.quietPoint = if u.quiet + 1 < charGap then ({ u with quiet := u.quiet + 1 }, none) else (u, some .bad) := by
    simp only [Sru.quietPoint, hp, hb, beq_self_eq_true, Option.isNone_none, Bool.and_self, if_true]
  rw [heq]
  exact ⟨fun h => if_pos (Nat.succ_lt_succ h), fun h => if_neg (Nat.not_lt.mpr (Nat.succ_le_succ h))⟩

end

/-- R157: the unit's words are as they were: only working state has changed. -/
def SameWords (u v : Sru) : Prop :=
  v.list = u.list ∧ v.zone = u.zone ∧ v.decision = u.decision ∧ v.stoppedInZone = u.stoppedInZone
    ∧ v.lastStop = u.lastStop ∧ v.stations = u.stations ∧ v.lastHealth = u.lastHealth

theorem SameWords.rewrote {u v : Sru} (h : SameWords u v) (w : StoreWord) : u.rewrote v w = false := by
  obtain ⟨hl, hz, hd, hs, hls, hst, hh⟩ := h
  unfold Sru.rewrote
  rw [hl, hz, hd, hs, hls, hst, hh]
  split <;> simp
  unfold stationDiffers
  split <;> simp

theorem State.putSru_sameWords {s : State} {v : Sru} (h : SameWords s.sru v) : s.putSru v [] = { s with sru := v } := by
  rw [State.putSru_nil]
  simp [h.rewrote]

theorem sameWords_lineSample (u : Sru) (away : Bool) : SameWords u (u.lineSample away).1 := by
  rcases he : (u.line.sample away).2 with _ | _ | ⟨octet, intact⟩
  · rw [lineSample_none he]
    unfold Sru.quietPoint
    split
    · split <;> exact ⟨rfl, rfl, rfl, rfl, rfl, rfl, rfl⟩
    · exact ⟨rfl, rfl, rfl, rfl, rfl, rfl, rfl⟩
  · rw [lineSample_start he]
    unfold Sru.startTaken
    split <;> exact ⟨rfl, rfl, rfl, rfl, rfl, rfl, rfl⟩
  · rw [lineSample_char he]
    unfold Sru.charTaken
    split
    · dsimp only
      split
      · exact ⟨rfl, rfl, rfl, rfl, rfl, rfl, rfl⟩
      · split <;> exact ⟨rfl, rfl, rfl, rfl, rfl, rfl, rfl⟩
    · exact ⟨rfl, rfl, rfl, rfl, rfl, rfl, rfl⟩

theorem sendsOwnPoll_iff {u : Sru} : u.sendsOwnPoll = true ↔ u.pollState = .sending ∧ u.driven.length ≤ 1 := by
  simp [Sru.sendsOwnPoll]

/-- A parity fault of no noted word: what is handed on rewrites none. -/
theorem State.sruEvent_sameWords {s : State} {v : Sru} (h : SameWords s.sru v) (reads : StoreWord → Bool) :
    s.sruEvent reads (v, []) = { s with sru := v, handed := s.handed ++ parityFaults s .sru reads none } := by
  simp only [State.sruEvent, State.putSru, List.append_nil, h.rewrote, notedWords_parityFaults]
  simp

/-- Settles O42. -/
theorem repliesAreJudgedAndPollsEnd : Obligations.RepliesAreJudgedAndPollsEnd := by
  unfold Obligations.RepliesAreJudgedAndPollsEnd
  refine ⟨fun away r => ⟨fun hn => ⟨fun h0 => ?_, fun h0 h8 => ?_, fun h8 ha => ?_, fun h8 ha => ?_⟩,
      fun bits hb => ⟨fun hw => ?_, fun hw hl => ?_, fun hw hl => ?_⟩⟩,
    lineEvents_lineChar,
    fun away u => ⟨fun he => ?_, fun octet intact he => ⟨fun hno => ?_, fun ho hp => ?_⟩, fun he => ⟨fun hno => ?_,
      fun hp hbits => ?_⟩⟩,
    fun heard s => ⟨rfl, fun hne => ?_, fun away hn => ?_⟩,
    fun s => ⟨fun hp hd => ?_, fun hno => ?_, ?_⟩⟩
  · simp only [LineReceiver.sample, hn, h0, if_true]
  · simp only [LineReceiver.sample, hn, if_neg (Nat.pos_iff_ne_zero.mp h0), h8, if_true]
  · simp only [LineReceiver.sample, hn, if_neg (show r.away ≠ 0 by omega), Nat.not_lt.mpr h8, ha, if_false, if_true]
  · simp only [LineReceiver.sample, hn, if_neg (show r.away ≠ 0 by omega), Nat.not_lt.mpr h8, ha, if_false,
      Bool.false_eq_true]
  · simp only [LineReceiver.sample, hb, hw, if_true]
  · simp [LineReceiver.sample, hb, Nat.not_lt.mpr hw, show bits.length + 1 < 10 by omega]
  · refine ⟨_, _, sample_last hb hw hl away, ?_⟩
    obtain ⟨parity, hp⟩ : ∃ parity, bits.drop 8 = [parity] := List.length_eq_one_iff.mp (by simp [hl])
    have hsplit : bits = bits.take 8 ++ [parity] := by rw [← hp, List.take_append_drop]
    have h8 : (bits.take 8).length = 8 := by simp [hl]
    have hread : bits ++ [away] = bits.take 8 ++ [parity, away] := by
      conv_lhs => rw [hsplit]
      simp
    rw [hread]
    refine ⟨fun i hi => ?_, ?_⟩
    · rw [getLsbD_lineOctet h8 hi]
      simp [List.getD_eq_getElem?_getD, hi]
    · rw [lineIntact_iff h8, ← hsplit]
  · rw [lineSample_start he]
    unfold Sru.startTaken
    cases hps : u.pollState <;> simp
  · exact (lineSample_char he).trans (charTaken_unsolicited (u := { u with line := (u.line.sample away).1 }) octet intact hno)
  · rw [lineSample_char he]
    exact charTaken_ours (u := { u with line := (u.line.sample away).1 }) octet intact ho hp
  · exact (lineSample_none he).trans (quietPoint_elsewhere (u := { u with line := (u.line.sample away).1 }) hno)
  · rw [lineSample_none he]
    exact quietPoint_between (u := { u with line := (u.line.sample away).1 }) hp hbits
  · cases heard with
    | nil => exact absurd rfl hne
    | cons v rest => rfl
  · simp only [State.loopSample, hn]
    exact State.putSru_sameWords (sameWords_lineSample _ _)
  · have hgone : s.sru.pollGone = { s.sru with driven := [] } := by
      rw [Sru.pollGone, List.eq_nil_of_length_eq_zero (l := s.sru.driven.tail) (by rw [List.length_tail]; omega)]
    have hown : (s.take .pollEnd).sru.sendsOwnPoll = true := sendsOwnPoll_iff.mpr ⟨hp, hd⟩
    simp only [exec, execPollEnd, hown, if_true]
    refine congrArg Host.Outcome.next ((State.sruEvent_sameWords (s := s.take .pollEnd)
      (by exact ⟨rfl, rfl, rfl, rfl, rfl, rfl, rfl⟩) _).trans ?_)
    rw [show (s.take .pollEnd).sru.pollGone = { s.sru with driven := [] } from hgone]
    rfl
  · have hown : (s.take .pollEnd).sru.sendsOwnPoll = false := Bool.eq_false_iff.mpr fun h => by
      obtain ⟨hp, hd⟩ := sendsOwnPoll_iff.mp h
      have hd : s.sru.driven.length ≤ 1 := hd
      rcases hno with hno | hno
      · exact hno hp
      · omega
    simp only [exec, execPollEnd, hown, Bool.false_eq_true, if_false]
    exact congrArg Host.Outcome.next
      (State.putSru_sameWords (s := s.take .pollEnd) (by exact ⟨rfl, rfl, rfl, rfl, rfl, rfl, rfl⟩))
  · exact congrArg Host.Outcome.next
      (State.putSru_sameWords (s := s.take .unsolicitedCharacter) (by exact ⟨rfl, rfl, rfl, rfl, rfl, rfl, rfl⟩))

end Sys2Proof.Machine

namespace Sys2Proof.Machine

/-! ### Severe faults, acknowledgement and release (R173 to R178) -/

theorem State.putFnu_of_bad_nil {s : State} (h : s.bad = []) (x : Fnu) (out : List Instr) :
    s.putFnu x out = { s with fnu := x, handed := s.handed ++ out } := by
  rw [State.putFnu, h, List.filter_nil]

/-- With the words read good, a change of no other words repairs none. -/
theorem State.putFnu_of_good {s : State} {x : Fnu} {reads : StoreWord → Bool} (h : meetsBad s reads = false)
    (hw : ∀ w, s.fnu.rewrote x w = true → reads w = true) (out : List Instr) :
    s.putFnu x out = { s with fnu := x, handed := s.handed ++ out } := by
  have hbad : (s.bad.filter fun w => !s.fnu.rewrote x w) = s.bad := by
    rw [List.filter_eq_self]
    intro w hw'
    simp only [meetsBad, List.any_eq_false] at h
    rw [Bool.not_eq_true']
    exact Bool.eq_false_iff.mpr fun hr => h w hw' (hw w hr)
  rw [State.putFnu, hbad]

/-- A change whose words are stored whatever they held. -/
theorem State.putFnu_rewrite {s : State} {x : Fnu} {written : StoreWord → Bool}
    (hw : ∀ w, s.fnu.rewrote x w = true → written w = true) :
    (s.putFnu x []).rewrite written = { s with fnu := x, bad := s.bad.filter fun w => !written w } := by
  have hbad : (s.bad.filter fun w => !s.fnu.rewrote x w).filter (fun w => !written w) =
      s.bad.filter fun w => !written w := by
    rw [List.filter_filter]
    refine List.filter_congr fun w _ => ?_
    cases hr : s.fnu.rewrote x w with
    | false => simp
    | true => simp [hw w hr]
  rw [State.putFnu_nil, State.rewrite, hbad]

theorem locksAtOnce_iff {kind : FaultKind} : locksAtOnce kind = true ↔ LocksAtOnce kind := by
  cases kind <;> simp [locksAtOnce, LocksAtOnce]

theorem recount_eq (kind : FaultKind) (c : Capture) : recount kind c = { c with
    second := if c.second = none then some kind else c.second
    count := min 255 (c.count + 1) } := by
  cases h : c.second <;> simp [recount, h, bump, Config.countTop]

theorem Fnu.enterLockdown_clear {f : Fnu} (h : f.lock = .clear) :
    f.enterLockdown = ({ f with lock := .held }.raise .lockdownChange, lockNewsTo .held) := by
  simp only [Fnu.enterLockdown, h]
  rfl

theorem Fnu.enterLockdown_held {f : Fnu} (h : f.lock = .held) : f.enterLockdown = (f, []) := by
  simp only [Fnu.enterLockdown, h]

/-- R174: the unit as a fault with the record armed leaves it, but for lockdown. -/
def Fnu.capturing (kind : FaultKind) (source : UnitName) (context : FaultContext) (recoverable : Bool)
    (effort : Int) (desk : DeskState) (f : Fnu) : Fnu :=
  { f.raise .faultCaptured with
    armed := false
    capture := ⟨some kind, none, source, context, f.motion, desk, effort, recoverable, false, 1⟩ }

/-- R175: the unit as a fault with the record not armed leaves it, but for lockdown. -/
def Fnu.counting (kind : FaultKind) (f : Fnu) : Fnu :=
  { f with capture := { f.capture with
    second := if f.capture.second = none then some kind else f.capture.second
    count := min 255 (f.capture.count + 1) } }

section
variable {kind : FaultKind} {source : UnitName} {context : FaultContext} {recoverable : Bool} {effort : Int}
  {desk : DeskState} {f : Fnu}

theorem Fnu.severe_armed (h : f.armed = true) : f.severe kind source context recoverable effort desk =
    if locksAtOnce kind then (f.capturing kind source context recoverable effort desk).enterLockdown
    else (f.capturing kind source context recoverable effort desk, []) := by
  rw [Fnu.severe, if_pos h]
  rfl

theorem Fnu.severe_unarmed (h : f.armed = false) :
    f.severe kind source context recoverable effort desk = (f.counting kind).enterLockdown := by
  rw [Fnu.severe, if_neg (by simp [h]), recount_eq]
  rfl

end

theorem State.takeFault_of_bad_nil {s : State} (hb : s.bad = []) (kind : FaultKind) (source : UnitName)
    (context : FaultContext) (recoverable : Bool) (effort : Option Int) :
    let r := s.fnu.severe kind source context recoverable (effort.getD s.tdu.lastEffort) s.dau.state
    s.takeFault kind source context recoverable effort = { s with
      rst := { s.rst with slots := emptySlots .fault s.rst.slots }, fnu := r.1, handed := s.handed ++ r.2 } := by
  simp only [State.takeFault, parityFaults_of_bad_nil hb, ite_self, List.append_nil, State.putFnu_of_bad_nil hb,
    State.rewrite, State.emptySlotsNaming, hb, List.filter_nil]

theorem exec_severeFault_of_bad_nil {s : State} (hb : s.bad = []) {kind : FaultKind} {source : UnitName}
    {context : FaultContext} {recoverable : Bool} {effort : Option Int} {x : Fnu} {l : List Instr}
    (hx : s.fnu.severe kind source context recoverable (effort.getD s.tdu.lastEffort) s.dau.state = (x, l)) :
    exec (.severeFault kind source context recoverable effort) s = .next { s with
      rst := { s.rst with slots := emptySlots .fault s.rst.slots }
      fnu := x
      handed := s.handed.erase (.severeFault kind source context recoverable effort) ++ l } := by
  refine congrArg Host.Outcome.next ((State.takeFault_of_bad_nil (s := s.take _) hb _ _ _ _ _).trans ?_)
  simp only [State.take, hx]

theorem takeFault_bad (s : State) (kind : FaultKind) (source : UnitName) (context : FaultContext) (recoverable : Bool)
    (effort : Option Int) : ∃ f : StoreWord → Bool, (s.takeFault kind source context recoverable effort).bad =
      (s.bad.filter f).filter fun w => !captureWritten s.fnu w := ⟨_, rfl⟩

theorem captureWritten_armed {f : Fnu} (h : f.armed = true) {n : Nat} (hn : n < 10) :
    captureWritten f (.field .fault n) = true := by
  simp [captureWritten, h, fieldWords, hn]

theorem captureWritten_unarmed {f : Fnu} (h : f.armed = false) : captureWritten f (.field .fault 9) = true := by
  simp [captureWritten, h, fieldWords]

theorem captureWritten_notice {f : Fnu} (h : f.armed = true ∨ f.lock = .clear) (p : Port) {n : Nat} (hn : n = 0 ∨ n = 2) :
    captureWritten f (.notice p n) = true := by
  have hr : faultRaises f = true := by simpa [faultRaises] using h
  rcases hn with rfl | rfl <;> simp [captureWritten, hr, raisedWords]

/-- Settles O50. -/
theorem severeFaultsAreCapturedOrCounted : Obligations.SevereFaultsAreCapturedOrCounted := by
  unfold Obligations.SevereFaultsAreCapturedOrCounted
  refine ⟨fun kind source context recoverable effort s hb => ⟨fun ha hk hl => ?_, fun ha hno => ?_, fun ha hl => ?_,
    fun ha hl => ?_⟩, fun kind source context recoverable effort s t ht => ?_⟩
  · refine exec_severeFault_of_bad_nil hb ?_
    rw [Fnu.severe_armed ha, if_pos (locksAtOnce_iff.mpr hk), Fnu.enterLockdown_clear (by exact hl)]
    rfl
  · refine exec_severeFault_of_bad_nil hb ?_
    rw [Fnu.severe_armed ha]
    split
    case isTrue hk =>
      have hl : s.fnu.lock = .held := hno.resolve_left (not_not.mpr (locksAtOnce_iff.mp hk))
      rw [Fnu.enterLockdown_held (by exact hl)]
      rfl
    case isFalse => rfl
  · refine exec_severeFault_of_bad_nil hb ?_
    rw [Fnu.severe_unarmed ha, Fnu.enterLockdown_clear (by exact hl)]
    rfl
  · refine exec_severeFault_of_bad_nil hb ?_
    rw [Fnu.severe_unarmed ha, Fnu.enterLockdown_held (by exact hl)]
    rfl
  · obtain rfl : _ = t := Host.Outcome.next.inj ht
    obtain ⟨f, hbad⟩ := takeFault_bad (s.take (.severeFault kind source context recoverable effort)) kind source context
      recoverable effort
    have hwritten : ∀ w, captureWritten s.fnu w = true →
        w ∉ ((s.take (.severeFault kind source context recoverable effort)).takeFault kind source context recoverable
          effort).bad := by
      intro w hw hmem
      rw [hbad, List.mem_filter] at hmem
      have : captureWritten s.fnu w = false := by simpa using hmem.2
      rw [hw] at this
      cases this
    refine ⟨?_, fun ha n hn => hwritten _ (captureWritten_armed ha hn), fun ha => hwritten _ (captureWritten_unarmed ha),
      fun h p => ⟨hwritten _ (captureWritten_notice h p (.inl rfl)), hwritten _ (captureWritten_notice h p (.inr rfl))⟩⟩
    rw [hbad]
    exact List.filter_sublist.trans List.filter_sublist

/-! #### The port commands of the fault record -/

section
variable {x : State} {args : List Byte}

theorem meetsBad_ackReads (h : .field .fault 8 ∉ x.bad) : meetsBad x ackReads = false := by
  simp only [meetsBad, List.any_eq_false, ackReads, fieldWords, List.any_cons, List.any_nil, Bool.or_false, beq_iff_eq]
  rintro w hw rfl
  exact h hw

/-- R177: the unit as an acknowledgement leaves it. -/
def Fnu.acknowledge (f : Fnu) : Fnu := { f with armed := true, capture := { f.capture with acknowledged := true } }

theorem Fnu.ackWords_of_rewrote {f : Fnu} {w : StoreWord} (h : f.rewrote f.acknowledge w = true) : ackWords w = true := by
  unfold Fnu.rewrote at h
  split at h
  case h_9 => decide
  case h_11 => decide
  all_goals simp [Fnu.acknowledge] at h

theorem ackWords_not (w : StoreWord) : (!ackWords w) = (w != .field .fault 8 && w != .field .fault 10) := by
  simp [ackWords, fieldWords, bne]

theorem faultAckAnswer_taken (hn : NoArguments args) (hg : .field .fault 8 ∉ x.bad)
    (ha : x.fnu.capture.acknowledged = false) : faultAckAnswer args x = ⟨{ x with
      fnu := x.fnu.acknowledge
      bad := x.bad.filter fun w => w != .field .fault 8 && w != .field .fault 10 }, .done [], true⟩ := by
  have hput := State.putFnu_rewrite (s := x) fun w => Fnu.ackWords_of_rewrote (w := w)
  simp only [ackWords_not] at hput
  simp only [faultAckAnswer, readAll_nothing hn, meetsBad_ackReads hg, ha, Bool.false_eq_true, if_false]
  exact congrArg (Answer.mk · _ _) hput

theorem faultAckAnswer_refused (hn : NoArguments args) (hg : .field .fault 8 ∉ x.bad)
    (ha : x.fnu.capture.acknowledged = true) : faultAckAnswer args x = .refuse x .wrongState := by
  simp only [faultAckAnswer, readAll_nothing hn, meetsBad_ackReads hg, ha, Bool.false_eq_true, if_false, if_true]

theorem Fnu.mayRelease_iff {f : Fnu} : f.mayRelease = true ↔
    f.lock = .held ∧ f.motion = .standstill ∧ f.armed = true ∧ f.emergencyStop = false := by
  simp [Fnu.mayRelease, and_assoc]

/-- R178: the words that a release which is taken changes are among those it reads. -/
theorem Fnu.lockReleaseReads_of_rewrote {f : Fnu} (hf : f.mayRelease = true) {w : StoreWord}
    (h : f.rewrote ({ f with lock := .clear }.raise .lockdownChange) w = true) : lockReleaseReads f w = true := by
  simp only [lockReleaseReads, hf, Bool.true_and, Bool.or_eq_true]
  unfold Fnu.rewrote at h
  split at h
  case h_12 => exact .inl (by decide)
  case h_13 => exact .inr rfl
  case h_15 => exact .inr rfl
  all_goals simp [Fnu.raise, raiseIn] at h

theorem lockdownReleaseAnswer_taken (hn : NoArguments args) (hg : meetsBad x (lockReleaseReads x.fnu) = false)
    (hf : x.fnu.mayRelease = true) : lockdownReleaseAnswer args x = ⟨{ x with
      fnu := { x.fnu with lock := .clear }.raise .lockdownChange
      handed := x.handed ++ lockNewsTo .clear }, .done [], true⟩ := by
  simp only [lockdownReleaseAnswer, readAll_nothing hn, hg, hf, Bool.false_eq_true, if_false, if_true,
    State.putFnu_of_good hg fun w => Fnu.lockReleaseReads_of_rewrote hf]
  rfl

theorem lockdownReleaseAnswer_refused (hn : NoArguments args) (hg : meetsBad x (lockReleaseReads x.fnu) = false)
    (hf : x.fnu.mayRelease = false) : lockdownReleaseAnswer args x = .refuse x .wrongState := by
  simp only [lockdownReleaseAnswer, readAll_nothing hn, hg, hf, Bool.false_eq_true, if_false]

end

/-- Settles O51. -/
theorem faultAckArmsAndLockdownReleaseClears : Obligations.FaultAckArmsAndLockdownReleaseClears := by
  unfold Obligations.FaultAckArmsAndLockdownReleaseClears
  refine fun p cond args s hn => ⟨fun h hg => ⟨fun ha => ?_, fun ha => ?_⟩, fun h hg => ⟨fun hf => ?_, fun hf => ?_⟩⟩
  · refine congrArg Host.Outcome.next ((State.request_command_answer h
      (faultAckAnswer_taken (x := s.background p _) hn hg ha)).trans ?_)
    exact (Answer.finish_done_kept (q := .command cond (commandCode .faultAck) args) (by rfl) (by rfl)).trans rfl
  · exact congrArg Host.Outcome.next ((State.request_command_answer h
      (faultAckAnswer_refused (x := s.background p _) hn hg ha)).trans (Answer.finish_refuse _ _ _ _ _ _))
  · refine congrArg Host.Outcome.next ((State.request_command_answer h
      (lockdownReleaseAnswer_taken (x := s.background p _) hn hg (Fnu.mayRelease_iff.mpr hf))).trans ?_)
    exact (Answer.finish_done_kept (q := .command cond (commandCode .lockdownRelease) args) (by rfl) (by rfl)).trans rfl
  · have hno : s.fnu.mayRelease = false := Bool.eq_false_iff.mpr (mt Fnu.mayRelease_iff.mp hf)
    exact congrArg Host.Outcome.next ((State.request_command_answer h
      (lockdownReleaseAnswer_refused (x := s.background p _) hn hg hno)).trans (Answer.finish_refuse _ _ _ _ _ _))

/-! ### Notice commands (R182) -/

section
variable {x : State} {p : Port} {causes : BitVec 16} {args : List Byte}

theorem readAll_causes (hc : Carries args (putNat16 causes.toNat)) : readAll getCauses args = some causes :=
  (getCauses_exact.readAll_iff args causes).mpr ⟨trivial, hc⟩

theorem inSet_clearIn (causes : BitVec 16) (n : NoticeSets) (c : Cause) :
    (inSet (clearIn causes n).pending c = true ↔
      inSet n.pending c = true ∧ ¬ (inSet causes c = true ∧ inSet n.seen c = true)) ∧
    (inSet (clearIn causes n).seen c = true ↔ inSet n.seen c = true ∧ inSet causes c = false) := by
  have hc : causePriority c - 1 < 16 := by cases c <;> decide
  simp only [clearIn, inSet, BitVec.getLsbD_and, BitVec.getLsbD_not, hc, decide_true, Bool.true_and]
  cases n.pending.getLsbD (causePriority c - 1) <;> cases n.seen.getLsbD (causePriority c - 1) <;>
    cases causes.getLsbD (causePriority c - 1) <;> decide

theorem noticeClearAnswer_taken (hc : Carries args (putNat16 causes.toNat)) (hb : x.bad = []) :
    noticeClearAnswer p args x = ⟨{ x with fnu := x.fnu.atPort p (clearIn causes) }, .done [], true⟩ := by
  simp only [noticeClearAnswer, readAll_causes hc, meetsBad_of_bad_nil hb, Bool.false_eq_true, if_false,
    State.putFnu_of_bad_nil hb, List.append_nil]

theorem meetsBad_enableReads (h : .notice p 0 ∉ x.bad) : meetsBad x (enableReads p) = false := by
  simp only [meetsBad, List.any_eq_false, enableReads, beq_iff_eq]
  rintro w hw rfl
  exact h hw

/-- R182: of the port's words NOTICE_ENABLE changes the enabled set alone. -/
theorem Fnu.enableWritten_of_rewrote {f : Fnu} {w : StoreWord}
    (h : f.rewrote (f.atPort p (enableIn causes)) w = true) : enableWritten p w = true := by
  have hport := Fnu.portNoticeWords_of_rewrote h
  unfold Fnu.rewrote at h
  split at h
  case h_14 o =>
    obtain rfl : o = p := by simpa [portNoticeWords] using hport
    exact beq_self_eq_true _
  case h_13 o =>
    obtain rfl : o = p := by simpa [portNoticeWords] using hport
    simp [Fnu.atPort, enableIn] at h
  case h_15 o =>
    obtain rfl : o = p := by simpa [portNoticeWords] using hport
    simp [Fnu.atPort, enableIn] at h
  all_goals simp [Fnu.atPort] at h

theorem noticeEnableAnswer_taken (hc : Carries args (putNat16 causes.toNat)) (hg : .notice p 0 ∉ x.bad) :
    noticeEnableAnswer p args x = ⟨{ x with
      fnu := x.fnu.atPort p (enableIn causes)
      bad := x.bad.filter fun w => w != .notice p 1 }, .done [], true⟩ := by
  simp only [noticeEnableAnswer, readAll_causes hc, meetsBad_enableReads hg, Bool.false_eq_true, if_false,
    State.putFnu_rewrite (s := x) fun w => Fnu.enableWritten_of_rewrote (w := w)]
  rfl

end

/-- Settles O53. -/
theorem noticeClearAndEnableActOnThePortsOwnSets : Obligations.NoticeClearAndEnableActOnThePortsOwnSets := by
  unfold Obligations.NoticeClearAndEnableActOnThePortsOwnSets
  refine fun p cond causes args s hc => ⟨fun hb h => ⟨_, ?_, ?_, inSet_clearIn causes _⟩, fun hg h => ?_⟩
  · refine congrArg Host.Outcome.next ((State.request_command_answer h
      (noticeClearAnswer_taken (x := s.background p _) hc hb)).trans ?_)
    exact (Answer.finish_done_kept (q := .command cond (commandCode .noticeClear) args) (by rfl) (by rfl)).trans rfl
  · rfl
  · refine congrArg Host.Outcome.next ((State.request_command_answer h
      (noticeEnableAnswer_taken (x := s.background p _) hc hg)).trans ?_)
    exact (Answer.finish_done_kept (q := .command cond (commandCode .noticeEnable) args) (by rfl) (by rfl)).trans rfl

end Sys2Proof.Machine

namespace Sys2Proof.Machine

/-! ### CONFIG_COMMIT (R52, R189) -/

/-- A command refused with STORE_ERROR: what every refusal leaves, and the owner's faults. -/
theorem Answer.finish_storeError (s : State) (p : Port) (q : Request) (cond : Bool) (r : Record) (u : UnitName)
    (reads : StoreWord → Bool) : (Answer.storeError (s.background p q) u reads).finish p cond r =
      { s.servedRefused p cond .storeError with handed := s.handed ++ parityFaults s u reads none } := by
  have hsame : (Answer.storeError (s.background p q) u reads).finish p cond r =
      { (Answer.refuse (s.background p q) .storeError).finish p cond r with
        handed := s.handed ++ parityFaults s u reads none } := by
    cases cond <;> rfl
  rw [hsame, Answer.finish_refuse]

/-- A request that its owner takes and that changes the mode. -/
theorem Answer.finish_done_mode {s x : State} {p : Port} {q : Request} {cond changed : Bool} {r : Record} {m : Mode}
    (hpif : x.pif = (s.background p q).pif) (hrst : x.rst = { (s.background p q).rst with mode := m }) :
    (⟨x, .done [], changed⟩ : Answer).finish p cond r = { x with
      pif := (s.servedDone p cond changed r).pif
      rst := { (s.servedDone p cond changed r).rst with mode := m } } := by
  rw [Answer.finish_done, hpif, hrst, background_pif_set, background_returned]
  simp only [background_passOver]
  rfl

theorem sourceCommits_iff {t : MatrixTables} {src : PermitSource} : sourceCommits t src = true ↔ Commits t src := by
  cases src <;> simp [sourceCommits, Commits]

theorem mayCommit_iff {t : MatrixTables} : mayCommit t = true ↔
    ∀ x ∈ [Permit.keyA, .keyB, .tractionPermit, .atStop], Commits t t.permits[permitIndex x].source := by
  simp only [mayCommit, checkedPermits, List.all_eq_true, sourceCommits_iff]

theorem keepsLevel_iff {x y : LineEntry} :
    keepsLevel x y = true ↔ x.group = .plainInput ∧ y.group = .plainInput ∧ x.debounce = y.debounce := by
  simp [keepsLevel, and_assoc]

/-- R143: the unit as the first poll begins. -/
theorem Sru.beginPoll_one (u : Sru) : u.beginPoll 1 = u.polls 1 (u.stations[(0 : Fin 24)]).ackDue := by
  have hline : ∀ q : Poll, pollLine q = (pollOctets q).flatMap lineChar := fun q => by
    rw [pollLine, funext charLine_eq]
  have hpoll : composePoll 1 u = ⟨1, (u.stations[(0 : Fin 24)]).ackDue, lampFor u.list⟩ := by
    have hat : stationAt u 1 = some (u.stations[(0 : Fin 24)]) := Vector.getElem?_eq_getElem _
    rw [composePoll, hat]
    have hlamp : lampCommand u.list = lampFor u.list := by
      unfold lampCommand lampFor
      cases u.list <;> rfl
    rw [hlamp]
    rfl
  simp only [Sru.beginPoll, Sru.polls, hline, hpoll]

theorem selection_startPolling (t : Tlu) (r : Rtu) (v : Vehicle) (cfg : Settings) (u : Sru) :
    selection t r v (u.startPolling cfg) = selection t r v u := by
  unfold Sru.startPolling
  split <;> rfl

/-- R133: what a selection does to the two units depends on no more than them, the vehicle and the stop record. -/
theorem attemptSelection_congr {x y : State} (ht : x.tlu = y.tlu) (hr : x.rtu = y.rtu)
    (hs : selection x.tlu x.rtu x.rst.vehicle x.sru = selection y.tlu y.rtu y.rst.vehicle y.sru) :
    x.attemptSelection.tlu = y.attemptSelection.tlu ∧ x.attemptSelection.rtu = y.attemptSelection.rtu := by
  rw [ht, hr] at hs
  simp only [State.attemptSelection, ht, hr, hs]
  split
  · cases selection y.tlu y.rtu y.rst.vehicle y.sru <;> simp [State.putTlu, State.putRtu, State.hand, ht, hr]
  · exact ⟨ht, hr⟩

theorem State.sduEvent_of_bad_nil {s : State} (h : s.bad = []) (reads : StoreWord → Bool) (r : Sdu × List Instr) :
    s.sduEvent reads r = { s with sdu := r.1, handed := s.handed ++ r.2 } := by
  simp only [State.sduEvent, State.sound, State.putSdu, parityFaults_of_bad_nil h, driveFaults_of_bad_nil h,
    List.nil_append, List.append_nil]
  rw [h, List.filter_nil]

theorem State.settleFrom_of_bad_nil {s : State} (h : s.bad = []) (l : Lmu) :
    s.settleFrom l = { s with lmu := l.settle.1, handed := s.handed ++ l.settle.2 } := by
  simp only [State.settleFrom, State.putLmu, parityFaults_of_bad_nil h, List.nil_append]

/-- R169, R189: the last part of a commit: what stands asks for its sounds. -/
def State.offerSounds (s : State) : State :=
  (s.sduEvent (commitSoundReads s.settings s.sdu) (s.sdu.commit s.settings)).rewrite
    (offersWritten s.settings (commitOffers s.settings s.sdu) s.sdu)

theorem State.offerSounds_of_bad_nil {s : State} (h : s.bad = []) : s.offerSounds = { s with
    sdu := (s.sdu.commit s.settings).1, handed := s.handed ++ (s.sdu.commit s.settings).2 } := by
  rw [State.offerSounds, State.sduEvent_of_bad_nil h]
  simp only [State.rewrite, h, List.filter_nil]

/-- R189: a commit up to the selection it attempts, with no bad word. -/
def State.committed (x : State) : State := { x with
  rst := { x.rst with mode := .service }
  lmu := x.lmu.commit.settle.1
  sru := x.sru.startPolling x.settings
  tlu := { x.tlu with modeView := .service }
  handed := x.handed ++ x.lmu.commit.settle.2 }

theorem State.commit_eq {x : State} (hb : x.bad = []) : x.commit = x.committed.attemptSelection.offerSounds := by
  have hstart : ((((x.setMode .service).rewrite activeWords).settleFrom x.lmu.commit).sruEvent (startReads x.settings)
      (x.sru.startPolling x.settings, [])).putTlu { x.tlu with modeView := .service } [] = x.committed := by
    rw [State.rewrite_of_bad_nil (s := x.setMode .service) hb, State.settleFrom_of_bad_nil (s := x.setMode .service) hb,
      State.sruEvent_of_bad_nil (by exact hb)]
    simp only [State.putTlu, List.append_nil]
    rfl
  exact congrArg (fun s : State => s.attemptSelection.offerSounds) hstart

/-- R189: the parts of a commit, with no bad word. -/
theorem State.commit_of_bad_nil {x : State} (hb : x.bad = []) :
    let sent := ({ x with tlu := { x.tlu with modeView := .service } } : State).attemptSelection
    x.commit = { x.committed with
      tlu := sent.tlu
      rtu := sent.rtu
      sdu := (x.sdu.commit x.settings).1
      handed := x.handed ++ x.lmu.commit.settle.2 ++ (x.sdu.commit x.settings).2 } := by
  intro sent
  have hsent : x.committed.attemptSelection = { x.committed with tlu := sent.tlu, rtu := sent.rtu } := by
    obtain ⟨ht, hr⟩ := attemptSelection_congr (x := x.committed)
      (y := ({ x with tlu := { x.tlu with modeView := .service } } : State)) rfl rfl (selection_startPolling _ _ _ _ _)
    rw [attemptSelection_frame (s := x.committed) hb, ht, hr]
  rw [State.commit_eq hb, hsent, State.offerSounds_of_bad_nil (by exact hb)]
  rfl

section
variable {s x : State} {p : Port} {cond : Bool} {args : List Byte}

theorem configCommitAnswer_mode_bad (hn : NoArguments args) (hm : meetsBad x modeWord = true) :
    configCommitAnswer args x = .storeError x .rst modeWord := by
  simp only [configCommitAnswer, readAll_nothing hn, hm, if_true]

theorem configCommitAnswer_service (hn : NoArguments args) (hm : meetsBad x modeWord = false) (hs : x.rst.mode = .service) :
    configCommitAnswer args x = .refuse x .wrongState := by
  have hne : (x.rst.mode != .configuring) = true := by rw [hs]; rfl
  simp only [configCommitAnswer, readAll_nothing hn, hm, hne, Bool.false_eq_true, if_false, if_true]

/-- R189: past the first check. -/
theorem configCommitAnswer_configuring (hn : NoArguments args) (hm : meetsBad x modeWord = false)
    (hs : x.rst.mode = .configuring) : configCommitAnswer args x =
      if mayCommit x.lmu.written then
        if meetsBad x writtenTables then .storeError x .rst writtenTables else ⟨x.commit, .done [], true⟩
      else .refuse x .configIncomplete := by
  have hne : (x.rst.mode != .configuring) = false := by rw [hs]; rfl
  simp only [configCommitAnswer, readAll_nothing hn, hm, hne, Bool.false_eq_true, if_false]
  cases mayCommit x.lmu.written <;> rfl

/-- R169: the offers of a commit, one after the other. -/
theorem Sdu.commit_eq (cfg : Settings) (u : Sdu) :
    let a := if u.hornDirect then u.hardwareAdd cfg .matrix .horn cfg.uses.hornDirect else (u, [])
    let b := if u.bellDirect then a.1.hardwareAdd cfg .matrix .bell cfg.uses.bellDirect else (a.1, [])
    let c := if u.lockView = .held then b.1.hardwareAdd cfg .lockdown .buzzerA cfg.uses.lockdown else (b.1, [])
    let d := if u.lockView = .held then c.1.hardwareAdd cfg .lockdown .buzzerB cfg.uses.lockdown else (c.1, [])
    u.commit cfg = (d.1, a.2 ++ b.2 ++ c.2 ++ d.2) := by
  simp only [Sdu.commit, commitOffers, Sdu.addAll_append, lockdownOffers]
  cases u.hornDirect <;> cases u.bellDirect <;> cases u.lockView <;> simp

theorem Lmu.commit_levels (l : Lmu) (n : Fin 32) :
    let keeps := l.active.lines[n].group = .plainInput ∧ l.written.lines[n].group = .plainInput
      ∧ l.active.lines[n].debounce = l.written.lines[n].debounce
    (keeps → l.commit.taken[n] = l.taken[n] ∧ l.commit.debounce[n] = l.debounce[n]) ∧
    (¬ keeps → l.commit.debounce[n] = none
      ∧ (l.written.lines[n].group = .plainInput → l.commit.taken[n] = l.raw[n])) := by
  intro keeps
  have hiff : keepsLevel l.active.lines[n] l.written.lines[n] = true ↔ keeps := keepsLevel_iff
  have ht : l.commit.taken[n] = if keepsLevel l.active.lines[n] l.written.lines[n] then l.taken[n]
      else if isPlain l.written.lines[n] then l.raw[n] else false := Vector.getElem_ofFn _
  have hd : l.commit.debounce[n] = if keepsLevel l.active.lines[n] l.written.lines[n] then l.debounce[n] else none :=
    Vector.getElem_ofFn _
  rw [ht, hd]
  refine ⟨fun hk => ?_, fun hk => ⟨?_, fun hp => ?_⟩⟩
  · rw [if_pos (hiff.mpr hk), if_pos (hiff.mpr hk)]
    exact ⟨rfl, rfl⟩
  · rw [if_neg (mt hiff.mp hk)]
  · rw [if_neg (mt hiff.mp hk), if_pos (show isPlain l.written.lines[n] = true from beq_iff_eq.mpr hp)]

end

/-- Settles O55. -/
theorem configCommitChecksInOrderAndStartsService : Obligations.ConfigCommitChecksInOrderAndStartsService := by
  unfold Obligations.ConfigCommitChecksInOrderAndStartsService
  intro p cond args s hn h w valid
  have hvalid : mayCommit s.lmu.written = true ↔ valid := mayCommit_iff
  refine ⟨fun hm => ?_, fun hs hm => ?_, fun hs hm hv => ?_, fun hs hm hv ht => ?_, fun hs hv hb => ?_⟩
  · exact congrArg Host.Outcome.next ((State.request_command_answer h
      (configCommitAnswer_mode_bad (x := s.background p _) hn hm)).trans (Answer.finish_storeError _ _ _ _ _ _ _))
  · exact congrArg Host.Outcome.next ((State.request_command_answer h
      (configCommitAnswer_service (x := s.background p _) hn hm hs)).trans (Answer.finish_refuse _ _ _ _ _ _))
  · exact congrArg Host.Outcome.next ((State.request_command_answer h
      ((configCommitAnswer_configuring (x := s.background p _) hn hm hs).trans (if_neg (mt hvalid.mp hv)))).trans
        (Answer.finish_refuse _ _ _ _ _ _))
  · exact congrArg Host.Outcome.next ((State.request_command_answer h
      ((configCommitAnswer_configuring (x := s.background p _) hn hm hs).trans
        ((if_pos (hvalid.mpr hv)).trans (if_pos ht)))).trans (Answer.finish_storeError _ _ _ _ _ _ _))
  · refine ⟨s.lmu.commit, rfl, Lmu.commit_levels s.lmu, ?_⟩
    have hm : meetsBad s modeWord = false := meetsBad_of_bad_nil hb _
    have ht : ¬ meetsBad s writtenTables = true := by rw [meetsBad_of_bad_nil hb]; decide
    let x := s.background p (.command cond (commandCode .configCommit) args)
    have hanswer : configCommitAnswer args x = ⟨x.commit, .done [], true⟩ :=
      (configCommitAnswer_configuring (x := x) hn hm hs).trans ((if_pos (hvalid.mpr hv)).trans (if_neg ht))
    rw [State.commit_of_bad_nil (x := x) hb, Sdu.commit_eq] at hanswer
    refine congrArg Host.Outcome.next ((State.request_command_answer h hanswer).trans
      ((Answer.finish_done_mode (q := .command cond (commandCode .configCommit) args) (by rfl) (by rfl)).trans ?_))
    obtain ⟨htlu, hrtu⟩ := attemptSelection_congr
      (x := ({ x with tlu := { x.tlu with modeView := .service } } : State))
      (y := ({ s with tlu := { s.tlu with modeView := .service } } : State)) rfl rfl rfl
    rw [htlu, hrtu]
    have hpoll : x.committed.sru = if s.settings.stationCount = 0 then s.sru
        else s.sru.polls 1 (s.sru.stations[(0 : Fin 24)]).ackDue := by
      rw [← Sru.beginPoll_one]
      rfl
    rw [hpoll]
    simp only [List.append_assoc]
    rfl

end Sys2Proof.Machine

namespace Sys2Proof.Machine

/-! ### What the units with a share of the teardown hand on (R23, R32) -/

/-- No desk state change and no unit's share of a teardown is among these. -/
def Quiet (l : List Instr) : Prop := ∀ x ∈ l, deskEvent x = false

@[simp] theorem quiet_nil : Quiet [] := fun _ h => by cases h

@[simp] theorem quiet_cons {x : Instr} {l : List Instr} : Quiet (x :: l) ↔ deskEvent x = false ∧ Quiet l :=
  List.forall_mem_cons

@[simp] theorem quiet_append {l m : List Instr} : Quiet (l ++ m) ↔ Quiet l ∧ Quiet m := List.forall_mem_append

theorem Quiet.ite {p : Prop} [Decidable p] {l m : List Instr} (hl : Quiet l) (hm : Quiet m) : Quiet (if p then l else m) := by
  split
  · exact hl
  · exact hm

@[simp] theorem quiet_parityFaults (s : State) (u : UnitName) (reads : StoreWord → Bool) (effort : Option Int) :
    Quiet (parityFaults s u reads effort) := by
  intro x hx
  obtain ⟨w, -, rfl⟩ := List.mem_map.mp hx
  rfl

theorem Quiet.filter {l : List Instr} (h : Quiet l) : l.filter deskEvent = [] :=
  List.filter_eq_nil_iff.mpr fun x hx => by simp [h x hx]

/-! #### The traction unit -/

@[simp] theorem quiet_lockReport (x y : Tdu) : Quiet (lockReport x y) := .ite quiet_nil (by simp [deskEvent])

theorem quiet_publishTaken (desk : DeskState) (x y : Tdu) : Quiet (publishTaken desk x y) :=
  .ite quiet_nil (by simp [deskEvent])

theorem Tdu.moving_quiet (desk : DeskState) (cfg : Settings) (t : Tdu) : Quiet (t.moving desk cfg).2 := by
  unfold Tdu.moving
  cases desk with
  | active d =>
    dsimp only
    split
    · split <;> simp [addWarning, deskEvent]
    all_goals exact quiet_nil
  | releasing _ => exact quiet_nil
  | noDesk => exact quiet_nil

theorem Tdu.standstillVigilance_quiet (desk : DeskState) (t : Tdu) : Quiet (t.standstillVigilance desk).2 := by
  unfold Tdu.standstillVigilance
  split
  case h_3 => cases deskHolder desk <;> simp [removeWarning, deskEvent]
  all_goals exact quiet_nil

theorem Tdu.standstill_quiet (desk : DeskState) (t : Tdu) : Quiet (t.standstill desk).2 := by
  unfold Tdu.standstill
  dsimp only
  split
  · simp [Tdu.standstillVigilance_quiet, quiet_publishTaken]
  · exact Tdu.standstillVigilance_quiet desk _

theorem Tdu.pedal_quiet (desk : DeskState) (cfg : Settings) (d : Desk) (value : Bool) (t : Tdu) :
    Quiet (t.pedal desk cfg d value).2 := by
  unfold Tdu.pedal
  dsimp only
  split
  · split
    · exact quiet_nil
    all_goals split <;> simp [addWarning, removeWarning, deskEvent]
  · exact quiet_nil

theorem Tdu.endVigilance_quiet (former : Option Desk) (t : Tdu) : Quiet (t.endVigilance former).2 := by
  have hnow : Quiet (Tdu.endVigilance.endNow former t).2 := by
    unfold Tdu.endVigilance.endNow
    cases former <;> simp [removeWarning, deskEvent]
  unfold Tdu.endVigilance
  split
  · exact quiet_nil
  all_goals exact hnow

theorem Tdu.deskState_quiet (cfg : Settings) (new : DeskState) (t : Tdu) : Quiet (t.deskState cfg new).2 := by
  unfold Tdu.deskState
  cases new with
  | active d => simp [deskEvent]
  | releasing d => simp [Tdu.endVigilance_quiet]
  | noDesk => simp

theorem Tdu.teardown_quiet (cfg : Settings) (former : Desk) (t : Tdu) : Quiet (t.teardown cfg former).2 := by
  simp [Tdu.teardown, Tdu.endVigilance_quiet, deskEvent]

/-! #### The route unit -/

theorem quiet_guardHandOn (creep : Int) (old new : List PlanEntry) : Quiet (guardHandOn creep old new) := by
  unfold guardHandOn
  dsimp only
  exact quiet_append.mpr ⟨.ite quiet_nil (by simp [deskEvent]), .ite quiet_nil (by simp [deskEvent])⟩

theorem quiet_planHandOn (desk : DeskState) (cfg : Settings) (became : Bool) (old new : List PlanEntry) :
    Quiet (planHandOn desk cfg became old new) := by
  have halert : Quiet (alertHandOn desk cfg became old new) := by
    unfold alertHandOn
    split
    · exact quiet_nil
    · exact .ite (by simp [addAlert, deskEvent]) (.ite (by simp [deskEvent]) quiet_nil)
  simp [planHandOn, quiet_guardHandOn, halert, deskEvent]

theorem Rtu.deskState_quiet (desk : DeskState) (cfg : Settings) (new : DeskState) (u : Rtu) :
    Quiet (u.deskState desk cfg new) := by
  unfold Rtu.deskState
  cases new with
  | active d => exact .ite (by simp [addAlert, deskEvent]) quiet_nil
  | releasing _ => exact quiet_nil
  | noDesk => exact quiet_nil

theorem Rtu.arm_quiet (desk : DeskState) (cfg : Settings) (j : Nat) (u : Rtu) : Quiet (u.arm desk cfg j).2 := by
  unfold Rtu.arm
  split
  · simp [deskEvent]
  · split
    · exact quiet_append.mpr ⟨quiet_append.mpr ⟨.ite (by simp [deskEvent]) quiet_nil, quiet_planHandOn _ _ _ _ _⟩,
        by simp [deskEvent]⟩
    · exact quiet_nil

theorem Rtu.clearance_quiet (desk : DeskState) (cfg : Settings) (j : Nat) (u : Rtu) :
    Quiet (u.clearance desk cfg j).2 := by
  unfold Rtu.clearance
  split
  · simp [deskEvent]
  · exact quiet_cons.mpr ⟨rfl, quiet_append.mpr ⟨quiet_planHandOn _ _ _ _ _, .ite quiet_nil (by simp [deskEvent])⟩⟩

theorem Rtu.lateDecision_quiet (p : Nat) (u : Rtu) : Quiet (u.lateDecision p).2 := by
  unfold Rtu.lateDecision
  split
  · exact quiet_nil
  · split
    · exact .ite (by simp [deskEvent]) quiet_nil
    · simp [deskEvent]

theorem Rtu.windowClose_quiet (u : Rtu) : Quiet u.windowClose.2 := by
  unfold Rtu.windowClose
  dsimp only
  split <;> simp [deskEvent]

theorem Rtu.queueCancels_quiet (l : List Cancel) : ∀ u : Rtu, Quiet (Rtu.queueCancels l u).2 := by
  induction l with
  | nil => exact fun _ => quiet_nil
  | cons c l ih =>
    intro u
    have hone : Quiet (u.queueCancel c).2 := by
      unfold Rtu.queueCancel
      split <;> simp [deskEvent]
    exact quiet_append.mpr ⟨hone, ih _⟩

theorem Rtu.teardown_quiet (cfg : Settings) (u : Rtu) : Quiet (u.teardown cfg).2 := by
  have hflush : Quiet (flushHandOn cfg u.plan) :=
    quiet_append.mpr ⟨quiet_guardHandOn _ _ _, .ite quiet_nil (by simp [deskEvent])⟩
  unfold Rtu.teardown
  dsimp only
  refine quiet_append.mpr ⟨?_, hflush⟩
  split
  · exact Rtu.queueCancels_quiet _ _
  · exact quiet_nil

/-! #### The stop request unit -/

theorem quiet_stopBuzzer (desk : DeskState) (pattern : Fin 16) : Quiet (stopBuzzer desk pattern) := by
  unfold stopBuzzer
  split <;> simp [deskEvent]

theorem quiet_latchCondition (x y : Sru) : Quiet (latchCondition x y) := .ite quiet_nil (by simp [deskEvent])

theorem quiet_latchReport (x y : Sru) : Quiet (latchReport x y) := .ite quiet_nil (by simp [deskEvent])

theorem Sru.atStopEvent_quiet (value : Bool) (u : Sru) : Quiet (u.atStopEvent value).2 := by
  unfold Sru.atStopEvent
  dsimp only
  split
  · exact quiet_append.mpr ⟨quiet_latchReport _ _, quiet_latchCondition _ _⟩
  · exact quiet_nil

theorem Sru.zoneEnter_quiet (desk : DeskState) (cfg : Settings) (p : Nat) (mandatory : Bool) (u : Sru) :
    Quiet (u.zoneEnter desk cfg p mandatory).2 :=
  quiet_cons.mpr ⟨rfl, .ite (quiet_stopBuzzer _ _) quiet_nil⟩

theorem Sru.zoneLeave_quiet (p : Nat) (u : Sru) : Quiet (u.zoneLeave p).2 := by
  unfold Sru.zoneLeave
  split
  · exact quiet_nil
  · split
    · exact .ite (by simp [deskEvent]) quiet_nil
    · exact quiet_nil

/-! #### The sound unit -/

section
variable (cfg : Settings)

theorem Sdu.endPhase_quiet (q : SoundRequest) (u : Sdu) : Quiet (u.endPhase cfg q).2 := by
  unfold Sdu.endPhase
  dsimp only
  split
  · exact quiet_nil
  · split
    · exact quiet_nil
    · split
      · exact quiet_nil
      · split <;> simp [deskEvent]

theorem Sdu.passZero_quiet (snd : Sounder) (n : Nat) : ∀ u : Sdu, Quiet (u.passZero cfg snd n).2 := by
  induction n with
  | zero => exact fun _ => quiet_nil
  | succ n ih =>
    intro u
    unfold Sdu.passZero
    split
    · exact quiet_nil
    · split
      · exact quiet_nil
      · exact quiet_append.mpr ⟨Sdu.endPhase_quiet cfg _ u, ih _⟩

theorem Sdu.settlePhase_quiet (snd : Sounder) (u : Sdu) : Quiet (u.settlePhase cfg snd).2 := u.passZero_quiet cfg snd 64

theorem Sdu.free_quiet (snd : Sounder) (u : Sdu) : Quiet (u.free cfg snd).2 := Sdu.settlePhase_quiet cfg snd _

theorem Sdu.join_quiet (q : SoundRequest) (u : Sdu) : Quiet (u.join cfg q).2 := by
  unfold Sdu.join
  dsimp only
  split
  · exact Sdu.settlePhase_quiet cfg _ _
  · split
    · exact Sdu.settlePhase_quiet cfg _ _
    · exact quiet_nil

theorem Sdu.remove_quiet (src : SoundSource) (snd : Sounder) (u : Sdu) : Quiet (u.remove cfg src snd).2 := by
  unfold Sdu.remove
  dsimp only
  split
  · exact Sdu.free_quiet cfg _ _
  · exact quiet_nil

theorem Sdu.replace_quiet (q : SoundRequest) (u : Sdu) : Quiet (u.replace cfg q).2 := by
  unfold Sdu.replace
  dsimp only
  split
  · exact Sdu.free_quiet cfg _ _
  · exact Sdu.join_quiet cfg _ _

theorem Sdu.offer_quiet (q : SoundRequest) (u : Sdu) {r : Sdu × List Instr} (h : u.offer cfg q = some r) : Quiet r.2 := by
  unfold Sdu.offer at h
  split at h
  · cases h
    exact Sdu.replace_quiet cfg _ _
  · split at h
    · cases h
      exact Sdu.join_quiet cfg _ _
    · split at h
      · cases h
        simp [Sdu.remove_quiet, Sdu.join_quiet, deskEvent]
      · cases h

theorem Sdu.hardwareAdd_quiet (src : SoundSource) (snd : Sounder) (pattern : Fin 16) (u : Sdu) :
    Quiet (u.hardwareAdd cfg src snd pattern).2 := by
  unfold Sdu.hardwareAdd
  split
  · simp [deskEvent]
  · split
    next h => exact quiet_cons.mpr ⟨rfl, Sdu.offer_quiet cfg _ _ h⟩
    next => simp [deskEvent]

theorem Sdu.hardwareRemove_quiet (src : SoundSource) (snd : Sounder) (u : Sdu) :
    Quiet (u.hardwareRemove cfg src snd).2 := by
  unfold Sdu.hardwareRemove
  split
  · exact quiet_cons.mpr ⟨rfl, Sdu.remove_quiet cfg _ _ _⟩
  · exact quiet_nil

theorem Sdu.addAll_quiet (l : List SoundOffer) : ∀ u : Sdu, Quiet (u.addAll cfg l).2 := by
  induction l with
  | nil => exact fun _ => quiet_nil
  | cons o l ih => exact fun u => quiet_append.mpr ⟨Sdu.hardwareAdd_quiet cfg _ _ _ _, ih _⟩

theorem Sdu.lockdown_quiet (view : LockState) (u : Sdu) : Quiet (u.lockdown cfg view).2 := by
  cases view with
  | held => exact Sdu.addAll_quiet cfg _ _
  | clear => exact quiet_append.mpr ⟨Sdu.hardwareRemove_quiet cfg _ _ _, Sdu.hardwareRemove_quiet cfg _ _ _⟩

theorem Sdu.direct_quiet (k : DirectSound) (value : Bool) (u : Sdu) : Quiet (u.direct cfg k value).2 := by
  unfold Sdu.direct
  dsimp only
  split
  · exact Sdu.hardwareAdd_quiet cfg _ _ _ _
  · exact Sdu.hardwareRemove_quiet cfg _ _ _

theorem Sdu.freeLost_quiet (l : List Sounder) : ∀ u : Sdu, Quiet (u.freeLost cfg l).2 := by
  induction l with
  | nil => exact fun _ => quiet_nil
  | cons snd l ih =>
    intro u
    unfold Sdu.freeLost
    dsimp only
    refine quiet_append.mpr ⟨?_, ih _⟩
    split
    · exact Sdu.free_quiet cfg snd u
    · exact quiet_nil

end

/-! #### The location unit -/

theorem Lcu.fire_quiet (cfg : Settings) (entry : Nat) (beacon : BitVec 12) (a : ActionSpec) (l : Lcu) :
    Quiet (l.fire cfg entry beacon a).2 := by
  unfold Lcu.fire
  split
  · exact quiet_append.mpr ⟨.ite quiet_nil (by simp [deskEvent]), by simp [deskEvent]⟩
  all_goals simp [deskEvent]

theorem fireDue_quiet (cfg : Settings) (as : List PendingAction) : ∀ l : Lcu, Quiet (fireDue cfg as l).2 := by
  induction as with
  | nil => exact fun _ => quiet_nil
  | cons a as ih =>
    intro l
    unfold fireDue
    split
    · exact quiet_append.mpr ⟨Lcu.fire_quiet cfg _ _ _ _, ih _⟩
    · exact ih _

theorem Lcu.pulse_quiet (cfg : Settings) (l : Lcu) : Quiet (l.pulse cfg).2 := by
  have hmetre : ∀ l : Lcu, Quiet (l.metre cfg).2 := fun l =>
    quiet_append.mpr ⟨.ite (by simp [deskEvent]) quiet_nil, fireDue_quiet cfg _ _⟩
  have hcount : Quiet (l.countPulse cfg).2 := by
    unfold Lcu.countPulse
    split
    · exact hmetre _
    · exact quiet_nil
  have hmotion : ∀ l : Lcu, Quiet (l.pulseMotion cfg).2 := by
    intro l
    unfold Lcu.pulseMotion
    dsimp only
    split
    · exact quiet_nil
    · split <;> simp [movingReports, deskEvent]
  exact quiet_append.mpr ⟨hcount, hmotion _⟩

/-! ### One event taken (R23, R32) -/

/-- The second state has the desk state of the first, and nothing outstanding beside what is outstanding in the first
but what is quiet. -/
def Calm (s t : State) : Prop := t.dau.state = s.dau.state ∧ ∃ l, t.handed = s.handed ++ l ∧ Quiet l

section
variable {s t u : State}

theorem Calm.of_quiet {l : List Instr} (hd : t.dau.state = s.dau.state) (hh : t.handed = s.handed ++ l) (hq : Quiet l) :
    Calm s t := ⟨hd, l, hh, hq⟩

theorem Calm.of_same (hd : t.dau.state = s.dau.state) (hh : t.handed = s.handed) : Calm s t :=
  .of_quiet hd (hh.trans (List.append_nil _).symm) quiet_nil

theorem Calm.refl (s : State) : Calm s s := .of_same rfl rfl

theorem Calm.trans (h : Calm s t) (g : Calm t u) : Calm s u := by
  obtain ⟨hd, l, hh, hq⟩ := h
  obtain ⟨gd, m, gh, gq⟩ := g
  exact .of_quiet (gd.trans hd) (by rw [gh, hh, List.append_assoc]) (quiet_append.mpr ⟨hq, gq⟩)

theorem Calm.hand {l : List Instr} (h : Quiet l) : Calm s (s.hand l) := .of_quiet rfl rfl h

theorem Calm.rewrite (written : StoreWord → Bool) : Calm s (s.rewrite written) := .of_same rfl rfl

theorem Calm.tduEvent {reads : StoreWord → Bool} {r : Tdu × List Instr} (h : Quiet r.2) : Calm s (s.tduEvent reads r) :=
  .of_quiet rfl rfl (quiet_append.mpr ⟨quiet_parityFaults _ _ _ _, h⟩)

theorem Calm.entryEvent (c : CeilingSource) (reads : StoreWord → Bool) (x : Tdu) : Calm s (s.entryEvent c reads x) :=
  (Calm.tduEvent (r := (x, lockReport s.tdu x)) (quiet_lockReport _ _)).trans (.rewrite _)

theorem Calm.rtuEvent {reads : StoreWord → Bool} {r : Rtu × List Instr} (h : Quiet r.2) : Calm s (s.rtuEvent reads r) :=
  .of_quiet rfl rfl (quiet_append.mpr ⟨quiet_parityFaults _ _ _ _, h⟩)

theorem Calm.sruEvent {reads : StoreWord → Bool} {r : Sru × List Instr} (h : Quiet r.2) : Calm s (s.sruEvent reads r) :=
  .of_quiet rfl rfl (quiet_append.mpr ⟨quiet_parityFaults _ _ _ _, h⟩)

theorem Calm.sduEvent {reads : StoreWord → Bool} {r : Sdu × List Instr} (h : Quiet r.2) : Calm s (s.sduEvent reads r) :=
  .of_quiet rfl rfl (quiet_append.mpr ⟨quiet_append.mpr ⟨quiet_parityFaults _ _ _ _, h⟩, quiet_parityFaults _ _ _ _⟩)

theorem Calm.teardownChange (byCommand changed : Bool) (r : Record) : Calm s (s.teardownChange byCommand changed r) := by
  rw [State.teardownChange_eq]
  exact .of_quiet rfl rfl (.ite (by simp [deskEvent]) quiet_nil)

theorem Calm.attemptSelection : Calm s s.attemptSelection := by
  unfold State.attemptSelection
  split
  · split
    · exact .of_quiet rfl (by simp [State.putRtu, State.putTlu]; rfl) (quiet_parityFaults s _ _ _)
    · exact .hand (quiet_parityFaults _ _ _ _)
  · exact .refl s

/-- R28, R29: how far the desk is from NO_DESK. -/
def deskRank : DeskState → Nat
  | .active _ => 2
  | .releasing _ => 1
  | .noDesk => 0

/-- R28, R29: an event of the desk authority unit leaves the desk state and is quiet, or takes it nearer to NO_DESK. -/
def Falls (x : Dau) (r : Dau × List Instr) : Prop :=
  (r.1.state = x.state ∧ Quiet r.2) ∨ deskRank r.1.state < deskRank x.state

theorem Dau.keyEvent_falls (x : Dau) (d : Desk) (value : Bool) : Falls x (x.keyEvent d value) := by
  unfold Dau.keyEvent
  dsimp only
  split
  case h_1 d' hx =>
    split
    · split
      · exact .inl ⟨rfl, quiet_nil⟩
      · refine .inr ?_
        rw [hx]
        cases x.motion <;> simp [Dau.change, deskRank]
    · split
      · exact .inl ⟨rfl, by simp [deskEvent]⟩
      · exact .inl ⟨rfl, quiet_nil⟩
  all_goals exact .inl ⟨rfl, quiet_nil⟩

theorem Dau.standstill_falls (x : Dau) : Falls x x.standstill := by
  unfold Dau.standstill
  dsimp only
  split
  case h_1 d hx =>
    refine .inr ?_
    rw [hx]
    simp [Dau.change, deskRank]
  all_goals exact .inl ⟨rfl, quiet_nil⟩

theorem Calm.teardownAt (former : Desk) (byCommand : Bool) (x : TeardownTaker) : Calm s (s.teardownAt former byCommand x) := by
  cases x with
  | tdu => exact ((((Calm.tduEvent (Tdu.teardown_quiet _ _ _)).trans (.rewrite _)).trans (.teardownChange _ _ _)).trans
      (.teardownChange _ _ _)).trans (.teardownChange _ _ _)
  | rtu => exact (Calm.rtuEvent (Rtu.teardown_quiet _ _)).trans (.teardownChange _ _ _)
  | sru => exact ((Calm.sruEvent (quiet_latchCondition _ _)).trans (.rewrite _)).trans (.teardownChange _ _ _)
  | sdu => exact (Calm.sduEvent (Sdu.freeLost_quiet _ _ _)).trans (.teardownChange _ _ _)
  | lcu => exact .of_quiet rfl rfl quiet_nil

theorem Calm.openWindow : Calm s s.openWindow :=
  Calm.trans (t := (s.putRtu { s.rtu with windowOpen := true } []).putTlu { s.tlu with windowOpen := true } [])
    (.of_same rfl ((List.append_nil _).trans (List.append_nil _))) .attemptSelection

theorem Calm.tluLockdown (view : LockState) : Calm s (s.tluLockdown view) := by
  have hput : Calm s (s.putTlu { s.tlu with lockView := view } []) := .of_quiet rfl rfl quiet_nil
  unfold State.tluLockdown
  dsimp only
  split
  · exact hput.trans .attemptSelection
  · exact hput
  · exact hput

theorem Calm.sduLockdown (view : LockState) : Calm s (s.sduLockdown view) := by
  unfold State.sduLockdown
  split
  · exact .of_quiet rfl rfl quiet_nil
  · exact (Calm.sduEvent (Sdu.lockdown_quiet _ _ _)).trans (.rewrite _)

/-- R167, R169: the rows of the sound unit, which mean something in SERVICE alone. -/
theorem Calm.hardwareSoundAdd (src : SoundSource) (snd : Sounder) (pattern : Fin 16) :
    Calm (s.take (.hardwareSoundAdd src snd pattern)) (s.takeEvent (.hardwareSoundAdd src snd pattern)) := by
  unfold State.takeEvent execHardwareSoundAdd
  dsimp only
  split
  · exact .refl _
  · exact (Calm.sduEvent (Sdu.hardwareAdd_quiet _ _ _ _ _)).trans (.rewrite _)

theorem Calm.hardwareSoundRemove (src : SoundSource) (snd : Sounder) :
    Calm (s.take (.hardwareSoundRemove src snd)) (s.takeEvent (.hardwareSoundRemove src snd)) := by
  unfold State.takeEvent execHardwareSoundRemove
  dsimp only
  split
  · exact .refl _
  · exact Calm.sduEvent (Sdu.hardwareRemove_quiet _ _ _ _)

theorem Calm.directSound (k : DirectSound) (value : Bool) :
    Calm (s.take (.directSoundPermitEvent k value)) (s.takeEvent (.directSoundPermitEvent k value)) := by
  unfold State.takeEvent execDirectSoundPermitEvent
  dsimp only
  split
  · exact .of_quiet rfl rfl quiet_nil
  · exact (Calm.sduEvent (Sdu.direct_quiet _ _ _ _)).trans (.rewrite _)

theorem Calm.putTlu (x : Tlu) : Calm s (s.putTlu x []) := .of_quiet rfl rfl quiet_nil

end

/-- What taking an event that is outstanding does to the desk state and to what is outstanding. -/
def Takes (s : State) (c : Instr) : Prop :=
  ∃ l, (s.takeEvent c).handed = s.handed.erase c ++ l ∧
    (((s.takeEvent c).dau.state = s.dau.state ∧ Quiet l)
      ∨ deskRank (s.takeEvent c).dau.state < deskRank s.dau.state)

theorem Calm.takes {s : State} {c : Instr} (h : Calm (s.take c) (s.takeEvent c)) : Takes s c := by
  obtain ⟨hd, l, hh, hq⟩ := h
  exact ⟨l, hh, .inl ⟨hd, hq⟩⟩

theorem Falls.takes {s : State} {c : Instr} {r : Dau × List Instr} (h : Falls s.dau r)
    (hd : (s.takeEvent c).dau = r.1) (hh : ∃ reads, (s.takeEvent c).handed =
      s.handed.erase c ++ (parityFaults (s.take c) .dau reads none ++ r.2)) : Takes s c := by
  obtain ⟨reads, hh⟩ := hh
  refine ⟨_, hh, ?_⟩
  rw [hd]
  exact h.imp_left fun h => ⟨h.1, quiet_append.mpr ⟨quiet_parityFaults _ _ _ _, h.2⟩⟩

theorem takes_of_shareRow {s : State} {c : Instr} (h : shareRow c = true) : Takes s c := by
  cases c with
  | noDeskTeardown x former byCommand => exact (Calm.teardownAt former byCommand x).takes
  | deskStateChange new =>
    exact ((Calm.tduEvent (Tdu.deskState_quiet _ _ _)).trans (.rtuEvent (Rtu.deskState_quiet _ _ _ _))).takes
  | leadingEndPublished e =>
    exact Calm.takes (.of_same rfl ((List.append_nil _).trans (List.append_nil _)))
  | pointGuardEntryChange active value => exact (Calm.entryEvent _ _ _).takes
  | tractionPermitEvent value => exact (Calm.entryEvent _ _ _).takes
  | vigilancePedalEvent d value => exact (Calm.tduEvent (Tdu.pedal_quiet _ _ _ _ _)).takes
  | keyPermitEvent d value => exact (Dau.keyEvent_falls s.dau d value).takes rfl ⟨_, rfl⟩
  | movingReport x =>
    cases x with
    | dau => exact Calm.takes (.of_quiet rfl rfl quiet_nil)
    | tdu => exact (Calm.tduEvent (Tdu.moving_quiet _ _ _)).takes
    | lmu => cases h
    | fnu => cases h
  | standstillReport x =>
    cases x with
    | dau => exact (Dau.standstill_falls s.dau).takes rfl ⟨_, rfl⟩
    | tdu => exact (Calm.tduEvent (Tdu.standstill_quiet _ _)).takes
    | lmu => cases h
    | fnu => cases h
  | armRoute j => exact ((Calm.rtuEvent (Rtu.arm_quiet _ _ _ _)).trans (.rewrite _)).takes
  | clearance j => exact (Calm.rtuEvent (Rtu.clearance_quiet _ _ _ _)).takes
  | lateDecisionReport p => exact ((Calm.rtuEvent (Rtu.lateDecision_quiet _ _)).trans (.rewrite _)).takes
  | windowOpen => exact Calm.openWindow.takes
  | windowClose =>
    exact (((Calm.rtuEvent (Rtu.windowClose_quiet _)).trans (.rewrite _)).trans (.putTlu _)).takes
  | owedReport => exact Calm.attemptSelection.takes
  | atStopEvent value => exact ((Calm.sruEvent (Sru.atStopEvent_quiet _ _)).trans (.rewrite _)).takes
  | stopZoneEnter p mandatory => exact ((Calm.sruEvent (Sru.zoneEnter_quiet _ _ _ _ _)).trans (.rewrite _)).takes
  | stopZoneLeave p => exact ((Calm.sruEvent (Sru.zoneLeave_quiet _ _)).trans (.rewrite _)).takes
  | hardwareSoundAdd src snd pattern => exact (Calm.hardwareSoundAdd src snd pattern).takes
  | hardwareSoundRemove src snd => exact (Calm.hardwareSoundRemove src snd).takes
  | directSoundPermitEvent k value => exact (Calm.directSound k value).takes
  | lockdownViewChange x view =>
    cases x with
    | tdu => exact (Calm.entryEvent _ _ _).takes
    | lmu => cases h
    | tlu => exact (Calm.tluLockdown view).takes
    | sdu => exact (Calm.sduLockdown view).takes
  | tachPulse => exact Calm.takes (.of_quiet rfl rfl (quiet_append.mpr ⟨quiet_parityFaults _ _ _ _, Lcu.pulse_quiet _ _⟩))
  | _ => cases h

end Sys2Proof.Machine

namespace Sys2Proof.Machine

/-! ### The teardown is complete before a request is served (R23, R32, log 4) -/

theorem shareRow_of_deskEvent {c : Instr} (h : deskEvent c = true) : shareRow c = true := by
  cases c with
  | noDeskTeardown _ _ _ => rfl
  | deskStateChange _ => rfl
  | _ => cases h

theorem shareRow_of_shareConsequence {c : Instr} (h : shareConsequence c = true) : shareRow c = true := by
  cases c with
  | leadingEndPublished _ => rfl
  | pointGuardEntryChange _ _ => rfl
  | _ => cases h

/-- A row that its unit takes before a request leaves the state in which the event has been taken. -/
theorem exec_of_shareRow {s : State} {c : Instr} (h : shareRow c = true) : exec c s = .next (s.takeEvent c) := by
  cases c with
  | movingReport x => cases x <;> cases h <;> rfl
  | standstillReport x => cases x <;> cases h <;> rfl
  | lockdownViewChange _ _ => rfl
  | hardwareSoundAdd src snd pattern =>
    unfold exec State.takeEvent execHardwareSoundAdd
    dsimp only
    split <;> rfl
  | hardwareSoundRemove src snd =>
    unfold exec State.takeEvent execHardwareSoundRemove
    dsimp only
    split <;> rfl
  | directSoundPermitEvent k value =>
    unfold exec State.takeEvent execDirectSoundPermitEvent
    dsimp only
    split <;> rfl
  | _ => cases h <;> rfl

/-- Nothing of a desk state change or of a unit's share of the teardown is outstanding. -/
def DeskFree (s : State) : Prop := ∀ e ∈ s.handed, deskEvent e = false

theorem takeShares_of_deskFree {s : State} (h : DeskFree s) : s.takeShares = s := by
  simp [State.takeShares, throughLast_eq_nil h, State.takeAll]

theorem takeDeskEvents_of_deskFree {s : State} (h : DeskFree s) : s.takeDeskEvents = s := by
  simp [State.takeDeskEvents, takeShares_of_deskFree h]

/-- The events up to the last that has a property, and the rest, which has none. -/
theorem throughLast_split (good : Instr → Bool) (l : List Instr) : ∃ rest, l = throughLast good l ++ rest ∧
    (∀ c ∈ rest, good c = false) ∧ ∀ d, (throughLast good l).getLast? = some d → good d = true := by
  refine ⟨(l.reverse.takeWhile fun c => !good c).reverse, ?_, fun c hc => ?_, fun d hd => ?_⟩
  · rw [throughLast, ← List.reverse_append, List.takeWhile_append_dropWhile, List.reverse_reverse]
  · simpa using List.mem_takeWhile_imp (List.mem_reverse.mp hc)
  · rw [throughLast, List.getLast?_reverse] at hd
    have := List.head?_dropWhile_not (fun c => !good c) l.reverse
    rw [hd] at this
    simpa using this

/-- R32: the events of the block that are taken before a request, in the order handed on. -/
def shares (s : State) : List Instr := s.handed.filter shareRow

theorem deskFree_iff {s : State} : DeskFree s ↔ Quiet (shares s) := by
  refine ⟨fun h x hx => h x (List.mem_of_mem_filter hx), fun h e he => ?_⟩
  cases hd : deskEvent e with
  | false => rfl
  | true => exact hd.symm.trans (h e (List.mem_filter.mpr ⟨he, shareRow_of_deskEvent hd⟩))

theorem shares_takeEvent {s : State} {c : Instr} {rest : List Instr} (h : shares s = c :: rest) :
    ∃ new, shares (s.takeEvent c) = rest ++ new ∧
      (((s.takeEvent c).dau.state = s.dau.state ∧ Quiet new)
        ∨ deskRank (s.takeEvent c).dau.state < deskRank s.dau.state) := by
  have hc : shareRow c = true := (List.mem_filter.mp (h ▸ List.mem_cons_self : c ∈ shares s)).2
  obtain ⟨l, hl, hor⟩ := takes_of_shareRow (s := s) hc
  refine ⟨l.filter shareRow, ?_, hor.imp_left fun hq => ⟨hq.1, fun x hx => hq.2 x (List.mem_of_mem_filter hx)⟩⟩
  rw [shares, hl, List.filter_append, ← List.erase_filter]
  change (shares s).erase c ++ _ = _
  rw [h, List.erase_cons_head]

/-- R28, R29: taking the first of the events that are outstanding brings quiet ones, or the desk nearer to NO_DESK. -/
theorem shares_takeAll (batch : List Instr) : ∀ (s : State) (more : List Instr), shares s = batch ++ more →
    ∃ new, shares (s.takeAll batch) = more ++ new ∧
      (((s.takeAll batch).dau.state = s.dau.state ∧ Quiet new)
        ∨ deskRank (s.takeAll batch).dau.state < deskRank s.dau.state) := by
  induction batch with
  | nil => exact fun s more h => ⟨[], h.trans (List.append_nil _).symm, .inl ⟨rfl, quiet_nil⟩⟩
  | cons c batch ih =>
    intro s more h
    obtain ⟨new, hnew, hor⟩ := shares_takeEvent h
    obtain ⟨later, hlater, hor'⟩ := ih _ _ (hnew.trans (List.append_assoc _ _ _))
    refine ⟨new ++ later, hlater.trans (List.append_assoc _ _ _), ?_⟩
    rcases hor with ⟨hd, hq⟩ | hlt
    · rcases hor' with ⟨hd', hq'⟩ | hlt'
      · exact .inl ⟨hd'.trans hd, quiet_append.mpr ⟨hq, hq'⟩⟩
      · rw [hd] at hlt'
        exact .inr hlt'
    · refine .inr (lt_of_le_of_lt ?_ hlt)
      rcases hor' with ⟨hd', -⟩ | hlt'
      · exact le_of_eq (congrArg deskRank hd')
      · exact hlt'.le

/-- One event taken while a desk state change or a share of the teardown is outstanding: the first of the block's. -/
def ShareStep (s t : State) : Prop := ¬ DeskFree s ∧ ∃ c, (shares s).head? = some c ∧ t = s.takeEvent c

theorem shareStep_unique : Relator.RightUnique ShareStep := by
  rintro s t u ⟨-, c, hc, rfl⟩ ⟨-, d, hd, rfl⟩
  rw [hc] at hd
  cases hd
  rfl

/-- A batch that ends with a desk state change or a share of the teardown is taken step by step. -/
theorem steps_takeAll (batch : List Instr) : ∀ (s : State) (more : List Instr), shares s = batch ++ more →
    (∀ d, batch.getLast? = some d → deskEvent d = true) → Relation.ReflTransGen ShareStep s (s.takeAll batch) := by
  induction batch with
  | nil => exact fun _ _ _ _ => .refl
  | cons c batch ih =>
    intro s more h hlast
    have hdesk : ¬ DeskFree s := fun hfree => by
      obtain ⟨d, hd⟩ : ∃ d, (c :: batch).getLast? = some d := ⟨_, List.getLast?_eq_some_getLast (List.cons_ne_nil _ _)⟩
      have hmem : d ∈ shares s := h ▸ List.mem_append_left _ (List.mem_of_getLast? hd)
      have := deskFree_iff.mp hfree d hmem
      rw [hlast d hd] at this
      cases this
    obtain ⟨new, hnew, -⟩ := shares_takeEvent h
    refine .head ⟨hdesk, c, by rw [h]; rfl, rfl⟩ (ih _ _ (hnew.trans (List.append_assoc _ _ _)) fun d hd => ?_)
    exact hlast d (by rw [List.getLast?_cons, hd]; rfl)

/-- One pass over what is outstanding: the batch it takes, and what lies behind. -/
theorem takeShares_batch (s : State) : ∃ batch more, s.takeShares = s.takeAll batch ∧ shares s = batch ++ more ∧
    Quiet more ∧ ∀ d, batch.getLast? = some d → deskEvent d = true := by
  obtain ⟨rest, hsplit, hrest, hlast⟩ := throughLast_split deskEvent s.handed
  refine ⟨_, rest.filter shareRow, rfl, ?_, fun x hx => hrest x (List.mem_of_mem_filter hx), fun d hd => ?_⟩
  · rw [shares]
    conv_lhs => rw [hsplit]
    rw [List.filter_append]
  · rcases List.eq_nil_or_concat (throughLast deskEvent s.handed) with hnil | ⟨init, e, he⟩
    · rw [hnil] at hd
      cases hd
    · have hde := hlast e (by rw [he]; simp)
      rw [he] at hd
      simp [List.filter_append, shareRow_of_deskEvent hde] at hd
      exact hd ▸ hde

theorem steps_takeShares (s : State) : Relation.ReflTransGen ShareStep s s.takeShares := by
  obtain ⟨batch, more, heq, hsplit, -, hlast⟩ := takeShares_batch s
  rw [heq]
  exact steps_takeAll batch s more hsplit hlast

theorem takeShares_falls (s : State) :
    DeskFree s.takeShares ∨ deskRank s.takeShares.dau.state < deskRank s.dau.state := by
  obtain ⟨batch, more, heq, hsplit, hmore, -⟩ := takeShares_batch s
  obtain ⟨new, hnew, hor⟩ := shares_takeAll batch s more hsplit
  rw [heq]
  refine hor.imp_left fun hq => deskFree_iff.mpr ?_
  rw [hnew]
  exact quiet_append.mpr ⟨hmore, hq.2⟩

theorem deskRank_le (st : DeskState) : deskRank st ≤ 2 := by
  cases st <;> simp [deskRank]

/-- R28, R29: three passes are enough, as the desk state falls twice at most. -/
theorem deskFree_takeDeskEvents (s : State) : DeskFree s.takeDeskEvents := by
  rcases takeShares_falls s with h | h₁
  · simpa only [State.takeDeskEvents, takeShares_of_deskFree h] using h
  rcases takeShares_falls s.takeShares with h | h₂
  · simpa only [State.takeDeskEvents, takeShares_of_deskFree h] using h
  rcases takeShares_falls s.takeShares.takeShares with h | h₃
  · exact h
  · have := deskRank_le s.dau.state
    omega

/-- R23, R32: an event taken on its own is one of those that the service takes first. -/
theorem takeDeskEvents_of_step {s t : State} (h : ShareStep s t) : s.takeDeskEvents = t.takeDeskEvents := by
  have hsteps : ∀ x : State, Relation.ReflTransGen ShareStep x x.takeDeskEvents := fun x =>
    ((steps_takeShares x).trans (steps_takeShares _)).trans (steps_takeShares _)
  have hend : ∀ x y : State, Relation.ReflTransGen ShareStep x.takeDeskEvents y → x.takeDeskEvents = y := by
    intro x y hxy
    rcases hxy.cases_head with heq | ⟨z, hz, -⟩
    · exact heq
    · exact absurd (deskFree_takeDeskEvents x) hz.1
  rcases Relation.ReflTransGen.total_of_right_unique shareStep_unique (hsteps s) (.head h (hsteps t)) with hst | hts
  · exact hend s _ hst
  · exact (hend t _ hts).symm

/-! #### The leading end and the POINT_GUARD entry that come of them (R78, R121) -/

/-- Taking a leading end or a POINT_GUARD entry hands on none of the events the service waits for. -/
theorem takeEvent_consequence {s : State} {c : Instr} (h : shareConsequence c = true) :
    ∃ l, (s.takeEvent c).handed = s.handed.erase c ++ l ∧ Quiet l ∧ ∀ x ∈ l, shareConsequence x = false := by
  cases c with
  | leadingEndPublished e => exact ⟨[], by rw [List.append_nil]; exact (List.append_nil _).trans (List.append_nil _),
      quiet_nil, fun x hx => by cases hx⟩
  | pointGuardEntryChange active value =>
    refine ⟨_, rfl, quiet_append.mpr ⟨quiet_parityFaults _ _ _ _, quiet_lockReport _ _⟩, fun x hx => ?_⟩
    rcases List.mem_append.mp hx with hx | hx
    · obtain ⟨w, -, rfl⟩ := List.mem_map.mp hx
      rfl
    · unfold lockReport at hx
      split at hx
      · cases hx
      · rw [List.mem_singleton.mp hx]
        rfl
  | _ => cases h

theorem teardownDone_takeAll (l : List Instr) : ∀ s : State, DeskFree s → s.handed.filter shareConsequence = l →
    teardownDone (s.takeAll l) := by
  induction l with
  | nil => exact fun s hfree hl c hc => ⟨hfree c hc, by simpa using List.filter_eq_nil_iff.mp hl c hc⟩
  | cons c l ih =>
    intro s hfree hl
    have hc : shareConsequence c = true := (List.mem_filter.mp (hl ▸ List.mem_cons_self :
      c ∈ s.handed.filter shareConsequence)).2
    obtain ⟨new, hnew, hq, hno⟩ := takeEvent_consequence (s := s) hc
    refine ih _ (fun e he => ?_) ?_
    · rw [hnew] at he
      rcases List.mem_append.mp he with he | he
      · exact hfree e (List.mem_of_mem_erase he)
      · exact hq e he
    · have hnil : new.filter shareConsequence = [] := List.filter_eq_nil_iff.mpr fun x hx => by simp [hno x hx]
      rw [hnew, List.filter_append, ← List.erase_filter, hl, List.erase_cons_head, hnil, List.append_nil]

theorem teardownDone_completeTeardown (s : State) : teardownDone s.completeTeardown :=
  teardownDone_takeAll _ _ (deskFree_takeDeskEvents s) rfl

theorem completeTeardown_of_deskFree {s : State} (h : DeskFree s) :
    s.completeTeardown = s.takeAll (s.handed.filter shareConsequence) := by
  rw [State.completeTeardown, takeDeskEvents_of_deskFree h]

theorem find_of_split {l before after : List Instr} {good : Instr → Bool} {c : Instr} (h : l = before ++ c :: after)
    (hb : ∀ e ∈ before, good e = false) (hc : good c = true) : l.filter good = c :: after.filter good := by
  have hnil : before.filter good = [] := List.filter_eq_nil_iff.mpr fun x hx => by simp [hb x hx]
  rw [h, List.filter_append, hnil, List.nil_append, List.filter_cons_of_pos hc]

/-- R23, R32: the order in which the events are taken before a request. -/
theorem completeTeardown_of_first {s : State} {c : Instr} {before after : List Instr} (h : s.handed = before ++ c :: after)
    (hb : ∀ e ∈ before, shareRow e = false) (hc : shareRow c = true) (hd : ∃ e ∈ c :: after, deskEvent e = true) :
    s.completeTeardown = (s.takeEvent c).completeTeardown := by
  have hstep : ShareStep s (s.takeEvent c) := by
    refine ⟨fun hfree => ?_, c, ?_, rfl⟩
    · obtain ⟨e, he, hde⟩ := hd
      have := hfree e (h ▸ List.mem_append_right _ he)
      rw [hde] at this
      cases this
    · rw [shares, find_of_split h hb hc]
      rfl
  rw [State.completeTeardown, State.completeTeardown, takeDeskEvents_of_step hstep]

theorem completeTeardown_of_consequence {s : State} {c : Instr} {before after : List Instr}
    (h : s.handed = before ++ c :: after) (hfree : DeskFree s) (hb : ∀ e ∈ before, shareConsequence e = false)
    (hc : shareConsequence c = true) : s.completeTeardown = (s.takeEvent c).completeTeardown := by
  obtain ⟨new, hnew, hq, hno⟩ := takeEvent_consequence (s := s) hc
  have hfilter := find_of_split h hb hc
  have hfree' : DeskFree (s.takeEvent c) := fun e he => by
    rw [hnew] at he
    rcases List.mem_append.mp he with he | he
    · exact hfree e (List.mem_of_mem_erase he)
    · exact hq e he
  have hrest : (s.takeEvent c).handed.filter shareConsequence = after.filter shareConsequence := by
    have hnil : new.filter shareConsequence = [] := List.filter_eq_nil_iff.mpr fun x hx => by simp [hno x hx]
    rw [hnew, List.filter_append, ← List.erase_filter, hfilter, List.erase_cons_head, hnil, List.append_nil]
  rw [completeTeardown_of_deskFree hfree, completeTeardown_of_deskFree hfree', hfilter, hrest]
  rfl

theorem serve_completeTeardown (s : State) (p : Port) (r : Request) : s.serve p r = s.completeTeardown.serve p r := by
  rw [State.serve, State.serve, State.completeTeardown_eq (teardownDone_completeTeardown s)]

end Sys2Proof.Machine

namespace Sys2Proof.Machine

/-! ### The other units' shares of the teardown (R95, R121, R151, R169) -/

/-- The slots after a structural change of the teardown. -/
theorem emptyIf_eq (byCommand changed : Bool) (r : Record) (slots : PerPort (Option Record)) :
    emptyIf (byCommand && changed) r slots = if changed && byCommand then emptySlots r slots else slots := by
  rw [emptyIf, Bool.and_comm]

section
variable {s : State} (h : s.bad = []) (byCommand : Bool)
include h

theorem State.teardownSru_of_bad_nil :
    let latched : Bool := decide (s.sru.list ≠ [])
    s.teardownSru byCommand = { s with
      rst := { s.rst with slots := if latched && byCommand then emptySlots .stops s.rst.slots else s.rst.slots }
      sru := { s.sru with list := [], zone := none, decision := .none, stoppedInZone := false }
      handed := s.handed ++ (if latched then [.conditionChange .stopLatched false] else [])
        ++ if latched && !byCommand then [.structuralChangeReport .stops] else [] } := by
  intro latched
  have hlatch : latchSet s.sru = latched := by
    simp only [latchSet, latched]
    cases s.sru.list <;> rfl
  have hcond : latchCondition s.sru s.sru.clearAll = if latched then [.conditionChange .stopLatched false] else [] := by
    rw [latchCondition_cleared rfl]
    by_cases hl : s.sru.list = [] <;> simp [latched, hl]
  have hput : (s.sruEvent stopWords (s.sru.clearAll, latchCondition s.sru s.sru.clearAll)).rewrite clearAllWritten =
      { s with sru := s.sru.clearAll, handed := s.handed ++ if latched then [.conditionChange .stopLatched false] else [] } := by
    rw [State.sruEvent_of_bad_nil h, hcond]
    simp only [State.rewrite, h, List.filter_nil]
  rw [State.teardownSru, hput, State.teardownChange_eq, emptyIf_eq, hlatch]
  rfl

theorem State.teardownRtu_of_bad_nil :
    let r := s.rtu.teardown s.settings
    let planned : Bool := decide (s.rtu.plan ≠ [])
    s.teardownRtu byCommand = { s with
      rst := { s.rst with slots := if planned && byCommand then emptySlots .plan s.rst.slots else s.rst.slots }
      rtu := r.1
      handed := s.handed ++ r.2 ++ if planned && !byCommand then [.structuralChangeReport .plan] else [] } := by
  intro r planned
  have hplan : (!s.rtu.plan.isEmpty) = planned := by
    simp only [planned]
    cases s.rtu.plan <;> rfl
  rw [State.teardownRtu, State.rtuEvent_of_bad_nil h, State.teardownChange_eq, emptyIf_eq, hplan]

end

/-- R121: the unit's share of the teardown. -/
theorem Rtu.teardown_eq (cfg : Settings) (u : Rtu) :
    let owed := if u.windowOpen = false then [] else
      (u.plan.filter fun e => decide (1 ≤ e.transmissions)).map fun e => (⟨e.junction, e.code⟩ : Cancel)
    let room := 4 - u.cancels.length
    let v := u.withPlan [] (u.cancels ++ owed.take room)
    u.teardown cfg =
      (match (owed.drop room).getLast? with
        | some x => { v with exception := some (.telegramDiscarded, x.junction) }
        | none => v,
      (owed.take room).map (fun _ => .owedReport) ++ (owed.drop room).map (fun _ => .noticeRaise .telegramDiscarded)
        ++ guardNews cfg.creep u.plan [] ++ if decide (u.plan ≠ []) then [.noticeRaise .routeChange] else []) := by
  intro owed room v
  have hroute : (if u.plan.isEmpty then [] else [Instr.noticeRaise .routeChange]) =
      if decide (u.plan ≠ []) then [.noticeRaise .routeChange] else [] := by
    cases u.plan <;> rfl
  have hopen : (if u.windowOpen then Rtu.queueCancels ((u.plan.filter fun e => decide (1 ≤ e.transmissions)).map fun e =>
      (⟨e.junction, e.code⟩ : Cancel)) u else (u, [])) = Rtu.queueCancels owed u := by
    cases hw : u.windowOpen <;> simp [owed, hw, Rtu.queueCancels]
  have hshare : u.teardown cfg = ((Rtu.queueCancels owed u).1.withPlan [] (Rtu.queueCancels owed u).1.cancels,
      (Rtu.queueCancels owed u).2 ++ flushHandOn cfg u.plan) := by
    rw [← hopen]
    rfl
  rw [hshare]
  simp only [queueCancels_eq, flushHandOn, guardHandOn_eq, hroute, List.append_assoc]
  cases (owed.drop room).getLast? <;> rfl

end Sys2Proof.Machine

namespace Sys2Proof.Machine

/-! ### A freed sounder is handed on (R160, R168) -/

section
variable (u : Sdu) (snd : Sounder) (p p' : Player)

theorem sounderIndex_injective : Function.Injective sounderIndex := by
  intro x y
  cases x <;> cases y <;> simp [sounderIndex]

@[simp] theorem player_setPlayer_same : player (setPlayer u snd p) snd = p := by
  simp [player, setPlayer]

theorem player_setPlayer_other {x : Sounder} (h : x ≠ snd) : player (setPlayer u snd p) x = player u x := by
  have hne : (sounderIndex snd).val ≠ (sounderIndex x).val := fun he =>
    h (sounderIndex_injective (Fin.val_injective he)).symm
  simp [player, setPlayer, Vector.getElem_set_ne _ _ hne]

@[simp] theorem setPlayer_setPlayer : setPlayer (setPlayer u snd p) snd p' = setPlayer u snd p' := by
  simp [setPlayer]

@[simp] theorem setPlayer_player : setPlayer u snd (player u snd) = u := by
  simp [setPlayer, player]

theorem playingRequest_eq {u v : Sdu} {snd : Sounder} (hr : v.requests = u.requests)
    (hp : (player v snd).playing = (player u snd).playing) : playingRequest v snd = playingRequest u snd := by
  rw [playingRequest, playingRequest, hr, hp]

end

/-- R160: a phase that lasts some time is still to come in this pass through the pattern, the phase itself included. -/
def RunsFrom (pat : Pattern) (k : Nat) : Phase → Prop
  | .on => ∃ j, k ≤ j ∧ j ≤ pat.steps.length ∧ (0 < (patternStep pat j).on ∨ 0 < (patternStep pat j).off)
  | .off => 0 < (patternStep pat k).off
      ∨ ∃ j, k < j ∧ j ≤ pat.steps.length ∧ (0 < (patternStep pat j).on ∨ 0 < (patternStep pat j).off)

/-- The phases of this pass through the pattern from one on. -/
def phasesLeft (pat : Pattern) (k : Nat) : Phase → Nat
  | .on => 2 * (pat.steps.length - k) + 2
  | .off => 2 * (pat.steps.length - k) + 1

section
variable {cfg : Settings} {q : SoundRequest}

theorem endPhase_on {u : Sdu} (h : (player u q.sounder).phase = .on) : u.endPhase cfg q =
    (setPlayer u q.sounder (enterPhase cfg q.sounder u.patterns[q.pattern] (player u q.sounder).step .off
      (player u q.sounder)), []) := by
  simp only [Sdu.endPhase, h]

theorem endPhase_off {u : Sdu} (h : (player u q.sounder).phase = .off)
    (hk : (player u q.sounder).step < u.patterns[q.pattern].steps.length) : u.endPhase cfg q =
    (setPlayer u q.sounder (enterPhase cfg q.sounder u.patterns[q.pattern] ((player u q.sounder).step + 1) .on
      (player u q.sounder)), []) := by
  simp only [Sdu.endPhase, h]
  exact if_pos hk

theorem passZero_succ {u : Sdu} {n : Nat} (hr : playingRequest u q.sounder = some q)
    (ht : (player u q.sounder).timer = none) {p : Player}
    (he : u.endPhase cfg q = (setPlayer u q.sounder p, [])) :
    u.passZero cfg q.sounder (n + 1) = (setPlayer u q.sounder p).passZero cfg q.sounder n := by
  simp only [Sdu.passZero, hr, ht, he, List.nil_append]

/-- R160: with a phase that lasts still to come, the phases whose time is 0 pass and nothing else happens. -/
theorem passZero_runs (n : Nat) : ∀ (u : Sdu) (k : Nat) (ph : Phase) (p : Player), playingRequest u q.sounder = some q →
    player u q.sounder = enterPhase cfg q.sounder u.patterns[q.pattern] k ph p →
    RunsFrom u.patterns[q.pattern] k ph → phasesLeft u.patterns[q.pattern] k ph ≤ n →
    ∃ p', u.passZero cfg q.sounder n = (setPlayer u q.sounder p', []) ∧ p'.playing = (player u q.sounder).playing := by
  induction n with
  | zero =>
    intro u k ph p _ _ _ hn
    cases ph <;> simp [phasesLeft] at hn
  | succ n ih =>
    intro u k ph p hr hp hruns hn
    by_cases htime : phaseTime (patternStep u.patterns[q.pattern] k) ph = 0
    case neg =>
      refine ⟨player u q.sounder, ?_, rfl⟩
      have ht : (player u q.sounder).timer = some (phaseTime (patternStep u.patterns[q.pattern] k) ph) := by
        rw [hp]
        exact if_neg htime
      rw [setPlayer_player]
      simp only [Sdu.passZero, hr, ht]
    case pos =>
      have ht : (player u q.sounder).timer = none := by
        rw [hp]
        exact if_pos htime
      have hstep : (player u q.sounder).step = k := by rw [hp]; rfl
      have hphase : (player u q.sounder).phase = ph := by rw [hp]; rfl
      -- the next phase begins, and from it the rest of the pass is shorter
      have next : ∀ k' ph', u.endPhase cfg q = (setPlayer u q.sounder (enterPhase cfg q.sounder u.patterns[q.pattern] k' ph'
          (player u q.sounder)), []) → RunsFrom u.patterns[q.pattern] k' ph' → phasesLeft u.patterns[q.pattern] k' ph' ≤ n →
          ∃ p', u.passZero cfg q.sounder (n + 1) = (setPlayer u q.sounder p', []) ∧
            p'.playing = (player u q.sounder).playing := by
        intro k' ph' he hruns' hn'
        obtain ⟨p', hp', hplay⟩ := ih (setPlayer u q.sounder (enterPhase cfg q.sounder u.patterns[q.pattern] k' ph'
          (player u q.sounder))) k' ph' (player u q.sounder)
          (by rw [← hr]; exact playingRequest_eq rfl (by rw [player_setPlayer_same]; rfl))
          (player_setPlayer_same _ _ _) hruns' hn'
        refine ⟨p', ?_, ?_⟩
        · rw [passZero_succ hr ht he, hp', setPlayer_setPlayer]
        · rw [hplay, player_setPlayer_same]
          rfl
      cases ph with
      | on =>
        refine next k .off (by rw [endPhase_on hphase, hstep]) ?_ (by simp only [phasesLeft] at hn ⊢; omega)
        obtain ⟨j, hkj, hj, htimes⟩ := hruns
        rcases Nat.eq_or_lt_of_le hkj with rfl | hlt
        · exact .inl (htimes.resolve_left (Nat.not_lt.mpr (Nat.le_of_eq htime)))
        · exact .inr ⟨j, hlt, hj, htimes⟩
      | off =>
        obtain ⟨j, hkj, hj, htimes⟩ := hruns.resolve_left (Nat.not_lt.mpr (Nat.le_of_eq htime))
        refine next (k + 1) .on (by rw [endPhase_off hphase (by omega), hstep]) ⟨j, hkj, hj, htimes⟩ ?_
        simp only [phasesLeft] at hn ⊢
        omega

/-- R160: a request that becomes PLAYING plays; with its pattern it takes some time. -/
theorem begin_settles {u : Sdu} (hplays : SoundPlays u) (hq : findRequest u.requests q.source q.sounder = some q) :
    ∃ p, (u.begin cfg q).settlePhase cfg q.sounder = (setPlayer u q.sounder p, []) ∧ p.playing = some q.source := by
  obtain ⟨hlen, hsome, hne⟩ := hplays
  have hmem : q ∈ u.requests := List.mem_of_find?_eq_some hq
  obtain ⟨x, hx, htime⟩ := (hsome q.pattern).resolve_left (hne q hmem)
  obtain ⟨i, hi, rfl⟩ := List.getElem_of_mem hx
  have hstep : patternStep u.patterns[q.pattern] (i + 1) = u.patterns[q.pattern].steps[i] := by
    rw [patternStep, Nat.add_sub_cancel, List.getElem?_eq_getElem hi]
    rfl
  obtain ⟨p, hp, hplay⟩ := passZero_runs (cfg := cfg) (q := q) 64 (u.begin cfg q) 1 .on
    { player u q.sounder with playing := some q.source, lastSource := some q.source }
    (by
      rw [playingRequest, Sdu.begin, player_setPlayer_same]
      exact hq)
    (player_setPlayer_same _ _ _)
    ⟨i + 1, by omega, by exact hi, by rw [← hstep] at htime; exact htime⟩
    (by
      have : u.patterns[q.pattern].steps.length ≤ 8 := hlen q.pattern
      change 2 * (u.patterns[q.pattern].steps.length - 1) + 2 ≤ 64
      omega)
  refine ⟨p, ?_, ?_⟩
  · rw [Sdu.settlePhase, hp, Sdu.begin, setPlayer_setPlayer]
  · rw [hplay, Sdu.begin, player_setPlayer_same]
    rfl

end

/-! #### The arbiter's choice (R168) -/

theorem topPriority_le {l : List SoundRequest} {x : SoundRequest} (h : x ∈ l) : x.priority ≤ topPriority l := by
  induction l with
  | nil => cases h
  | cons a l ih =>
    rw [topPriority, List.foldr_cons]
    rcases List.mem_cons.mp h with rfl | h
    · exact Nat.le_max_left _ _
    · exact (ih h).trans (Nat.le_max_right _ _)

theorem topPriority_attained {l : List SoundRequest} (h : l ≠ []) : ∃ x ∈ l, x.priority = topPriority l := by
  induction l with
  | nil => exact absurd rfl h
  | cons a l ih =>
    have hcons : topPriority (a :: l) = max a.priority (topPriority l) := rfl
    rw [hcons]
    rcases Nat.le_total (topPriority l) a.priority with hle | hle
    · exact ⟨a, List.mem_cons_self, (Nat.max_eq_left hle).symm⟩
    · by_cases hl : l = []
      · subst hl
        exact ⟨a, List.mem_cons_self, (Nat.max_eq_left (Nat.zero_le _)).symm⟩
      · obtain ⟨x, hx, hp⟩ := ih hl
        exact ⟨x, List.mem_cons_of_mem _ hx, by rw [hp, Nat.max_eq_right hle]⟩

theorem chooseNext_none {tie : TieMode} {last : Option SoundSource} {l : List SoundRequest}
    (h : chooseNext tie last l = none) : l = [] := by
  by_contra hne
  obtain ⟨x, hx, hp⟩ := topPriority_attained hne
  have hhead : (l.filter fun q => q.priority == topPriority l).head? ≠ none := by
    rw [ne_eq, List.head?_eq_none_iff, List.filter_eq_nil_iff]
    exact fun hno => hno x hx (by simp [hp])
  unfold chooseNext at h
  dsimp only at h
  split at h
  · exact hhead h
  · split at h
    · cases h
    · exact hhead h

theorem chooseNext_some {tie : TieMode} {last : Option SoundSource} {l : List SoundRequest} {q : SoundRequest}
    (h : chooseNext tie last l = some q) : q ∈ l ∧ ∀ x ∈ l, x.priority ≤ q.priority := by
  have htied : q ∈ l.filter fun q => q.priority == topPriority l := by
    unfold chooseNext at h
    dsimp only at h
    split at h
    · exact List.mem_of_head? h
    · split at h
      next hf => exact Option.some.inj h ▸ List.mem_of_find?_eq_some hf
      next => exact List.mem_of_head? h
  obtain ⟨hmem, hp⟩ := List.mem_filter.mp htied
  exact ⟨hmem, fun x hx => (beq_iff_eq.mp hp) ▸ topPriority_le hx⟩

/-- R162: with one request for a source and a sounder, a request of the list is found. -/
theorem findRequest_of_mem {l : List SoundRequest} (h : (l.map fun q => (q.source, q.sounder)).Nodup) {q : SoundRequest}
    (hq : q ∈ l) : findRequest l q.source q.sounder = some q := by
  obtain ⟨x, hx⟩ : ∃ x, findRequest l q.source q.sounder = some x := by
    rw [← Option.isSome_iff_exists, findRequest, List.find?_isSome]
    exact ⟨q, hq, by simp⟩
  have hkey : x.source = q.source ∧ x.sounder = q.sounder := by simpa using List.find?_some hx
  rw [hx, List.inj_on_of_nodup_map h (List.mem_of_find?_eq_some hx) hq (by rw [hkey.1, hkey.2])]

section
variable (cfg : Settings) {u : Sdu}

theorem free_idle {snd : Sounder} (hno : (u.requests.filter fun q => q.sounder == snd) = []) :
    u.free cfg snd = (setPlayer u snd (idlePlayer (player u snd)), []) := by
  have hnext : u.next cfg snd = setPlayer u snd (idlePlayer (player u snd)) := by
    have hchoose : ∀ tie last, chooseNext tie last ([] : List SoundRequest) = none := fun tie last => by cases tie <;> rfl
    have hnil : ((setPlayer u snd (idlePlayer (player u snd))).requests.filter fun q => q.sounder == snd) = [] := hno
    simp only [Sdu.next, hnil, hchoose]
  have hplaying : playingRequest (setPlayer u snd (idlePlayer (player u snd))) snd = none := by
    rw [playingRequest, player_setPlayer_same]
    rfl
  rw [Sdu.free, hnext, Sdu.settlePhase]
  simp only [Sdu.passZero, hplaying]

/-- R168: the sounder goes to a request of the highest priority, or stays idle with none that waits. -/
theorem free_eq (hok : RequestsOk u) (hplays : SoundPlays u) (snd : Sounder) :
    ∃ p, u.free cfg snd = (setPlayer u snd p, []) ∧ Outranked (setPlayer u snd p) snd := by
  by_cases hno : (u.requests.filter fun q => q.sounder == snd) = []
  · refine ⟨_, free_idle cfg hno, outranked_of_idle (by rw [player_setPlayer_same]; rfl) fun x hx => ?_⟩
    simpa using List.filter_eq_nil_iff.mp hno x hx
  · obtain ⟨q, hq⟩ : ∃ q, chooseNext cfg.tieModes[sounderIndex snd] (idlePlayer (player u snd)).lastSource
        (u.requests.filter fun q => q.sounder == snd) = some q :=
      Option.ne_none_iff_exists'.mp fun h => hno (chooseNext_none h)
    obtain ⟨hwaits, htop⟩ := chooseNext_some hq
    obtain ⟨hmem, hsnd⟩ := List.mem_filter.mp hwaits
    obtain rfl : q.sounder = snd := beq_iff_eq.mp hsnd
    have hfind := findRequest_of_mem hok.2 hmem
    have hnext : u.next cfg q.sounder = (setPlayer u q.sounder (idlePlayer (player u q.sounder))).begin cfg q := by
      have hq' : chooseNext cfg.tieModes[sounderIndex q.sounder]
          (player (setPlayer u q.sounder (idlePlayer (player u q.sounder))) q.sounder).lastSource
          ((setPlayer u q.sounder (idlePlayer (player u q.sounder))).requests.filter fun x => x.sounder == q.sounder) =
          some q := by
        rw [player_setPlayer_same]
        exact hq
      simp only [Sdu.next, hq']
    obtain ⟨p, hp, hplay⟩ := begin_settles (cfg := cfg)
      (u := setPlayer u q.sounder (idlePlayer (player u q.sounder))) hplays hfind
    refine ⟨p, by rw [Sdu.free, hnext, hp, setPlayer_setPlayer], outranked_of_playing (q := q) ?_ fun x hx hxs => ?_⟩
    · rw [playingRequest, player_setPlayer_same, hplay]
      exact hfind
    · exact htop x (List.mem_filter.mpr ⟨hx, beq_iff_eq.mpr hxs⟩)

/-! #### The unit's share of the teardown (R169) -/

/-- R168: the request that the sounder plays has left the list. -/
def lost (u : Sdu) (snd : Sounder) : Bool := (player u snd).playing.isSome && (playingRequest u snd).isNone

theorem outranked_congr (u v : Sdu) {snd : Sounder} (hr : v.requests = u.requests) (hp : player v snd = player u snd) :
    Outranked v snd ↔ Outranked u snd := by
  unfold Outranked
  rw [playingRequest_eq hr (by rw [hp]), hp, hr]

theorem lost_congr (u v : Sdu) {snd : Sounder} (hr : v.requests = u.requests) (hp : player v snd = player u snd) :
    lost v snd = lost u snd := by
  rw [lost, lost, playingRequest_eq hr (by rw [hp]), hp]

theorem freeLost_cons (snd : Sounder) (rest : List Sounder) :
    u.freeLost cfg (snd :: rest) = if lost u snd then
        (((u.free cfg snd).1.freeLost cfg rest).1, (u.free cfg snd).2 ++ ((u.free cfg snd).1.freeLost cfg rest).2)
      else u.freeLost cfg rest := by
  cases h : lost u snd <;> simp only [Sdu.freeLost, lost] at h ⊢ <;> simp [h]

/-- R168, R169: every sounder that lost its request is handed on, and no other changes. -/
theorem freeLost_eq (l : List Sounder) : ∀ u : Sdu, l.Nodup → RequestsOk u → SoundPlays u →
    ∃ players, let v := { u with players := players }
      u.freeLost cfg l = (v, []) ∧ ∀ snd, (snd ∉ l ∨ lost u snd = false → player v snd = player u snd) ∧
        (snd ∈ l → lost u snd = true → Outranked v snd) := by
  induction l with
  | nil => exact fun u _ _ _ => ⟨u.players, rfl, fun snd => ⟨fun _ => rfl, fun h => by cases h⟩⟩
  | cons x l ih =>
    intro u hnodup hok hplays
    obtain ⟨hx, hl⟩ := List.nodup_cons.mp hnodup
    cases hlost : lost u x with
    | false =>
      obtain ⟨players, heq, hall⟩ := ih u hl hok hplays
      refine ⟨players, by rw [freeLost_cons, hlost]; exact heq, fun snd => ⟨fun h => (hall snd).1 ?_, fun h hls => ?_⟩⟩
      · exact h.imp_left (mt (List.mem_cons_of_mem _))
      · rcases List.mem_cons.mp h with rfl | h
        · rw [hlost] at hls
          cases hls
        · exact (hall snd).2 h hls
    | true =>
      obtain ⟨p, hp, hout⟩ := free_eq cfg hok hplays x
      obtain ⟨players, heq, hall⟩ := ih (setPlayer u x p) hl hok hplays
      have hother : ∀ snd, snd ≠ x → player (setPlayer u x p) snd = player u snd := fun snd h =>
        player_setPlayer_other u x p h
      refine ⟨players, by rw [freeLost_cons, hlost, if_pos rfl, hp, heq]; rfl,
        fun snd => ⟨fun h => ?_, fun h hls => ?_⟩⟩
      · by_cases hsx : snd = x
        · subst hsx
          rcases h with h | h
          · exact absurd List.mem_cons_self h
          · rw [hlost] at h
            cases h
        · refine ((hall snd).1 ?_).trans (hother snd hsx)
          refine h.imp (mt (List.mem_cons_of_mem _)) fun h => ?_
          exact (lost_congr u (setPlayer u x p) rfl (hother snd hsx)).trans h
      · by_cases hsx : snd = x
        · subst hsx
          exact (outranked_congr (setPlayer u snd p) { u with players := players } rfl ((hall snd).1 (.inl hx))).mpr hout
        · refine (hall snd).2 ((List.mem_cons.mp h).resolve_left hsx) ?_
          exact (lost_congr u (setPlayer u x p) rfl (hother snd hsx)).trans hls

end

theorem tornDown_eq (former : Desk) (q : SoundRequest) : tornDown former q = torn former q := by
  unfold tornDown torn
  cases h : q.source <;> simp
  all_goals rfl

/-- R169: the requests of a teardown leave, the sounders that played them are handed on, and nothing else. -/
theorem Sdu.teardown_eq (cfg : Settings) (former : Desk) {u : Sdu} (hok : SoundOk u) (hplays : SoundPlays u) :
    ∃ players, let v := { u with requests := u.requests.filter fun q => !torn former q, players := players }
      u.teardown cfg former = (v, []) ∧ SoundOk v ∧
      ∀ snd, (∀ q, playingRequest u snd = some q → torn former q = false) → player v snd = player u snd := by
  let w : Sdu := { u with requests := u.requests.filter fun q => !torn former q }
  have hwok : RequestsOk w := hok.1.shrinks (.of_filter rfl)
  have hwplays : SoundPlays w := ⟨hplays.1, hplays.2.1, fun q hq => hplays.2.2 q (List.mem_of_mem_filter hq)⟩
  have hfind : ∀ snd q, playingRequest u snd = some q → torn former q = false → playingRequest w snd = some q := by
    intro snd q hq ht
    obtain ⟨src, hsrc, hq⟩ := Option.bind_eq_some_iff.mp hq
    have hkey : q.source = src ∧ q.sounder = snd := by simpa using List.find?_some hq
    obtain ⟨rfl, rfl⟩ := hkey
    have hmem : q ∈ w.requests := List.mem_filter.mpr ⟨List.mem_of_find?_eq_some hq, by simp [ht]⟩
    exact Option.bind_eq_some_iff.mpr ⟨_, hsrc, findRequest_of_mem hwok.2 hmem⟩
  have hidle : ∀ snd, playingRequest u snd = none → (player u snd).playing = none ∧ ∀ x ∈ u.requests, x.sounder ≠ snd := by
    intro snd h
    have := hok.2 snd
    rwa [Outranked, h] at this
  have hkept : ∀ snd, (∀ q, playingRequest u snd = some q → torn former q = false) → lost w snd = false := by
    intro snd h
    cases hp : playingRequest u snd with
    | none => simp [lost, show (player w snd).playing = none from (hidle snd hp).1]
    | some q => simp [lost, hfind snd q hp (h q hp)]
  obtain ⟨players, heq, hall⟩ := freeLost_eq cfg allSounders w (by decide) hwok hwplays
  have hsame : u.teardown cfg former = w.freeLost cfg allSounders := by
    simp only [Sdu.teardown, tornDown_eq, w]
  refine ⟨players, hsame.trans heq, ⟨hwok, fun snd => ?_⟩, fun snd h => (hall snd).1 (.inr (hkept snd h))⟩
  cases hl : lost w snd with
  | true => exact (hall snd).2 (by cases snd <;> decide) hl
  | false =>
    refine (outranked_congr w { w with players := players } rfl ((hall snd).1 (.inr hl))).mpr ?_
    cases hp : playingRequest u snd with
    | none =>
      exact outranked_of_idle (hidle snd hp).1 fun x hx => (hidle snd hp).2 x (List.mem_of_mem_filter hx)
    | some q =>
      cases ht : torn former q with
      | false =>
        refine outranked_of_playing (hfind snd q hp ht) fun x hx hxs => ?_
        have := hok.2 snd
        rw [Outranked, hp] at this
        exact this x (List.mem_of_mem_filter hx) hxs
      | true =>
        obtain ⟨src, hsrc, hq⟩ := Option.bind_eq_some_iff.mp hp
        have hnone : playingRequest w snd = none := by
          by_contra hne
          obtain ⟨x, hx⟩ := Option.ne_none_iff_exists'.mp hne
          obtain ⟨src', hsrc', hx⟩ := Option.bind_eq_some_iff.mp hx
          obtain rfl : src = src' := Option.some.inj (hsrc.symm.trans hsrc')
          have hkey : ∀ {l : List SoundRequest} {y}, findRequest l src snd = some y → y.source = src ∧ y.sounder = snd :=
            fun hy => by simpa using List.find?_some hy
          obtain ⟨hmem, hno⟩ := List.mem_filter.mp (List.mem_of_find?_eq_some hx)
          have : x = q := List.inj_on_of_nodup_map hok.1.2 hmem (List.mem_of_find?_eq_some hq)
            (by rw [(hkey hx).1, (hkey hx).2, (hkey hq).1, (hkey hq).2])
          rw [this, ht] at hno
          cases hno
        simp [lost, hnone, show (player w snd).playing = some src from hsrc] at hl

theorem State.teardownSdu_of_bad_nil {s : State} (h : s.bad = []) (former : Desk) (byCommand : Bool) {u : Sdu}
    (hu : s.sdu.teardown s.settings former = (u, [])) :
    let removed := s.sdu.requests.any (torn former)
    s.teardownSdu former byCommand = { s with
      rst := { s.rst with slots := if removed && byCommand then emptySlots .sound s.rst.slots else s.rst.slots }
      sdu := u
      handed := s.handed ++ if removed && !byCommand then [.structuralChangeReport .sound] else [] } := by
  intro removed
  have hany : s.sdu.requests.any (tornDown former) = removed := by
    simp only [removed, funext (tornDown_eq former)]
  rw [State.teardownSdu, State.sduEvent_of_bad_nil h, State.teardownChange_eq, emptyIf_eq, hu, hany]
  simp only [List.append_nil]

/-- Settles O57. -/
theorem teardownIsDoneByEveryUnitBeforeARequest : Obligations.TeardownIsDoneByEveryUnitBeforeARequest := by
  unfold Obligations.TeardownIsDoneByEveryUnitBeforeARequest
  refine ⟨fun former byCommand s h => ⟨?_, ?_, ?_, fun hok hplays => ?_⟩,
    fun s => ⟨teardownDone_completeTeardown s, serve_completeTeardown s, State.completeTeardown_eq,
      fun c before after hs hb hc hd => ⟨_, exec_of_shareRow hc, completeTeardown_of_first hs hb hc hd⟩,
      fun c before after hs hfree hb hc => ⟨_, exec_of_shareRow (shareRow_of_shareConsequence hc),
        completeTeardown_of_consequence hs hfree hb hc⟩⟩⟩
  · exact congrArg Host.Outcome.next (by simp only [State.takeTeardown, State.teardownAt, State.teardownLcu, State.putLcu,
      State.take, List.append_nil])
  · exact congrArg Host.Outcome.next (State.teardownSru_of_bad_nil (s := s.take _) h byCommand)
  · have hshare := State.teardownRtu_of_bad_nil (s := s.take (.noDeskTeardown .rtu former byCommand)) h byCommand
    refine congrArg Host.Outcome.next (hshare.trans ?_)
    simp only [Rtu.teardown_eq, List.append_assoc]
    rfl
  · obtain ⟨players, hu, hsound, hkept⟩ := Sdu.teardown_eq s.settings former hok hplays
    exact ⟨_, rfl, hsound, hkept, congrArg Host.Outcome.next
      (State.teardownSdu_of_bad_nil (s := s.take _) h former byCommand hu)⟩

end Sys2Proof.Machine

namespace Sys2Proof.Machine

/-! ### What is outstanding at a service (R190, log 21) -/

/-- A vehicle in SERVICE at standstill, with no active desk, and the window's close on its way to the route unit. -/
def closingWindow : State := { State.reset with
  rst := { State.reset.rst with mode := .service }
  lcu := { State.reset.lcu with motion := .standstill }
  handed := [.windowClose] }

theorem teardownDone_closingWindow : teardownDone closingWindow := by
  intro c hc
  rw [List.mem_singleton.mp hc]
  exact ⟨rfl, rfl⟩

/-- R190: RECONFIGURE takes the window's close before its own work, so it is no longer outstanding. -/
theorem closingWindow_reconfigured :
    (closingWindow.serve .supervisor (.command false (commandCode .reconfigure) [])).handed = [] := by
  decide

/-- Refutes O58: by its second part a service leaves all that was outstanding in front of the record store's own
faults, but a RECONFIGURE takes the events on their way to the units it acts on (`State.reconfigure`, log 21). -/
theorem not_badWordsRaiseStoreParityAndRefuseCommands : ¬ Obligations.BadWordsRaiseStoreParityAndRefuseCommands := by
  unfold Obligations.BadWordsRaiseStoreParityAndRefuseCommands
  rintro ⟨-, hserve, -⟩
  obtain ⟨rest, hrest⟩ := hserve .supervisor (.command false (commandCode .reconfigure) []) closingWindow
    teardownDone_closingWindow
  rw [closingWindow_reconfigured] at hrest
  cases hrest

end Sys2Proof.Machine

namespace Sys2Proof.Machine

/-! ### Desk commands (R25 to R27) -/

/-- R23, R24: what a claim by desk `d` hands on. -/
def claimNews (d : Desk) : List Instr :=
  [.noticeRaise .deskChange, .conditionChange (deskCondition d) true, .deskStateChange (.active d)]

/-- R24, R32: what the end of desk `d`'s authority by a command hands on. -/
def releaseNews (d : Desk) : List Instr :=
  [.noticeRaise .deskChange, .conditionChange (deskCondition d) false,
    .noDeskTeardown .tdu d true, .noDeskTeardown .rtu d true, .noDeskTeardown .sru d true,
    .noDeskTeardown .sdu d true, .noDeskTeardown .lcu d true]

theorem Dau.change_claim {x : Dau} (h : x.state = .noDesk) (d : Desk) (cause : LastChange) :
    x.change (.active d) cause true = ({ x with state := .active d, lastChange := cause }, claimNews d) := by
  cases d <;> simp [Dau.change, deskConditions, holdsDesk, h, deskHandOn, claimNews, deskCondition]

theorem Dau.change_release {x : Dau} {d : Desk} (h : deskHolder x.state = some d) (cause : LastChange) :
    x.change .noDesk cause true = ({ x with state := .noDesk, lastChange := cause }, releaseNews d) := by
  cases d <;> simp [Dau.change, deskConditions, holdsDesk, h, deskHandOn, teardownEvents, releaseNews, deskCondition]

theorem Dau.mayClaim_iff {x : Dau} {d : Desk} : x.mayClaim d = true ↔
    x.state = .noDesk ∧ x.keySeen.get d = true ∧ x.keySeen.get (otherDesk d) = false ∧ x.motion = .standstill := by
  simp [Dau.mayClaim, and_assoc]

theorem Dau.mayRelease_iff {x : Dau} {d : Desk} {lever : Int} : x.mayRelease d lever = true ↔
    deskHolder x.state = some d ∧ x.motion = .standstill ∧ lever ≤ 0 := by
  simp [Dau.mayRelease, and_assoc]

theorem Dau.mayForce_iff {x : Dau} : x.mayForce = true ↔
    (∃ d, deskHolder x.state = some d) ∧ x.motion = .standstill := by
  simp [Dau.mayForce, Option.isSome_iff_exists]

/-! #### The desk unit's answers -/

@[simp] theorem portDesk_deskPort (d : Desk) : portDesk (deskPort d) = some d := by cases d <;> rfl

section
variable {x : State} {d : Desk} {args : List Byte}

theorem deskClaimAnswer_good (hn : NoArguments args) (hg : meetsBad x deskWords = false) :
    deskClaimAnswer (deskPort d) args x =
      if x.dau.mayClaim d then x.deskTaken (.active d) .claimed else .refuse x .wrongState := by
  simp only [deskClaimAnswer, readAll_nothing hn, portDesk_deskPort, hg, Bool.false_eq_true, if_false]

theorem deskReleaseAnswer_good (hn : NoArguments args) (hg : meetsBad x (releaseReads d) = false) :
    deskReleaseAnswer (deskPort d) args x =
      if x.dau.mayRelease d (x.tdu.demand.get d).lever then x.deskTaken .noDesk .released
      else .refuse x .wrongState := by
  simp only [deskReleaseAnswer, readAll_nothing hn, portDesk_deskPort, hg, Bool.false_eq_true, if_false]

theorem deskForceReleaseAnswer_good (hn : NoArguments args) (hg : meetsBad x deskWords = false) :
    deskForceReleaseAnswer args x =
      if x.dau.mayForce then x.deskTaken .noDesk .forceReleased else .refuse x .wrongState := by
  simp only [deskForceReleaseAnswer, readAll_nothing hn, hg, Bool.false_eq_true, if_false]

end

section
variable {s : State} {p : Port} {cond : Bool} {c : CommandName} {args : List Byte}

/-- R12, R24: a desk command that the desk unit takes is a change of DESK by its own port. -/
theorem exec_command_deskTaken {new : DeskState} {cause : LastChange} {x : Dau} {out : List Instr}
    (h : CommandReaches s p cond c args) (ht : commandTarget c = .desk)
    (ha : commandAnswer p args (s.background p (.command cond (commandCode c) args)) c =
      (s.background p (.command cond (commandCode c) args)).deskTaken new cause)
    (hx : s.dau.change new cause true = (x, out)) :
    ∃ b, b.Sublist s.bad ∧ exec (commandRow p cond args c) s = .next { s.servedDone p cond true .desk with
      dau := x, bad := b, handed := s.handed ++ out } := by
  refine ⟨s.bad.filter fun w => !(s.dau.rewrote x w || notedWords out w), List.filter_sublist, ?_⟩
  rw [exec_commandRow, State.request_command_answer h ha, ht, State.deskTaken, background_dau, hx]
  exact congrArg Host.Outcome.next
    ((Answer.finish_done_kept (q := .command cond (commandCode c) args) (by rfl) (by rfl)).trans rfl)

/-- A command that its owner refuses. -/
theorem exec_command_refused {why : Reason} (h : CommandReaches s p cond c args)
    (ha : commandAnswer p args (s.background p (.command cond (commandCode c) args)) c =
      .refuse (s.background p (.command cond (commandCode c) args)) why) :
    exec (commandRow p cond args c) s = .next (s.servedRefused p cond why) := by
  rw [exec_commandRow, State.request_command_answer h ha, Answer.finish_refuse]

end

/-- Settles O15: the desk unit takes each command where its conditions hold, and refuses it elsewhere. -/
theorem deskCommandsClaimAndRelease : Obligations.DeskCommandsClaimAndRelease := by
  unfold Obligations.DeskCommandsClaimAndRelease
  refine ⟨fun d cond args s hn h hg => ⟨fun hs hk ho hm => ?_, fun hno => ?_⟩, fun p cond args s hn =>
    ⟨fun d hp h hg => ⟨fun hd hm hl => ?_, fun hno => ?_⟩, fun h hg => ⟨fun d hd hm => ?_, fun hno => ?_⟩⟩⟩
  · exact exec_command_deskTaken h rfl ((deskClaimAnswer_good (x := s.background _ _) hn hg).trans
      (if_pos (Dau.mayClaim_iff.mpr ⟨hs, hk, ho, hm⟩))) (Dau.change_claim hs d _)
  · exact exec_command_refused h
      ((deskClaimAnswer_good (x := s.background _ _) hn hg).trans (if_neg (mt Dau.mayClaim_iff.mp hno)))
  · subst hp
    exact exec_command_deskTaken h rfl ((deskReleaseAnswer_good (x := s.background _ _) hn hg).trans
      (if_pos (Dau.mayRelease_iff.mpr ⟨hd, hm, hl⟩))) (Dau.change_release hd _)
  · subst hp
    exact exec_command_refused h
      ((deskReleaseAnswer_good (x := s.background _ _) hn hg).trans (if_neg (mt Dau.mayRelease_iff.mp hno)))
  · exact exec_command_deskTaken h rfl ((deskForceReleaseAnswer_good (x := s.background _ _) hn hg).trans
      (if_pos (Dau.mayForce_iff.mpr ⟨⟨d, hd⟩, hm⟩))) (Dau.change_release hd _)
  · have hmay : ¬ s.dau.mayForce = true := by
      rw [Dau.mayForce_iff]
      rintro ⟨⟨d, hd⟩, hm⟩
      simp [hd, hm] at hno
    exact exec_command_refused h
      ((deskForceReleaseAnswer_good (x := s.background _ _) hn hg).trans (if_neg hmay))

end Sys2Proof.Machine

namespace Sys2Proof.Machine

/-! ### A service that takes a key fall, its teardown and a claim (R22, R28, R32, log 4) -/

/-- A vehicle in SERVICE at standstill, in NO_DESK with the key of desk A seen. The driver has since taken that key
out and put the key of desk B in: both events are on their way to the desk unit. A claim by desk A waits, and behind it
one by desk B. -/
def keysMoved : State := { State.reset with
  rst := { State.reset.rst with mode := .service }
  dau := { State.reset.dau with keySeen := ⟨true, false⟩ }
  handed := [.keyPermitEvent .a false, .keyPermitEvent .b true]
  pending := [.deskClaim .deskA false [], .deskClaim .deskB false []] }

/-- The same after the claim by desk A: its desk state change is outstanding behind the two key events. -/
def claimedByA : State := { keysMoved with
  rst := { keysMoved.rst with served := some .deskA }
  dau := { keysMoved.dau with state := .active .a, lastChange := .claimed }
  handed := keysMoved.handed ++ [.noticeRaise .deskChange, .conditionChange .deskAActive true,
    .deskStateChange (.active .a)]
  pending := [.deskClaim .deskB false []] }

/-- R25: the claim by desk A is taken, for no desk state change is outstanding and the key events wait. -/
theorem step_keysMoved : step keysMoved = .next claimedByA := by rfl

/-- R28, R32: serving the claim by desk B takes the outstanding desk state change and the key events in front of it,
and with the fall of desk A's key the teardown; the claim then finds NO_DESK. -/
theorem serve_claimedByA_dau :
    (claimedByA.request .deskB (.command false (commandCode .deskClaim) [])).dau.state = .active .b := by decide

/-- Refutes O18: one step serves the claim by desk B in ACTIVE_A. The fall of desk A's key is taken within the service
(R28, log 4), so that authority passes through NO_DESK, but from before the step to after it from desk A to desk B. -/
theorem not_authorityPassesOnlyThroughNoDesk : ¬ Obligations.AuthorityPassesOnlyThroughNoDesk := by
  unfold Obligations.AuthorityPassesOnlyThroughNoDesk
  intro h
  obtain ⟨hpass, -⟩ := h claimedByA _ rfl
  have : Desk.a = .b := hpass .a .b rfl (congrArg deskHolder serve_claimedByA_dau)
  cases this

end Sys2Proof.Machine

namespace Sys2Proof.Machine

/-! ### The check of the cell graph (R46) -/

/-- Settles O10: placing the cells in graph order stops early exactly where some cell reaches itself. -/
theorem cycleCheckFindsExactlyTheCycles : Obligations.CycleCheckFindsExactlyTheCycles := by
  unfold Obligations.CycleCheckFindsExactlyTheCycles
  exact hasCycle_iff_cyclic

end Sys2Proof.Machine

namespace Sys2Proof.Machine

/-! ### A settle in graph order (R41 to R49) -/

section
variable {t : Table CellEntry 16}

/-- R47: the last cell placed is a new one, and reads only cells placed in front of it. -/
theorem PlacedInOrder.of_append {placed : List (Fin 16)} {c : Fin 16} (h : PlacedInOrder t (placed ++ [c])) :
    PlacedInOrder t placed ∧ c ∉ placed ∧ ∀ y ∈ cellReads t[c], y ∈ placed := by
  obtain ⟨hn, ho⟩ := h
  have hc : c ∉ placed := fun hc => (List.nodup_append.mp hn).2.2 c hc c (List.mem_singleton_self c) rfl
  have before : ∀ x y, y ∈ placed ++ [c] → (placed ++ [c]).idxOf y < (placed ++ [c]).idxOf x →
      x ∈ placed ++ [c] → y ∈ placed := by
    intro x y hy hlt hx
    by_contra hne
    obtain rfl := List.mem_singleton.mp ((List.mem_append.mp hy).resolve_left hne)
    have := List.idxOf_lt_length_of_mem hx
    rw [List.length_append, List.length_singleton] at this
    rw [List.idxOf_append_of_notMem hne] at hlt
    omega
  have hread : ∀ x ∈ placed ++ [c], ∀ y ∈ cellReads t[x], y ∈ placed := fun x hx y hy =>
    before x y (ho x hx y hy).1 (ho x hx y hy).2 hx
  refine ⟨⟨(List.nodup_append.mp hn).1, fun x hx y hy => ?_⟩, hc, hread c (by simp)⟩
  have hp := hread x (List.mem_append_left _ hx) y hy
  have hlt := (ho x (List.mem_append_left _ hx) y hy).2
  rw [List.idxOf_append_of_mem hp, List.idxOf_append_of_mem hx] at hlt
  exact ⟨hp, hlt⟩

/-- R47: the graph order of an acyclic table holds every cell. -/
theorem mem_graphOrder (h : ¬ Cyclic t) (c : Fin 16) : c ∈ graphOrder t := by
  obtain ⟨⟨hn, -⟩, -⟩ := graphOrder_inOrder t
  by_contra hc
  have hlen := (List.nodup_cons.mpr ⟨hc, hn⟩).length_le_card
  rw [List.length_cons, Fintype.card_fin] at hlen
  exact h ((hasCycle_iff_cyclic t).mp (decide_eq_true hlen))

end

/-! #### What a settle leaves unchanged -/

/-- R47: the cells' outputs and timers apart, the two states of the unit are one. -/
def CellsAlone (l m : Lmu) : Prop := m = { l with output := m.output, delay := m.delay }

theorem CellsAlone.trans {l m n : Lmu} (h : CellsAlone l m) (g : CellsAlone m n) : CellsAlone l n := by
  unfold CellsAlone at h g ⊢
  rw [h] at g
  exact g

theorem cellsAlone_foldl (order : List (Fin 16)) : ∀ l : Lmu, CellsAlone l (order.foldl Lmu.settleCell l) := by
  induction order with
  | nil => exact fun _ => rfl
  | cons c order ih => exact fun l => CellsAlone.trans (m := l.settleCell c) rfl (ih _)

section
variable {l m : Lmu}

theorem CellsAlone.active (h : CellsAlone l m) : m.active = l.active := by rw [h]

/-- R41: a source follows, of what a settle changes, the cell it names. -/
theorem CellsAlone.sourceValue (h : CellsAlone l m) {src : CellSource}
    (hc : ∀ y ∈ sourceCell src, m.output[y] = l.output[y]) : sourceValue m src = sourceValue l src := by
  cases src with
  | cell y => exact hc y (List.mem_singleton_self y)
  | line n => rw [h]; rfl
  | constantTrue => rfl
  | condition c => rw [h]; rfl

/-- R41: the inputs of a cell follow, of what a settle changes, the cells it reads. -/
theorem CellsAlone.inputs (h : CellsAlone l m) {e : CellEntry} (hc : ∀ y ∈ cellReads e, m.output[y] = l.output[y]) :
    inputA m e = inputA l e ∧ inputB m e = inputB l e := by
  have ha := h.sourceValue (src := e.a) fun y hy => hc y (List.mem_append_left _ hy)
  have hb := h.sourceValue (src := e.b) fun y hy => hc y (List.mem_append_right _ hy)
  exact ⟨congrArg (xor · e.aInvert) ha, congrArg (xor · e.bInvert) hb⟩

end

/-! #### One cell, and the cells one after the other -/

/-- R47: cell `c` stands in `m` at its kind's function of the values of its inputs there, and of its output and its
timer from before the settle, in `l`. -/
def StandsSettled (l m : Lmu) (c : Fin 16) : Prop :=
  (m.output[c], m.delay[c]) = cellNext l.active.cells[c].kind l.active.cells[c].delay (inputA m l.active.cells[c])
    (inputB m l.active.cells[c]) l.output[c] l.delay[c]

theorem Lmu.settleCell_same (m : Lmu) (c : Fin 16) :
    ((m.settleCell c).output[c], (m.settleCell c).delay[c]) = cellNext m.active.cells[c].kind m.active.cells[c].delay
      (inputA m m.active.cells[c]) (inputB m m.active.cells[c]) m.output[c] m.delay[c] := by
  simp [Lmu.settleCell]

theorem Lmu.settleCell_other (m : Lmu) {c x : Fin 16} (h : x ≠ c) :
    (m.settleCell c).output[x] = m.output[x] ∧ (m.settleCell c).delay[x] = m.delay[x] := by
  have : (c : Nat) ≠ x := fun e => h (Fin.ext e.symm)
  simp [Lmu.settleCell, this]

/-- R47: settled in an order in which each cell stands behind every cell it reads, the cells of that order all stand
settled in the end, for none is read before its own turn; the others are as before. -/
theorem foldl_settleCell_settled (l : Lmu) (order : List (Fin 16)) (h : PlacedInOrder l.active.cells order) :
    (∀ c ∈ order, StandsSettled l (order.foldl Lmu.settleCell l) c) ∧
    ∀ c ∉ order, (order.foldl Lmu.settleCell l).output[c] = l.output[c] ∧
      (order.foldl Lmu.settleCell l).delay[c] = l.delay[c] := by
  induction order using List.reverseRecOn with
  | nil => exact ⟨by simp, fun _ _ => ⟨rfl, rfl⟩⟩
  | append_singleton placed c ih =>
    obtain ⟨hplaced, hnew, hreads⟩ := h.of_append
    obtain ⟨hsettled, hsame⟩ := ih hplaced
    have hactive := (cellsAlone_foldl placed l).active
    rw [List.foldl_append, List.foldl_cons, List.foldl_nil]
    generalize placed.foldl Lmu.settleCell l = m at hsettled hsame hactive
    have hinputs : ∀ x ∈ placed ++ [c], inputA (m.settleCell c) l.active.cells[x] = inputA m l.active.cells[x] ∧
        inputB (m.settleCell c) l.active.cells[x] = inputB m l.active.cells[x] := by
      intro x hx
      have hbehind : ∀ y ∈ cellReads l.active.cells[x], y ∈ placed := by
        rcases List.mem_append.mp hx with hx | hx
        · exact fun y hy => (hplaced.2 x hx y hy).1
        · exact List.mem_singleton.mp hx ▸ hreads
      exact CellsAlone.inputs (l := m) (m := m.settleCell c) rfl fun y hy =>
        (Lmu.settleCell_other m (ne_of_mem_of_not_mem (hbehind y hy) hnew)).1
    refine ⟨fun x hx => ?_, fun x hx => ?_⟩
    · unfold StandsSettled
      rw [(hinputs x hx).1, (hinputs x hx).2]
      rcases List.mem_append.mp hx with hx | hx
      · obtain ⟨ho, hd⟩ := Lmu.settleCell_other m (ne_of_mem_of_not_mem hx hnew)
        rw [ho, hd]
        exact hsettled x hx
      · obtain rfl := List.mem_singleton.mp hx
        rw [Lmu.settleCell_same, hactive, (hsame x hnew).1, (hsame x hnew).2]
    · rw [List.mem_append, not_or, List.mem_singleton] at hx
      obtain ⟨ho, hd⟩ := Lmu.settleCell_other m hx.2
      rw [ho, hd]
      exact hsame x hx.1

/-! #### Permits -/

@[simp] theorem Lmu.deliver_delivered (l : Lmu) (p : Permit) :
    l.deliver.1.delivered[permitIndex p] = permitValue l p := by
  cases p <;> simp [Lmu.deliver, permitIndex, allPermits]

theorem State.settleFrom_eq (s : State) (l : Lmu) : s.settleFrom l = { s with
    lmu := l.settle.1
    handed := s.handed ++ parityFaults s .lmu activeWords none ++ l.settle.2 } := by
  simp only [State.settleFrom, State.putLmu, List.append_assoc]

/-- R48, R49: a settle is that of the cells, and then each permit is delivered. -/
theorem Lmu.settle_eq (l : Lmu) : l.settle = ({ l with
      output := l.settle.1.output, delay := l.settle.1.delay, delivered := l.settle.1.delivered },
    (allPermits.filter fun p => permitValue l.settle.1 p != l.delivered[permitIndex p]).map
      fun p => permitEvent p (permitValue l.settle.1 p)) := by
  have h : CellsAlone l l.settleCells := cellsAlone_foldl _ l
  have hout : l.settle.2 = (allPermits.filter fun p => permitValue l.settleCells p !=
      l.settleCells.delivered[permitIndex p]).map fun p => permitEvent p (permitValue l.settleCells p) := rfl
  have hkept : l.settleCells.delivered = l.delivered := by rw [h]
  refine Prod.ext ?_ (hout.trans (by rw [hkept]; rfl))
  exact (congrArg (fun m : Lmu => { m with delivered := l.settle.1.delivered }) h).trans rfl

/-! #### The kinds -/

section
variable {delay : Nat} {a b out : Bool} {timer : Timer}

/-- R44: the cases of an ON_DELAY cell. -/
theorem cellNext_onDelay_iff {x : Bool} {t : Timer} : cellNext .onDelay delay a b out timer = (x, t) ↔
    (a = false ∧ x = false ∧ t = none) ∨
    (a = true ∧ out = true ∧ x = true ∧ t = timer) ∨
    (a = true ∧ out = false ∧ timer.isSome ∧ x = false ∧ t = timer) ∨
    (a = true ∧ out = false ∧ timer = none ∧ delay = 0 ∧ x = true ∧ t = none) ∨
    (a = true ∧ out = false ∧ timer = none ∧ 0 < delay ∧ x = false ∧ t = some delay) := by
  refine eq_comm.trans ?_
  cases a with
  | false => simp [cellNext]
  | true =>
    cases out with
    | true => simp [cellNext]
    | false =>
      cases timer with
      | some n => simp [cellNext]
      | none =>
        rcases Nat.eq_zero_or_pos delay with hd | hd
        · simp [cellNext, hd]
        · simp [cellNext, Nat.pos_iff_ne_zero.mp hd, hd]

end

/-- Settles O20: a kind's function case by case; a settle by induction along the graph order. -/
theorem cellsAndPermitsSettleAtTheirFunctions : Obligations.CellsAndPermitsSettleAtTheirFunctions := by
  unfold Obligations.CellsAndPermitsSettleAtTheirFunctions
  refine ⟨fun delay a b out timer x t => ⟨fun k hk => ?_, ?_, ?_, ?_, ?_, ?_, ?_, ?_, cellNext_onDelay_iff⟩,
    fun s l hacyclic => ?_⟩
  · fin_cases hk <;> rfl
  · simp [cellNext]
  · simp [cellNext]
  · simp [cellNext]
  · simp [cellNext]
  · cases a <;> simp [cellNext]
  · simp [cellNext]
  · cases b <;> cases a <;> simp [cellNext]
  · have hsettled := (foldl_settleCell_settled l _ (graphOrder_inOrder l.active.cells).1).1
    rw [State.settleFrom_eq]
    refine ⟨?_, fun c => hsettled c (mem_graphOrder hacyclic c), fun p => Lmu.deliver_delivered l.settleCells p⟩
    conv_lhs => rw [Lmu.settle_eq]

end Sys2Proof.Machine
namespace Sys2Proof.Machine

/-! ### Input events of the matrix (R38, R39, R44, R45) -/

section
variable {s : State} {n : Fin 32} {v : Bool}

/-- R38: a level that repeats is no change. -/
theorem State.rawChange_repeated (h : s.lmu.raw[n] = v) : s.rawChange n v = s := if_pos h

/-- R38: a plain input back at its taken level. -/
theorem State.rawChange_returned (h : s.lmu.raw[n] ≠ v) (hg : s.lmu.active.lines[n].group = .plainInput)
    (ht : s.lmu.taken[n] = v) : s.rawChange n v = { s with
      lmu := { s.lmu with raw := s.lmu.raw.set n v, debounce := s.lmu.debounce.set n none } } := by
  simp only [State.rawChange, if_neg h, hg, ht, if_true, State.putLmu_nil]

/-- R38: a plain input away from its taken level, with a debounce to run. -/
theorem State.rawChange_debounced (h : s.lmu.raw[n] ≠ v) (hg : s.lmu.active.lines[n].group = .plainInput)
    (ht : s.lmu.taken[n] ≠ v) (hd : 0 < s.lmu.active.lines[n].debounce) : s.rawChange n v = { s with
      lmu := { s.lmu with
        raw := s.lmu.raw.set n v, debounce := s.lmu.debounce.set n (some s.lmu.active.lines[n].debounce) } } := by
  simp only [State.rawChange, if_neg h, hg, if_neg ht.symm, if_neg hd.ne', State.putLmu_nil]

/-- R38: a plain input away from its taken level, with none. -/
theorem State.rawChange_taken (h : s.lmu.raw[n] ≠ v) (hg : s.lmu.active.lines[n].group = .plainInput)
    (ht : s.lmu.taken[n] ≠ v) (hd : s.lmu.active.lines[n].debounce = 0) :
    s.rawChange n v = { s with lmu := { s.lmu with raw := s.lmu.raw.set n v } }.takeLevel n v := by
  simp only [State.rawChange, if_neg h, hg, if_neg ht.symm, if_pos hd, State.putLmu_nil]

/-- R39: a rise of the tachometer line is a pulse. -/
theorem State.rawChange_tach (h : s.lmu.raw[n] ≠ v) (hg : s.lmu.active.lines[n].group = .tachInput) :
    s.rawChange n v = { s with
      lmu := { s.lmu with raw := s.lmu.raw.set n v }, handed := s.handed ++ (if v then [.tachPulse] else []) } := by
  simp only [State.rawChange, if_neg h, hg, State.putLmu]

/-- R38: the raw level of a line that is no input is kept, and no more. -/
theorem State.rawChange_other (h : s.lmu.raw[n] ≠ v) (hp : s.lmu.active.lines[n].group ≠ .plainInput)
    (ht : s.lmu.active.lines[n].group ≠ .tachInput) :
    s.rawChange n v = { s with lmu := { s.lmu with raw := s.lmu.raw.set n v } } := by
  simp only [State.rawChange, if_neg h]
  cases hg : s.lmu.active.lines[n].group with
  | plainInput => exact absurd hg hp
  | tachInput => exact absurd hg ht
  | unused => exact s.putLmu_nil _
  | cellOutput => exact s.putLmu_nil _
  | sounderOutput => exact s.putLmu_nil _
  | stateOutput => exact s.putLmu_nil _

theorem exec_debounceTimerExpiry_running {ms : Nat} (h : s.lmu.debounce[n] = some ms) :
    exec (.debounceTimerExpiry n) s = .next ((s.take (.debounceTimerExpiry n)).takeLevel n s.lmu.raw[n]) := by
  simp only [exec, execDebounceTimerExpiry, State.take_lmu, h]

theorem exec_debounceTimerExpiry_stopped (h : s.lmu.debounce[n] = none) :
    exec (.debounceTimerExpiry n) s = .next (s.take (.debounceTimerExpiry n)) := by
  simp only [exec, execDebounceTimerExpiry, State.take_lmu, h]

theorem exec_onDelayTimerExpiry_running {c : Fin 16} {ms : Nat} (h : s.lmu.delay[c] = some ms) :
    exec (.onDelayTimerExpiry c) s =
      .next ((s.take (.onDelayTimerExpiry c)).settleFrom (s.lmu.delayExpiry c)) := by
  simp only [exec, execOnDelayTimerExpiry, State.take_lmu, h]

theorem exec_onDelayTimerExpiry_stopped {c : Fin 16} (h : s.lmu.delay[c] = none) :
    exec (.onDelayTimerExpiry c) s = .next (s.take (.onDelayTimerExpiry c)) := by
  simp only [exec, execOnDelayTimerExpiry, State.take_lmu, h]

/-- R45: an event that brings a condition's value settles the matrix where the value is another one. -/
theorem becomes_of_takeCondition {e : Instr} {c : Condition}
    (h : exec e s = .next ((s.take e).takeCondition c v)) :
    (conditionValue s.lmu c ≠ v → exec e s = .next ((s.take e).settleFrom { s.lmu with
      conditions := s.lmu.conditions.set (conditionIndex c) v })) ∧
    (conditionValue s.lmu c = v → exec e s = .next (s.take e)) :=
  ⟨fun hv => h.trans (congrArg Host.Outcome.next (if_neg hv)),
    fun hv => h.trans (congrArg Host.Outcome.next (if_pos hv))⟩

end

/-- Settles O19: each event of a line, a timer or a condition by its own rule. -/
theorem lineAndConditionEventsSettleTheMatrix : Obligations.LineAndConditionEventsSettleTheMatrix := by
  unfold Obligations.LineAndConditionEventsSettleTheMatrix
  refine ⟨fun n v s => ?_, fun s => ⟨fun n => ?_, fun c => ?_, ?_⟩⟩
  · have run : exec (.rawLevelChange n v) s = .next ((s.take (.rawLevelChange n v)).rawChange n v) := rfl
    have ends {x : State} (h : (s.take (.rawLevelChange n v)).rawChange n v = x) :
        exec (.rawLevelChange n v) s = .next x := run.trans (congrArg Host.Outcome.next h)
    refine ⟨fun h => ends (State.rawChange_repeated h), fun h =>
      ⟨fun hg => ⟨fun ht => ?_, fun ht hd => ?_, fun ht hd => ?_⟩, fun hg => ?_, fun hp ht => ?_⟩⟩
    · exact ends (State.rawChange_returned h hg ht)
    · exact ends (State.rawChange_debounced h hg ht hd)
    · exact ends (State.rawChange_taken h hg ht hd)
    · exact ends (State.rawChange_tach h hg)
    · exact ends (State.rawChange_other h hp ht)
  · exact ⟨fun ms h => exec_debounceTimerExpiry_running h, exec_debounceTimerExpiry_stopped⟩
  · exact ⟨fun ms h => exec_onDelayTimerExpiry_running h, exec_onDelayTimerExpiry_stopped⟩
  · exact ⟨fun c v => becomes_of_takeCondition rfl, becomes_of_takeCondition rfl, becomes_of_takeCondition rfl,
      becomes_of_takeCondition rfl, becomes_of_takeCondition rfl⟩

end Sys2Proof.Machine

namespace Sys2Proof.Machine

/-! ### Output lines (R53, R54) -/

/-- R53: a line of one of the three output groups. -/
def IsOutput (g : LineGroup) : Prop := g = .cellOutput ∨ g = .sounderOutput ∨ g = .stateOutput

section
variable {l : Lmu} {u : Sdu} {n : Fin 32}

/-- R54: the emergency brake line shows the lockdown state in both modes. -/
theorem lineDrive_emergencyBrake (hg : l.active.lines[n].group = .stateOutput)
    (hf : l.active.lines[n].stateFn = .emergencyBrake) : lineDrive l u n = conditionValue l .lockdown := by
  simp only [lineDrive, hg, hf, beq_self_eq_true, Bool.and_self, if_true]

/-- R53: a line that is no output is not driven. -/
theorem lineDrive_input (h : ¬ IsOutput l.active.lines[n].group) : lineDrive l u n = false := by
  have hn : normalSource l u l.active.lines[n] = false := by
    unfold normalSource
    split
    case h_1 hg => exact absurd (.inl hg) h
    case h_2 hg => exact absurd (.inr (.inl hg)) h
    case h_3 hg => exact absurd (.inr (.inr hg)) h
    all_goals rfl
  simp only [IsOutput, not_or] at h
  obtain ⟨hc, hs, ht⟩ := h
  simp only [lineDrive, hn, beq_false_of_ne hc, beq_false_of_ne hs, beq_false_of_ne ht]
  cases l.active.lines[n].drive <;> simp

/-- R54: the drive of every other output line. -/
theorem lineDrive_output (ho : IsOutput l.active.lines[n].group)
    (hb : ¬ (l.active.lines[n].group = .stateOutput ∧ l.active.lines[n].stateFn = .emergencyBrake)) :
    lineDrive l u n =
      if conditionValue l .serviceMode = false then false
      else if conditionValue l .lockdown = false then normalSource l u l.active.lines[n]
      else match l.active.lines[n].drive with
        | .follow => normalSource l u l.active.lines[n]
        | .off => false
        | .on => true := by
  have hon : (l.active.lines[n].group == .cellOutput || l.active.lines[n].group == .sounderOutput
      || l.active.lines[n].group == .stateOutput) = true := by
    rcases ho with h | h | h <;> rw [h] <;> rfl
  have hbrake : (l.active.lines[n].group == .stateOutput && l.active.lines[n].stateFn == .emergencyBrake) = false := by
    simpa using hb
  simp only [lineDrive, hbrake, hon]
  cases conditionValue l .serviceMode <;> cases conditionValue l .lockdown <;> rfl

/-- R36: the level of an output line is its drive. -/
theorem presentLevel_output (h : IsOutput l.active.lines[n].group) : presentLevel l u n = lineDrive l u n := by
  unfold presentLevel
  rcases h with h | h | h <;> rw [h]

end

/-- R158, R160: every sounder but the bell is driven through the ON phase of what it plays. -/
theorem sounderDrive_of_ne_bell (u : Sdu) {snd : Sounder} (h : snd ≠ .bell) : sounderDrive u snd =
    ((u.players[sounderIndex snd]).playing.isSome && (u.players[sounderIndex snd]).phase == .on) := by
  cases snd with
  | bell => exact absurd rfl h
  | horn => rfl
  | buzzerA => rfl
  | buzzerB => rfl
  | chime => rfl

/-- Settles O21: the drive by the line's group, the normal source by its group and its state function. -/
theorem outputLinesAreDrivenByModeLockdownAndSource : Obligations.OutputLinesAreDrivenByModeLockdownAndSource := by
  unfold Obligations.OutputLinesAreDrivenByModeLockdownAndSource
  intro l u n
  refine ⟨lineDrive_emergencyBrake, fun hg => lineDrive_input ?_, fun hg => lineDrive_output ?_ ?_, fun hg => ?_,
    fun hg => ?_, fun hg => ?_, rfl, fun snd => sounderDrive_of_ne_bell u, presentLevel_output⟩
  · rcases hg with h | h | h <;> rw [h] <;> simp [IsOutput]
  · exact hg.imp_right (Or.imp_right And.left)
  · rcases hg with h | h | ⟨h, hf⟩
    · rw [h]
      exact fun hb => nomatch hb.1
    · rw [h]
      exact fun hb => nomatch hb.1
    · exact fun hb => hf hb.2
  · simp only [normalSource, hg]
  · simp only [normalSource, hg]
  · refine ⟨fun hf => ?_, fun hf => ?_, fun hf => ?_, fun hf => ?_, fun hf => ?_⟩ <;>
      simp only [normalSource, hg, hf]

end Sys2Proof.Machine

namespace Sys2Proof.Machine

/-! ### Notices, the stop value and motion at the fault and notice unit (R51, R94, R172, R180) -/

/-- R191: the bit of a cause gives its place back. -/
theorem cause_of_place (c : Cause) : Cause.ofNat (causePriority c - 1) = c := by cases c <;> rfl

/-- R191: the bit of a cause stands for that cause alone. -/
theorem inSet_causeBit (c x : Cause) : inSet (causeBit c) x = true ↔ x = c := by
  have hc : causePriority c - 1 < 16 := by cases c <;> decide
  have hbit : causeBit c = BitVec.twoPow 16 (causePriority c - 1) := rfl
  rw [inSet, hbit, BitVec.getLsbD_twoPow, decide_eq_true hc, Bool.true_and, decide_eq_true_iff]
  constructor
  · intro h
    rw [← cause_of_place x, ← h, cause_of_place]
  · rintro rfl
    rfl

/-- R180: what a raise does to a port's pending and seen set, cause by cause. -/
theorem inSet_raiseIn (c x : Cause) (n : NoticeSets) :
    (inSet (raiseIn c n).pending x = true ↔ x = c ∨ inSet n.pending x = true) ∧
    (inSet (raiseIn c n).seen x = true ↔ x ≠ c ∧ inSet n.seen x = true) := by
  have hx : causePriority x - 1 < 16 := by cases x <;> decide
  have hbit : (causeBit c).getLsbD (causePriority x - 1) = true ↔ x = c := inSet_causeBit c x
  constructor
  · simp only [raiseIn, inSet, BitVec.getLsbD_or, Bool.or_eq_true, hbit, or_comm]
  · simp only [raiseIn, inSet, BitVec.getLsbD_and, BitVec.getLsbD_not, hx, decide_true, Bool.true_and,
      Bool.and_eq_true, Bool.not_eq_true', Bool.eq_false_iff, ne_eq, hbit, and_comm]

section
variable {s : State}

theorem State.takeNotice_of_bad_nil (h : s.bad = []) (c : Cause) :
    s.takeNotice c = { s with fnu := s.fnu.raise c } := by
  rw [State.takeNotice, parityFaults_of_bad_nil h, State.putFnu_of_bad_nil h, List.append_nil]
  exact State.rewrite_of_bad_nil { s with fnu := s.fnu.raise c } h _

/-- R90, R94: a NOTIFY that the location unit has handed on is the last location event already. -/
theorem State.notifyEvent_eq (s : State) (entry beacon : Nat) : s.notifyEvent entry beacon = { s with
    lcu := { s.lcu with
      lastEvent := if .notifyAction entry beacon ∈ s.handed then s.lcu.lastEvent
        else some ⟨.notify, entry, beacon, .notify⟩ } } := by
  by_cases h : .notifyAction entry beacon ∈ s.handed
  · simp only [State.notifyEvent, List.contains_iff_mem.mpr h, h, if_true]
  · simp only [State.notifyEvent, h, List.contains_iff_mem, if_false, State.putLcu_nil]

/-- An event that is kept at the unit, with no word to repair. -/
theorem exec_of_putFnu {c : Instr} {x : Fnu} {out : List Instr} (h : s.bad = [])
    (hc : exec c s = .next ((s.take c).putFnu x out)) :
    exec c s = .next { s with fnu := x, handed := s.handed.erase c ++ out } :=
  hc.trans (congrArg Host.Outcome.next (State.putFnu_of_bad_nil (s := s.take c) h x out))

theorem exec_of_putFnu_nil {c : Instr} {x : Fnu} (h : s.bad = []) (hc : exec c s = .next ((s.take c).putFnu x [])) :
    exec c s = .next { s with fnu := x, handed := s.handed.erase c } := by
  rw [exec_of_putFnu h hc, List.append_nil]

end

/-- Settles O52: a raise port by port and cause by cause; each other event by what the unit keeps of it. -/
theorem noticesStopValueAndMotionAreKept : Obligations.NoticesStopValueAndMotionAreKept := by
  unfold Obligations.NoticesStopValueAndMotionAreKept
  refine ⟨fun c s hb => ⟨?_, fun p x => ?_, rfl⟩, fun s hb => ⟨?_, ?_, ?_, ?_, fun entry beacon => ?_⟩⟩
  · exact congrArg Host.Outcome.next (State.takeNotice_of_bad_nil (s := s.take _) hb c)
  · obtain ⟨hpending, hseen⟩ := inSet_raiseIn c x (s.fnu.notices.get p)
    simp only [Fnu.raise, PerPort.get_map]
    exact ⟨hpending, hseen, rfl⟩
  · exact exec_of_putFnu hb rfl
  · exact exec_of_putFnu_nil hb rfl
  · exact exec_of_putFnu_nil hb rfl
  · exact exec_of_putFnu_nil hb rfl
  · have run : exec (.notifyAction entry beacon) s =
        .next (((s.notifyEvent entry beacon).take (.notifyAction entry beacon)).takeNotice .locationEvent) := rfl
    rw [run, State.notifyEvent_eq]
    exact congrArg Host.Outcome.next (State.takeNotice_of_bad_nil (s := { s with lcu := _ }.take _) hb _)

end Sys2Proof.Machine

namespace Sys2Proof.Machine

/-! ### The traction unit keeps its efforts and the entries that follow its states (R59, R68, R70, R73) -/

theorem effortOk_iff {v : Int} : effortOk v = true ↔ -100 ≤ v ∧ v ≤ 100 := by simp [effortOk]

theorem ceilingIndex_surjective (i : Fin 9) : ∃ c, ceilingIndex c = i := by
  fin_cases i
  exacts [⟨.desk, rfl⟩, ⟨.direction, rfl⟩, ⟨.matrix, rfl⟩, ⟨.pointGuard, rfl⟩, ⟨.vigilance, rfl⟩, ⟨.link, rfl⟩,
    ⟨.stale, rfl⟩, ⟨.supervisor, rfl⟩, ⟨.lockdown, rfl⟩]

theorem ceilingIndex_ne {c x : CeilingSource} (h : x ≠ c) : (ceilingIndex c).val ≠ (ceilingIndex x).val := by
  revert h
  cases c <;> cases x <;> decide

/-- What the states of the unit say of the entry of a source. -/
def Follows (t : Tdu) (e : CeilingEntry) : CeilingSource → Prop
  | .lockdown => (t.lockView = .held → e = ⟨true, -100⟩) ∧ (t.lockView = .clear → e.active = false)
  | .link => (t.link = .up → e.active = false) ∧ (t.link ≠ .up → e = ⟨true, -60⟩)
  | .vigilance => t.vigilance = .penalty ↔ e.active = true
  | .matrix => t.tractionPermit = false ↔ e.active = true
  | .desk => True
  | .direction => True
  | .pointGuard => True
  | .stale => True
  | .supervisor => True

/-- An entry of the source that is an effort and as the states of the unit say. -/
def EntryOk (t : Tdu) (c : CeilingSource) (e : CeilingEntry) : Prop := effortOk e.value = true ∧ Follows t e c

/-- What `TractionOk` says of the unit, source by source. -/
def TduOk (t : Tdu) : Prop :=
  (∀ d, effortOk (t.demand.get d).lever = true) ∧ effortOk t.lastEffort = true
    ∧ ∀ c, EntryOk t c t.ceilings[ceilingIndex c]

theorem tractionOk_iff {s : State} : TractionOk s ↔ s.settings.ok = true ∧ TduOk s.tdu := by
  constructor
  · rintro ⟨hset, hlever, hvalue, hlast, hheld, hclear, hup, hdown, hpenalty, hpermit⟩
    refine ⟨hset, hlever, hlast, fun c => ⟨hvalue _, ?_⟩⟩
    cases c with
    | lockdown => exact ⟨hheld, hclear⟩
    | link => exact ⟨hup, hdown⟩
    | vigilance => exact hpenalty
    | matrix => exact hpermit
    | _ => trivial
  · rintro ⟨hset, hlever, hlast, hentry⟩
    refine ⟨hset, hlever, fun i => ?_, hlast, (hentry .lockdown).2.1, (hentry .lockdown).2.2, (hentry .link).2.1,
      (hentry .link).2.2, (hentry .vigilance).2, (hentry .matrix).2⟩
    obtain ⟨c, rfl⟩ := ceilingIndex_surjective i
    exact (hentry c).1

section
variable {t u : Tdu} {e new : CeilingEntry} {c x : CeilingSource}

/-! #### One entry, and the state it follows -/

theorem Follows.of_vigilance (h : Follows t e x) (hx : x ≠ .vigilance) (v : Vigilance) :
    Follows { t with vigilance := v } e x := by
  cases x
  case vigilance => exact absurd rfl hx
  all_goals exact h

theorem Follows.of_link (h : Follows t e x) (hx : x ≠ .link) (v : LinkState) : Follows { t with link := v } e x := by
  cases x
  case link => exact absurd rfl hx
  all_goals exact h

theorem Follows.of_lockView (h : Follows t e x) (hx : x ≠ .lockdown) (v : LockState) :
    Follows { t with lockView := v } e x := by
  cases x
  case lockdown => exact absurd rfl hx
  all_goals exact h

theorem Follows.of_permit (h : Follows t e x) (hx : x ≠ .matrix) (v : Bool) :
    Follows { t with tractionPermit := v } e x := by
  cases x
  case matrix => exact absurd rfl hx
  all_goals exact h

/-- The entry of one source is set; `v` is the unit with the new state that this entry follows. -/
theorem TduOk.setEntry (h : TduOk t) (v : Tdu) (hd : v.demand = t.demand) (he : v.lastEffort = t.lastEffort)
    (hc : v.ceilings = t.ceilings) (desk : DeskState) (hnew : EntryOk v c new)
    (hrest : ∀ x e, Follows t e x → x ≠ c → Follows v e x) : TduOk (v.setEntry desk c new) := by
  obtain ⟨hlever, hlast, hentry⟩ := h
  refine ⟨fun d => ?_, ?_, fun x => ?_⟩
  · simpa only [Tdu.setEntry, hd] using hlever d
  · simpa only [Tdu.setEntry, he] using hlast
  · by_cases hx : x = c
    · subst hx
      have hset : (v.setEntry desk x new).ceilings[ceilingIndex x] = new := by simp [Tdu.setEntry]
      rw [hset]
      exact hnew
    · have hkeep : (v.setEntry desk c new).ceilings[ceilingIndex x] = t.ceilings[ceilingIndex x] := by
        simp [Tdu.setEntry, hc, Vector.getElem_set_ne, ceilingIndex_ne hx]
      rw [hkeep]
      exact ⟨(hentry x).1, hrest x _ (hentry x).2 hx⟩

/-- No state of the unit says anything of the entry of this source. -/
def freeSource : CeilingSource → Bool
  | .desk => true
  | .direction => true
  | .pointGuard => true
  | .stale => true
  | .supervisor => true
  | .matrix => false
  | .vigilance => false
  | .link => false
  | .lockdown => false

theorem follows_of_free (h : freeSource c = true) (t : Tdu) (e : CeilingEntry) : Follows t e c := by
  cases c
  case matrix | vigilance | link | lockdown => cases h
  all_goals trivial

theorem TduOk.setFree (h : TduOk t) (desk : DeskState) (hc : freeSource c = true) (hv : effortOk new.value = true) :
    TduOk (t.setEntry desk c new) :=
  h.setEntry t rfl rfl rfl desk ⟨hv, follows_of_free hc _ _⟩ fun _ _ hf _ => hf

theorem TduOk.value (h : TduOk t) (c : CeilingSource) : effortOk t.ceilings[ceilingIndex c].value = true :=
  (h.2.2 c).1

theorem TduOk.dropFree (h : TduOk t) (hc : freeSource c = true) : TduOk (t.dropEntry c) := by
  rw [Tdu.dropEntry_eq_setEntry .noDesk]
  exact h.setFree .noDesk hc (h.value c)

/-- R70: a change of the vigilance state to or from PENALTY, with its entry. -/
theorem TduOk.setVigilance (h : TduOk t) (desk : DeskState) (v : Vigilance) (hv : effortOk new.value = true)
    (ha : v = .penalty ↔ new.active = true) : TduOk ({ t with vigilance := v }.setEntry desk .vigilance new) :=
  h.setEntry { t with vigilance := v } rfl rfl rfl desk ⟨hv, ha⟩ fun _ _ hf hx => hf.of_vigilance hx v

/-- R70: with no penalty before and none after, the entry stays as it is. -/
theorem TduOk.watch (h : TduOk t) (ht : t.vigilance ≠ .penalty) {v : Vigilance} (hv : v ≠ .penalty) :
    TduOk { t with vigilance := v } := by
  obtain ⟨hlever, hlast, hentry⟩ := h
  refine ⟨hlever, hlast, fun x => ⟨(hentry x).1, ?_⟩⟩
  by_cases hx : x = .vigilance
  · subst hx
    exact iff_of_false hv fun ha => ht ((hentry .vigilance).2.mpr ha)
  · exact (hentry x).2.of_vigilance hx v

/-- R70: the penalty, or the supervision, ends. -/
theorem TduOk.endPenalty (h : TduOk t) : TduOk ({ t with vigilance := .off }.dropEntry .vigilance) := by
  rw [Tdu.dropEntry_eq_setEntry .noDesk]
  exact h.setVigilance .noDesk .off (h.value .vigilance) (by simp)

/-- R73: a change of the link state, with its entry. -/
theorem TduOk.setLink (h : TduOk t) (desk : DeskState) (v : LinkState) (hv : effortOk new.value = true)
    (hup : v = .up → new.active = false) (hdown : v ≠ .up → new = ⟨true, -60⟩) :
    TduOk ({ t with link := v }.setEntry desk .link new) :=
  h.setEntry { t with link := v } rfl rfl rfl desk ⟨hv, hup, hdown⟩ fun _ _ hf hx => hf.of_link hx v

/-! #### The unit's operations -/

theorem TduOk.compareDirection (h : TduOk t) (desk : DeskState) (d : Desk) : TduOk (t.compareDirection desk d) := by
  unfold Tdu.compareDirection
  split
  · exact h.setFree desk rfl rfl
  · split
    · exact h.dropFree rfl
    · split
      · exact TduOk.dropFree (t := { t with taken := _ }) h rfl
      · exact h.setFree desk rfl rfl

theorem TduOk.endStale (h : TduOk t) : TduOk t.endStale := TduOk.dropFree (t := { t with staleTimer := none }) h rfl

/-- R57: the levers after a demand of one desk is stored. -/
theorem lever_set_ok {p : PerDesk Demand} (h : ∀ d, effortOk (p.get d).lever = true) {new : Demand}
    (hn : new.ok = true) (d e : Desk) : effortOk ((p.set d new).get e).lever = true := by
  by_cases he : e = d
  · subst he
    rw [PerDesk.get_set_same]
    exact hn
  · rw [PerDesk.get_set_other _ he]
    exact h e

theorem TduOk.demandWrite (h : TduOk t) (desk : DeskState) (cfg : Settings) (d : Desk) {new : Demand}
    (hn : new.ok = true) : TduOk (t.demandWrite desk cfg d new) := by
  have hstored : TduOk { t with demand := t.demand.set d new, staleTimer := some cfg.staleTime } :=
    ⟨lever_set_ok h.1 hn d, h.2⟩
  have hdrop := hstored.dropFree (c := .stale) rfl
  unfold Tdu.demandWrite
  dsimp only
  refine TduOk.compareDirection ?_ desk d
  split
  · exact hdrop
  · exact hdrop

theorem TduOk.staleExpiry (h : TduOk t) (desk : DeskState) : TduOk (t.staleExpiry desk).1 := by
  unfold Tdu.staleExpiry
  split
  · exact h
  · exact TduOk.setFree (t := { t with staleTimer := none }) h desk rfl rfl

theorem TduOk.moving (h : TduOk t) (desk : DeskState) (cfg : Settings) : TduOk (t.moving desk cfg).1 := by
  have hmoving : TduOk { t with motion := .moving } := h
  unfold Tdu.moving
  cases desk with
  | releasing _ => exact hmoving
  | noDesk => exact hmoving
  | active d =>
    dsimp only
    split
    case h_1 hv =>
      have hnot : t.vigilance ≠ .penalty := by rw [hv]; decide
      split
      · exact hmoving.watch hnot (by decide)
      · exact hmoving.watch (v := .warning) hnot (by decide)
    all_goals exact hmoving

theorem TduOk.standstillVigilance (h : TduOk t) (desk : DeskState) : TduOk (t.standstillVigilance desk).1 := by
  unfold Tdu.standstillVigilance
  split
  case h_2 hv => exact h.watch (by rw [hv]; decide) (by decide)
  case h_3 hv => exact h.watch (v := .off) (by rw [hv]; decide) (by decide)
  all_goals exact h

theorem TduOk.standstill (h : TduOk t) (desk : DeskState) : TduOk (t.standstill desk).1 := by
  have hended := TduOk.standstillVigilance (t := { t with motion := .standstill }) h desk
  unfold Tdu.standstill
  dsimp only
  split
  · exact hended.compareDirection desk _
  · exact hended

theorem TduOk.pedal (h : TduOk t) (desk : DeskState) (cfg : Settings) (d : Desk) (value : Bool) :
    TduOk (t.pedal desk cfg d value).1 := by
  have hpedal : TduOk { t with pedals := t.pedals.set d value } := h
  unfold Tdu.pedal
  dsimp only
  split
  · split
    case h_1 => exact hpedal
    case h_2 hv =>
      split
      · exact hpedal
      · exact hpedal.watch (v := .warning) (by rw [hv]; decide) (by decide)
    case h_3 hv =>
      split
      · exact hpedal.watch (v := .held) (by rw [hv]; decide) (by decide)
      · exact hpedal
    case h_4 =>
      split
      · exact hpedal.endPenalty
      · exact hpedal
  · exact hpedal

theorem TduOk.endVigilance (h : TduOk t) (former : Option Desk) : TduOk (t.endVigilance former).1 := by
  have hnow : TduOk (Tdu.endVigilance.endNow former t).1 := TduOk.endPenalty (t := { t with graceTimer := none }) h
  unfold Tdu.endVigilance
  split
  · exact h
  all_goals exact hnow

theorem TduOk.takeStatus (h : TduOk t) (r : StatusReport) : TduOk (t.takeStatus r).1 := by
  have hstored : TduOk { t with lastStatus := some r, statusSeen := true, misses := 0 } := h
  have hup := hstored.setLink .noDesk .up (new := ⟨false, t.ceilings[ceilingIndex .link].value⟩) (h.value .link)
    (fun _ => rfl) (fun hne => absurd rfl hne)
  unfold Tdu.takeStatus
  dsimp only
  split
  · exact hstored
  all_goals
    rw [Tdu.dropEntry_eq_setEntry .noDesk]
    exact hup

theorem TduOk.status (h : TduOk t) (octets : List Byte) : TduOk (t.status octets).1 := by
  unfold Tdu.status
  split
  · split
    · exact h.takeStatus _
    · exact h
  · exact h

theorem TduOk.tractionPermitEvent (h : TduOk t) (desk : DeskState) (value : Bool) :
    TduOk (t.tractionPermitEvent desk value) := by
  have hset : ∀ new : CeilingEntry, effortOk new.value = true → (value = false ↔ new.active = true) →
      TduOk ({ t with tractionPermit := value }.setEntry desk .matrix new) := fun new hv ha =>
    h.setEntry { t with tractionPermit := value } rfl rfl rfl desk ⟨hv, ha⟩ fun _ _ hf hx => hf.of_permit hx value
  unfold Tdu.tractionPermitEvent
  dsimp only
  split
  case isTrue hval =>
    rw [Tdu.dropEntry_eq_setEntry desk]
    exact hset _ (h.value .matrix) (by simp [hval])
  case isFalse hval => exact hset _ rfl (by simpa using hval)

theorem TduOk.lockdown (h : TduOk t) (desk : DeskState) (view : LockState) : TduOk (t.lockdown desk view) := by
  have hset : ∀ new : CeilingEntry, EntryOk { t with lockView := view } .lockdown new →
      TduOk ({ t with lockView := view }.setEntry desk .lockdown new) := fun new hnew =>
    h.setEntry { t with lockView := view } rfl rfl rfl desk hnew fun _ _ hf hx => hf.of_lockView hx view
  cases view with
  | held => exact hset _ ⟨rfl, fun _ => rfl, fun hc => nomatch hc⟩
  | clear =>
    change TduOk ({ t with lockView := .clear }.dropEntry .lockdown)
    rw [Tdu.dropEntry_eq_setEntry desk]
    exact hset ⟨false, _⟩ ⟨h.value .lockdown, ⟨nofun, fun _ => rfl⟩⟩

theorem TduOk.pointGuard (h : TduOk t) (desk : DeskState) (active : Bool) {value : Int} (hv : effortOk value = true) :
    TduOk (t.pointGuard desk active value) := by
  unfold Tdu.pointGuard
  split
  · exact h.setFree desk rfl hv
  · exact h.dropFree rfl

/-! #### The operations that use a setting -/

/-- R23, R70, R112: the settings that become values of entries are efforts. -/
theorem Settings.ceilings_ok {cfg : Settings} (h : cfg.ok = true) :
    effortOk cfg.releasingCeiling = true ∧ effortOk cfg.noDeskCeiling = true ∧ effortOk cfg.penaltyCeiling = true
      ∧ effortOk cfg.creep = true := by
  simp only [Settings.ok, withinInt, Bool.and_eq_true, decide_eq_true_eq] at h
  simp only [effortOk_iff]
  omega

variable {cfg : Settings}

theorem TduOk.graceExpiry (h : TduOk t) (hcfg : cfg.ok = true) (desk : DeskState) :
    TduOk (t.graceExpiry desk cfg).1 := by
  obtain ⟨-, -, hpenalty, -⟩ := Settings.ceilings_ok hcfg
  unfold Tdu.graceExpiry
  split
  case h_1 =>
    exact TduOk.setVigilance (t := { t with graceTimer := none }) h desk .penalty hpenalty (iff_of_true rfl rfl)
  all_goals exact h

theorem TduOk.deskState (h : TduOk t) (hcfg : cfg.ok = true) (new : DeskState) : TduOk (t.deskState cfg new).1 := by
  obtain ⟨hreleasing, hnoDesk, -, -⟩ := Settings.ceilings_ok hcfg
  cases new with
  | active d => exact h.dropFree (c := .desk) rfl
  | releasing d => exact ((h.setFree _ rfl hreleasing).endStale).endVigilance _
  | noDesk => exact h.setFree _ rfl hnoDesk

theorem TduOk.teardown (h : TduOk t) (hcfg : cfg.ok = true) (former : Desk) : TduOk (t.teardown cfg former).1 := by
  obtain ⟨-, hnoDesk, -, -⟩ := Settings.ceilings_ok hcfg
  have hcleared : TduOk { t with demand := ⟨⟨0, .neutral⟩, ⟨0, .neutral⟩⟩, lock := false, taken := none } :=
    ⟨fun d => by cases d <;> rfl, h.2⟩
  exact ((((hcleared.setFree (c := .direction) (new := ⟨true, 0⟩) .noDesk rfl rfl).setFree (c := .desk) .noDesk rfl
    hnoDesk).endStale).endVigilance _)

theorem TduOk.newNoDeskCeiling (h : TduOk t) (hcfg : cfg.ok = true) (desk : DeskState) :
    TduOk (t.newNoDeskCeiling desk cfg.noDeskCeiling) := by
  cases desk with
  | noDesk => exact h.setFree _ rfl (Settings.ceilings_ok hcfg).2.1
  | active _ => exact h
  | releasing _ => exact h

/-! #### Frames (R66, R67, R75) -/

theorem TduOk.account (h : TduOk t) (desk : DeskState) (cfg : Settings) : TduOk (t.account desk cfg).1 := by
  unfold Tdu.account
  dsimp only
  split
  · exact TduOk.setLink (t := { t with misses := nextMisses t }) h desk .lost rfl (fun hup => nomatch hup) fun _ => rfl
  · exact h

theorem lowestOf_ge {l : List CeilingEntry} {lo : Int} (hlo : lo ≤ 100) (h : ∀ e ∈ l, lo ≤ e.value) :
    lo ≤ lowestOf l := by
  induction l with
  | nil => exact hlo
  | cons e l ih =>
    have hl := ih fun x hx => h x (List.mem_cons_of_mem e hx)
    have he := h e List.mem_cons_self
    rw [lowestOf_cons]
    split <;> omega

theorem lowestOf_le_top (l : List CeilingEntry) : lowestOf l ≤ 100 := by
  induction l with
  | nil => exact le_rfl
  | cons e l ih =>
    rw [lowestOf_cons]
    split <;> omega

theorem TduOk.lowestCeiling_ge (h : TduOk t) : -100 ≤ lowestCeiling t.ceilings :=
  lowestOf_ge (by decide) fun e he => by
    obtain ⟨i, rfl⟩ := mem_table_toList.mp he
    obtain ⟨c, rfl⟩ := ceilingIndex_surjective i
    exact (effortOk_iff.mp (h.value c)).1

/-- R67 step 1: the lever of the active desk, taken as 0 in NEUTRAL and with no active desk. -/
def frameLever (desk : DeskState) (t : Tdu) : Int :=
  match deskHolder desk with
  | some d => if (t.demand.get d).selector = .neutral then 0 else (t.demand.get d).lever
  | none => 0

theorem frameTarget_eq (desk : DeskState) (t : Tdu) : frameTarget desk t =
    min (if t.lock then min (frameLever desk t) 0 else frameLever desk t) (lowestCeiling t.ceilings) := rfl

theorem TduOk.frameLever_ge (h : TduOk t) (desk : DeskState) : -100 ≤ frameLever desk t := by
  unfold frameLever
  split
  case h_1 d _ =>
    have := (effortOk_iff.mp (h.1 d)).1
    split <;> omega
  case h_2 => decide

theorem TduOk.frameTarget_ge (h : TduOk t) (desk : DeskState) : -100 ≤ frameTarget desk t := by
  have hlowest := h.lowestCeiling_ge
  have hlever := h.frameLever_ge desk
  rw [frameTarget_eq]
  split <;> omega

theorem frameTarget_le (desk : DeskState) (t : Tdu) : frameTarget desk t ≤ lowestCeiling t.ceilings := by
  rw [frameTarget_eq]
  exact min_le_right _ _

/-- R67 step 4: the ramp never leads past the target. -/
theorem frameEffort_le (desk : DeskState) (cfg : Settings) (t : Tdu) : frameEffort desk cfg t ≤ frameTarget desk t := by
  unfold frameEffort
  dsimp only
  split <;> omega

theorem TduOk.frameEffort_ge (h : TduOk t) (desk : DeskState) (cfg : Settings) : -100 ≤ frameEffort desk cfg t := by
  have hlast := (effortOk_iff.mp h.2.1).1
  have htarget := h.frameTarget_ge desk
  unfold frameEffort
  dsimp only
  split <;> omega

theorem TduOk.frameExpiry (h : TduOk t) (desk : DeskState) (cfg : Settings) : TduOk (t.frameExpiry desk cfg).1 := by
  have haccount := h.account desk cfg
  have hge := haccount.frameEffort_ge desk cfg
  have hle := frameEffort_le desk cfg (t.account desk cfg).1
  have htarget := frameTarget_le desk (t.account desk cfg).1
  have htop := lowestOf_le_top (t.account desk cfg).1.ceilings.toList
  refine ⟨haccount.1, effortOk_iff.mpr ⟨hge, ?_⟩, haccount.2.2⟩
  exact (hle.trans htarget).trans htop

end
end Sys2Proof.Machine

namespace Sys2Proof.Machine

/-! ### What the units hand on: no POINT_GUARD value that is not an effort (R112) -/

/-- A POINT_GUARD value that this event carries is an effort. -/
def guardOk : Instr → Bool
  | .pointGuardEntryChange _ v => effortOk v
  | _ => true

/-- Every POINT_GUARD value among these events is an effort. -/
def GuardsOk (l : List Instr) : Prop := ∀ x ∈ l, guardOk x = true

@[simp] theorem guardsOk_nil : GuardsOk [] := fun _ h => by cases h

@[simp] theorem guardsOk_cons {x : Instr} {l : List Instr} : GuardsOk (x :: l) ↔ guardOk x = true ∧ GuardsOk l :=
  List.forall_mem_cons

@[simp] theorem guardsOk_append {l m : List Instr} : GuardsOk (l ++ m) ↔ GuardsOk l ∧ GuardsOk m :=
  List.forall_mem_append

theorem GuardsOk.append {l m : List Instr} (hl : GuardsOk l) (hm : GuardsOk m) : GuardsOk (l ++ m) :=
  guardsOk_append.mpr ⟨hl, hm⟩

theorem GuardsOk.ite {p : Prop} [Decidable p] {l m : List Instr} (hl : GuardsOk l) (hm : GuardsOk m) :
    GuardsOk (if p then l else m) := by
  split
  · exact hl
  · exact hm

/-- A list written out, none of whose events carries a POINT_GUARD value, is checked by evaluation. -/
theorem GuardsOk.of_all {l : List Instr} (h : l.all guardOk = true) : GuardsOk l := List.all_eq_true.mp h

@[simp] theorem guardsOk_parityFaults (s : State) (u : UnitName) (reads : StoreWord → Bool) (effort : Option Int) :
    GuardsOk (parityFaults s u reads effort) := by
  intro x hx
  obtain ⟨w, -, rfl⟩ := List.mem_map.mp hx
  rfl

/-! #### The desk authority unit -/

theorem Dau.change_guards (x : Dau) (new : DeskState) (cause : LastChange) (byCommand : Bool) :
    GuardsOk (x.change new cause byCommand).2 := by
  have hand : GuardsOk (deskHandOn x.state new byCommand) := by
    unfold deskHandOn
    split
    · split
      · exact .of_all rfl
      · exact .of_all rfl
    · exact .of_all rfl
    · exact .of_all rfl
  have hconditions : GuardsOk (deskConditions x.state new) :=
    GuardsOk.append (.ite (.of_all rfl) (.of_all rfl)) (.ite (.of_all rfl) (.of_all rfl))
  have hreport : GuardsOk (if byCommand then [] else [.structuralChangeReport .desk]) :=
    .ite (.of_all rfl) (.of_all rfl)
  exact ((GuardsOk.append (.of_all rfl) hreport).append hconditions).append hand

theorem Dau.keyEvent_guards (x : Dau) (d : Desk) (value : Bool) : GuardsOk (x.keyEvent d value).2 := by
  unfold Dau.keyEvent
  dsimp only
  split
  · split
    · split
      · exact .of_all rfl
      · split
        · exact Dau.change_guards _ _ _ _
        · exact Dau.change_guards _ _ _ _
    · split
      · exact .of_all rfl
      · exact .of_all rfl
  · exact .of_all rfl
  · exact .of_all rfl

theorem Dau.standstill_guards (x : Dau) : GuardsOk x.standstill.2 := by
  unfold Dau.standstill
  dsimp only
  split
  · exact Dau.change_guards _ _ _ _
  · exact .of_all rfl
  · exact .of_all rfl

/-! #### The line and matrix unit -/

theorem Lmu.settle_guards (l : Lmu) : GuardsOk l.settle.2 := by
  intro x hx
  obtain ⟨p, -, rfl⟩ := List.mem_map.mp hx
  cases p <;> rfl

/-! #### The traction unit -/

theorem guardsOk_lockReport (x y : Tdu) : GuardsOk (lockReport x y) := .ite (.of_all rfl) (.of_all rfl)

theorem Tdu.staleExpiry_guards (desk : DeskState) (t : Tdu) : GuardsOk (t.staleExpiry desk).2 := by
  unfold Tdu.staleExpiry
  split
  · exact .of_all rfl
  · exact guardsOk_cons.mpr ⟨rfl, guardsOk_lockReport _ _⟩

theorem Tdu.moving_guards (desk : DeskState) (cfg : Settings) (t : Tdu) : GuardsOk (t.moving desk cfg).2 := by
  unfold Tdu.moving
  cases desk with
  | active d =>
    dsimp only
    split
    · split
      · exact .of_all rfl
      · exact .of_all rfl
    all_goals exact .of_all rfl
  | releasing _ => exact .of_all rfl
  | noDesk => exact .of_all rfl

theorem Tdu.standstillVigilance_guards (desk : DeskState) (t : Tdu) : GuardsOk (t.standstillVigilance desk).2 := by
  unfold Tdu.standstillVigilance
  split
  case h_3 => cases deskHolder desk <;> exact .of_all rfl
  all_goals exact .of_all rfl

theorem Tdu.standstill_guards (desk : DeskState) (t : Tdu) : GuardsOk (t.standstill desk).2 := by
  have hpublish : ∀ u v : Tdu, GuardsOk (publishTaken desk u v) := fun _ _ => .ite (.of_all rfl) (.of_all rfl)
  unfold Tdu.standstill
  dsimp only
  split
  · exact ((Tdu.standstillVigilance_guards desk _).append (hpublish _ _)).append (guardsOk_lockReport _ _)
  · exact Tdu.standstillVigilance_guards desk _

theorem Tdu.pedal_guards (desk : DeskState) (cfg : Settings) (d : Desk) (value : Bool) (t : Tdu) :
    GuardsOk (t.pedal desk cfg d value).2 := by
  unfold Tdu.pedal
  dsimp only
  split
  · split
    · exact .of_all rfl
    all_goals split <;> exact .of_all rfl
  · exact .of_all rfl

theorem Tdu.graceExpiry_guards (desk : DeskState) (cfg : Settings) (t : Tdu) : GuardsOk (t.graceExpiry desk cfg).2 := by
  unfold Tdu.graceExpiry
  split
  · exact guardsOk_cons.mpr ⟨rfl, guardsOk_lockReport _ _⟩
  all_goals exact .of_all rfl

theorem Tdu.endVigilance_guards (former : Option Desk) (t : Tdu) : GuardsOk (t.endVigilance former).2 := by
  have hnow : GuardsOk (Tdu.endVigilance.endNow former t).2 := by cases former <;> exact .of_all rfl
  unfold Tdu.endVigilance
  split
  · exact .of_all rfl
  all_goals exact hnow

theorem Tdu.deskState_guards (cfg : Settings) (new : DeskState) (t : Tdu) : GuardsOk (t.deskState cfg new).2 := by
  cases new with
  | active d => exact .of_all rfl
  | releasing d => exact (Tdu.endVigilance_guards _ _).append (guardsOk_lockReport _ _)
  | noDesk => exact guardsOk_lockReport _ _

theorem Tdu.teardown_guards (cfg : Settings) (former : Desk) (t : Tdu) : GuardsOk (t.teardown cfg former).2 :=
  guardsOk_cons.mpr ⟨rfl, Tdu.endVigilance_guards _ _⟩

theorem Tdu.frameExpiry_guards (desk : DeskState) (cfg : Settings) (t : Tdu) : GuardsOk (t.frameExpiry desk cfg).2 := by
  have haccount : GuardsOk (t.account desk cfg).2 := by
    unfold Tdu.account
    dsimp only
    split <;> exact .of_all rfl
  exact haccount.append (guardsOk_lockReport _ _)

theorem Tdu.status_guards (octets : List Byte) (t : Tdu) : GuardsOk (t.status octets).2 := by
  have htake : ∀ r, GuardsOk (t.takeStatus r).2 := by
    intro r
    have hnotes : GuardsOk (if newlyFaulted t.lastStatus r then [.noticeRaise .propulsionFault] else []) :=
      .ite (.of_all rfl) (.of_all rfl)
    unfold Tdu.takeStatus
    dsimp only
    split
    · exact hnotes
    all_goals exact guardsOk_cons.mpr ⟨rfl, hnotes⟩
  unfold Tdu.status
  split
  · split
    · exact htake _
    · exact .of_all rfl
  · exact .of_all rfl

/-! #### The route unit: the POINT_GUARD entry takes 0 or the creep value -/

theorem guardsOk_guardHandOn {creep : Int} (h : effortOk creep = true) (old new : List PlanEntry) :
    GuardsOk (guardHandOn creep old new) := by
  have hvalue : effortOk (guardEntry creep new).value = true := by
    simp only [guardEntry]
    split
    · rfl
    · exact h
  have hentry : GuardsOk [.pointGuardEntryChange (guardEntry creep new).active (guardEntry creep new).value] :=
    guardsOk_cons.mpr ⟨hvalue, guardsOk_nil⟩
  exact (GuardsOk.ite (.of_all rfl) hentry).append (.ite (.of_all rfl) (.of_all rfl))

section
variable {cfg : Settings}

theorem guardsOk_planHandOn (h : effortOk cfg.creep = true) (desk : DeskState) (became : Bool)
    (old new : List PlanEntry) : GuardsOk (planHandOn desk cfg became old new) := by
  have halert : GuardsOk (alertHandOn desk cfg became old new) := by
    unfold alertHandOn
    split
    · exact .of_all rfl
    · exact .ite (.of_all rfl) (.ite (.of_all rfl) (.of_all rfl))
  exact guardsOk_cons.mpr ⟨rfl, (guardsOk_guardHandOn h old new).append halert⟩

theorem Rtu.arm_guards (h : effortOk cfg.creep = true) (desk : DeskState) (j : Nat) (u : Rtu) :
    GuardsOk (u.arm desk cfg j).2 := by
  unfold Rtu.arm
  split
  · exact .of_all rfl
  · split
    · exact ((GuardsOk.ite (.of_all rfl) (.of_all rfl)).append (guardsOk_planHandOn h _ _ _ _)).append (.of_all rfl)
    · exact .of_all rfl

theorem Rtu.guardExpiry_guards (h : effortOk cfg.creep = true) (desk : DeskState) (j : Nat) (u : Rtu) :
    GuardsOk (u.guardExpiry desk cfg j).2 := by
  unfold Rtu.guardExpiry
  split
  · split
    · exact guardsOk_planHandOn h _ _ _ _
    · exact .of_all rfl
  · exact .of_all rfl

theorem Rtu.pointState_guards (h : effortOk cfg.creep = true) (desk : DeskState) (ownRun j code : Nat)
    (report : PointReport) (run : Nat) (u : Rtu) : GuardsOk (u.pointState desk cfg ownRun j code report run).2 := by
  unfold Rtu.pointState
  split
  · exact .of_all rfl
  · split
    · exact .of_all rfl
    · exact .ite (.of_all rfl) (guardsOk_planHandOn h _ _ _ _)

theorem Rtu.clearance_guards (h : effortOk cfg.creep = true) (desk : DeskState) (j : Nat) (u : Rtu) :
    GuardsOk (u.clearance desk cfg j).2 := by
  unfold Rtu.clearance
  split
  · exact .of_all rfl
  · exact guardsOk_cons.mpr ⟨rfl, (guardsOk_planHandOn h _ _ _ _).append (.ite (.of_all rfl) (.of_all rfl))⟩

theorem Rtu.lateDecision_guards (p : Nat) (u : Rtu) : GuardsOk (u.lateDecision p).2 := by
  unfold Rtu.lateDecision
  split
  · exact .of_all rfl
  · split
    · exact .ite (.of_all rfl) (.of_all rfl)
    · exact .of_all rfl

theorem Rtu.ended_guards (h : effortOk cfg.creep = true) (desk : DeskState) (u : Rtu) :
    GuardsOk (u.ended desk cfg).2 := by
  unfold Rtu.ended
  split
  · exact .of_all rfl
  · dsimp only
    split
    · split
      · split
        · exact .ite (guardsOk_planHandOn h _ _ _ _) (.of_all rfl)
        · exact .of_all rfl
      · split <;> exact .of_all rfl
      · exact .of_all rfl
    · exact .of_all rfl

theorem Rtu.queueCancel_guards (c : Cancel) (u : Rtu) : GuardsOk (u.queueCancel c).2 := by
  unfold Rtu.queueCancel
  split <;> exact .of_all rfl

theorem Rtu.queueCancels_guards (l : List Cancel) : ∀ u : Rtu, GuardsOk (Rtu.queueCancels l u).2 := by
  induction l with
  | nil => exact fun _ => (.of_all rfl)
  | cons c l ih => exact fun u => (u.queueCancel_guards c).append (ih _)

theorem Rtu.windowClose_guards (u : Rtu) : GuardsOk u.windowClose.2 := by
  unfold Rtu.windowClose
  dsimp only
  split <;> exact .of_all rfl

theorem Rtu.teardown_guards (h : effortOk cfg.creep = true) (u : Rtu) : GuardsOk (u.teardown cfg).2 := by
  have hcancels : GuardsOk
      (if u.windowOpen then Rtu.queueCancels ((u.plan.filter fun e => decide (1 ≤ e.transmissions)).map fun e =>
        (⟨e.junction, e.code⟩ : Cancel)) u else (u, [])).2 := by
    split
    · exact Rtu.queueCancels_guards _ _
    · exact .of_all rfl
  exact hcancels.append ((guardsOk_guardHandOn h _ _).append (.ite (.of_all rfl) (.of_all rfl)))

theorem Rtu.reconfigure_guards (u : Rtu) : GuardsOk u.reconfigure.2 := by
  have hroutes : GuardsOk (if u.plan.isEmpty then [] else [.noticeRaise .routeChange]) :=
    .ite (.of_all rfl) (.of_all rfl)
  unfold Rtu.reconfigure
  dsimp only
  split
  · exact hroutes.append (.of_all rfl)
  · exact hroutes

theorem Rtu.deskState_guards (desk : DeskState) (new : DeskState) (u : Rtu) : GuardsOk (u.deskState desk cfg new) := by
  cases new with
  | active d => exact .ite (.of_all rfl) (.of_all rfl)
  | releasing _ => exact .of_all rfl
  | noDesk => exact .of_all rfl

theorem Rtu.insert_guards (h : effortOk cfg.creep = true) (desk : DeskState) (p : Port) (a : InsertArgs) (u : Rtu) :
    GuardsOk (u.insert desk cfg p a).2.1 := by
  unfold Rtu.insert
  split_ifs
  iterate 4 exact .of_all rfl
  exact guardsOk_planHandOn h _ _ _ _

theorem Rtu.setCode_guards (h : effortOk cfg.creep = true) (desk : DeskState) (j code : Nat) (u : Rtu) :
    GuardsOk (u.setCode desk cfg j code).2.1 := by
  unfold Rtu.setCode
  split
  · exact .of_all rfl
  · split
    · exact .of_all rfl
    · split
      · exact .of_all rfl
      · split
        · exact (guardsOk_planHandOn h _ _ _ _).append (.of_all rfl)
        · exact .of_all rfl

theorem Rtu.cancelRoute_guards (h : effortOk cfg.creep = true) (desk : DeskState) (j : Nat) (u : Rtu) :
    GuardsOk (u.cancelRoute desk cfg j).2.1 := by
  unfold Rtu.cancelRoute
  split
  · exact .of_all rfl
  · split
    · exact .of_all rfl
    · refine (guardsOk_planHandOn h _ _ _ _).append ?_
      split
      · exact Rtu.queueCancel_guards _ _
      · exact .of_all rfl

theorem Rtu.override_guards (h : effortOk cfg.creep = true) (desk : DeskState) (j : Nat) (u : Rtu) :
    GuardsOk (u.override desk cfg j).2.1 := by
  unfold Rtu.override
  split
  · exact .of_all rfl
  · split
    · exact guardsOk_planHandOn h _ _ _ _
    · exact .of_all rfl

/-! #### The stop request unit -/

theorem guardsOk_stopBuzzer (desk : DeskState) (pattern : Fin 16) : GuardsOk (stopBuzzer desk pattern) := by
  unfold stopBuzzer
  split <;> exact .of_all rfl

theorem guardsOk_latchCondition (x y : Sru) : GuardsOk (latchCondition x y) := .ite (.of_all rfl) (.of_all rfl)

theorem guardsOk_latchReport (x y : Sru) : GuardsOk (latchReport x y) := .ite (.of_all rfl) (.of_all rfl)

theorem Sru.press_guards (desk : DeskState) (cfg : Settings) (station : Nat) (kind : StopKind) (u : Sru) :
    GuardsOk (u.press desk cfg station kind).2 := by
  have hpressed : ∀ new, GuardsOk (u.pressed desk cfg station new).2 := by
    intro new
    unfold Sru.pressed
    dsimp only
    split
    · exact ((GuardsOk.ite (.of_all rfl) (.of_all rfl)).append (.of_all rfl)).append (guardsOk_stopBuzzer _ _)
    · exact (GuardsOk.ite (.of_all rfl) (.of_all rfl)).append (.ite (guardsOk_stopBuzzer _ _) (.of_all rfl))
  unfold Sru.press
  dsimp only
  split
  · split <;> exact .of_all rfl
  · split
    · exact .of_all rfl
    · exact hpressed _

theorem Sru.atStopEvent_guards (value : Bool) (u : Sru) : GuardsOk (u.atStopEvent value).2 := by
  unfold Sru.atStopEvent
  dsimp only
  split
  · exact (guardsOk_latchReport _ _).append (guardsOk_latchCondition _ _)
  · exact .of_all rfl

theorem Sru.zoneEnter_guards (desk : DeskState) (cfg : Settings) (p : Nat) (mandatory : Bool) (u : Sru) :
    GuardsOk (u.zoneEnter desk cfg p mandatory).2 :=
  guardsOk_cons.mpr ⟨rfl, .ite (guardsOk_stopBuzzer _ _) (.of_all rfl)⟩

theorem Sru.zoneLeave_guards (p : Nat) (u : Sru) : GuardsOk (u.zoneLeave p).2 := by
  unfold Sru.zoneLeave
  split
  · exact .of_all rfl
  · split
    · exact .ite (.of_all rfl) (.of_all rfl)
    · exact .of_all rfl

theorem Sru.replyEnds_guards (desk : DeskState) (cfg : Settings) (e : ReplyEnd) (u : Sru) :
    GuardsOk (u.replyEnds desk cfg e).2 := by
  have hhealth : ∀ (v : Sru) (h : Option HealthEvent), GuardsOk (noteHealth v h).2 := by
    intro v h
    cases h <;> exact .of_all rfl
  cases e with
  | good r =>
    change GuardsOk (u.goodReply desk cfg r).2
    unfold Sru.goodReply
    split
    · exact .of_all rfl
    · dsimp only
      split
      · exact ((hhealth _ _).append (guardsOk_latchReport _ _)).append (Sru.press_guards _ _ _ _ _)
      · exact hhealth _ _
  | bad =>
    change GuardsOk u.badReply.2
    unfold Sru.badReply
    split
    · exact .of_all rfl
    · exact hhealth _ _

/-! #### The location unit -/

theorem Lcu.fire_guards (cfg : Settings) (entry : Nat) (beacon : BitVec 12) (a : ActionSpec) (l : Lcu) :
    GuardsOk (l.fire cfg entry beacon a).2 := by
  unfold Lcu.fire
  split
  · exact (GuardsOk.ite (.of_all rfl) (.of_all rfl)).append (.of_all rfl)
  all_goals exact .of_all rfl

theorem fireDue_guards (cfg : Settings) (as : List PendingAction) : ∀ l : Lcu, GuardsOk (fireDue cfg as l).2 := by
  induction as with
  | nil => exact fun _ => (.of_all rfl)
  | cons a as ih =>
    intro l
    unfold fireDue
    split
    · exact (Lcu.fire_guards cfg _ _ _ _).append (ih _)
    · exact ih _

theorem Lcu.pulse_guards (cfg : Settings) (l : Lcu) : GuardsOk (l.pulse cfg).2 := by
  have hcount : GuardsOk (l.countPulse cfg).2 := by
    unfold Lcu.countPulse
    split
    · exact (GuardsOk.ite (.of_all rfl) (.of_all rfl)).append (fireDue_guards cfg _ _)
    · exact .of_all rfl
  have hmotion : ∀ l : Lcu, GuardsOk (l.pulseMotion cfg).2 := by
    intro l
    unfold Lcu.pulseMotion
    dsimp only
    split
    · exact .of_all rfl
    · split <;> exact .of_all rfl
  exact hcount.append (hmotion _)

theorem Lcu.standstillExpiry_guards (l : Lcu) : GuardsOk l.standstillExpiry.2 := by
  unfold Lcu.standstillExpiry
  split
  · exact .of_all rfl
  · dsimp only
    split <;> exact .of_all rfl

theorem Lcu.matched_guards (cfg : Settings) (identity : BitVec 12) (index : Nat) (e : LocationEntry) (l : Lcu) :
    GuardsOk (l.matched cfg identity index e).2 := by
  unfold Lcu.matched
  split
  · exact Lcu.fire_guards _ _ _ _ _
  · split
    · exact .of_all rfl
    · unfold Lcu.drop
      split <;> exact .of_all rfl

theorem Lcu.beacon_guards (cfg : Settings) (identity : BitVec 12) (l : Lcu) : GuardsOk (l.beacon cfg identity).2 := by
  have hmatch : ∀ (es : List (LocationEntry × Nat)) (l : Lcu), GuardsOk (matchEntries cfg identity es l).2 := by
    intro es
    induction es with
    | nil => exact fun _ => (.of_all rfl)
    | cons e es ih =>
      intro l
      unfold matchEntries
      split
      · exact (Lcu.matched_guards _ _ _ _ _).append (ih _)
      · exact ih _
  exact hmatch _ _

/-! #### The sound unit -/

variable (cfg)

theorem Sdu.endPhase_guards (q : SoundRequest) (u : Sdu) : GuardsOk (u.endPhase cfg q).2 := by
  unfold Sdu.endPhase
  dsimp only
  split
  · exact .of_all rfl
  · split
    · exact .of_all rfl
    · split
      · exact .of_all rfl
      · split <;> exact .of_all rfl

theorem Sdu.passZero_guards (snd : Sounder) (n : Nat) : ∀ u : Sdu, GuardsOk (u.passZero cfg snd n).2 := by
  induction n with
  | zero => exact fun _ => (.of_all rfl)
  | succ n ih =>
    intro u
    unfold Sdu.passZero
    split
    · exact .of_all rfl
    · split
      · exact .of_all rfl
      · exact (Sdu.endPhase_guards cfg _ u).append (ih _)

theorem Sdu.settlePhase_guards (snd : Sounder) (u : Sdu) : GuardsOk (u.settlePhase cfg snd).2 :=
  u.passZero_guards cfg snd 64

theorem Sdu.free_guards (snd : Sounder) (u : Sdu) : GuardsOk (u.free cfg snd).2 := Sdu.settlePhase_guards cfg snd _

theorem Sdu.phaseExpiry_guards (snd : Sounder) (u : Sdu) : GuardsOk (u.phaseExpiry cfg snd).2 := by
  unfold Sdu.phaseExpiry
  split
  · exact (Sdu.endPhase_guards cfg _ _).append (Sdu.settlePhase_guards cfg _ _)
  · exact .of_all rfl
  · exact .of_all rfl

theorem Sdu.join_guards (q : SoundRequest) (u : Sdu) : GuardsOk (u.join cfg q).2 := by
  unfold Sdu.join
  dsimp only
  split
  · exact Sdu.settlePhase_guards cfg _ _
  · split
    · exact Sdu.settlePhase_guards cfg _ _
    · exact .of_all rfl

theorem Sdu.remove_guards (src : SoundSource) (snd : Sounder) (u : Sdu) : GuardsOk (u.remove cfg src snd).2 := by
  unfold Sdu.remove
  dsimp only
  split
  · exact Sdu.free_guards cfg _ _
  · exact .of_all rfl

theorem Sdu.offer_guards (q : SoundRequest) (u : Sdu) {r : Sdu × List Instr} (h : u.offer cfg q = some r) :
    GuardsOk r.2 := by
  unfold Sdu.offer at h
  split at h
  · cases h
    unfold Sdu.replace
    dsimp only
    split
    · exact Sdu.free_guards cfg _ _
    · exact Sdu.join_guards cfg _ _
  · split at h
    · cases h
      exact Sdu.join_guards cfg _ _
    · split at h
      · cases h
        exact ((Sdu.remove_guards cfg _ _ _).append (Sdu.join_guards cfg _ _)).append (.of_all rfl)
      · cases h

theorem Sdu.hardwareAdd_guards (src : SoundSource) (snd : Sounder) (pattern : Fin 16) (u : Sdu) :
    GuardsOk (u.hardwareAdd cfg src snd pattern).2 := by
  unfold Sdu.hardwareAdd
  split
  · exact .of_all rfl
  · split
    next h => exact guardsOk_cons.mpr ⟨rfl, Sdu.offer_guards cfg _ _ h⟩
    next => exact .of_all rfl

theorem Sdu.hardwareRemove_guards (src : SoundSource) (snd : Sounder) (u : Sdu) :
    GuardsOk (u.hardwareRemove cfg src snd).2 := by
  unfold Sdu.hardwareRemove
  split
  · exact guardsOk_cons.mpr ⟨rfl, Sdu.remove_guards cfg _ _ _⟩
  · exact .of_all rfl

theorem Sdu.addAll_guards (l : List SoundOffer) : ∀ u : Sdu, GuardsOk (u.addAll cfg l).2 := by
  induction l with
  | nil => exact fun _ => (.of_all rfl)
  | cons o l ih => exact fun u => (Sdu.hardwareAdd_guards cfg _ _ _ _).append (ih _)

theorem Sdu.lockdown_guards (view : LockState) (u : Sdu) : GuardsOk (u.lockdown cfg view).2 := by
  cases view with
  | held => exact Sdu.addAll_guards cfg _ _
  | clear => exact (Sdu.hardwareRemove_guards cfg _ _ _).append (Sdu.hardwareRemove_guards cfg _ _ _)

theorem Sdu.direct_guards (k : DirectSound) (value : Bool) (u : Sdu) : GuardsOk (u.direct cfg k value).2 := by
  unfold Sdu.direct
  dsimp only
  split
  · exact Sdu.hardwareAdd_guards cfg _ _ _ _
  · exact Sdu.hardwareRemove_guards cfg _ _ _

theorem Sdu.freeLost_guards (l : List Sounder) : ∀ u : Sdu, GuardsOk (u.freeLost cfg l).2 := by
  induction l with
  | nil => exact fun _ => (.of_all rfl)
  | cons snd l ih =>
    intro u
    unfold Sdu.freeLost
    dsimp only
    refine GuardsOk.append ?_ (ih _)
    split
    · exact Sdu.free_guards cfg snd u
    · exact .of_all rfl

end

/-! #### The fault and notice unit -/

theorem Fnu.severe_guards (kind : FaultKind) (source : UnitName) (context : FaultContext) (recoverable : Bool)
    (effort : Int) (desk : DeskState) (f : Fnu) :
    GuardsOk (f.severe kind source context recoverable effort desk).2 := by
  have hlock : ∀ f : Fnu, GuardsOk f.enterLockdown.2 := by
    intro f
    unfold Fnu.enterLockdown
    split <;> exact .of_all rfl
  unfold Fnu.severe
  split
  · dsimp only
    split
    · exact hlock _
    · exact .of_all rfl
  · exact hlock _

end Sys2Proof.Machine

namespace Sys2Proof.Machine

/-! ### What every row keeps of the traction unit (R59, R68, R70, R73) -/

theorem guardValuesOk_iff {s : State} : GuardValuesOk s ↔ GuardsOk s.pending ∧ GuardsOk s.handed := by
  rw [← guardsOk_append]
  constructor
  · intro h c hc
    cases c
    case pointGuardEntryChange a v => exact h a v hc
    all_goals rfl
  · exact fun h a v hc => h _ hc

/-- The settings in range, the unit's invariant, and the POINT_GUARD values that are on their way. -/
def TractionSafe (s : State) : Prop := TractionOk s ∧ GuardValuesOk s

theorem tractionSafe_iff {s : State} : TractionSafe s ↔
    s.settings.ok = true ∧ TduOk s.tdu ∧ GuardsOk s.pending ∧ GuardsOk s.handed := by
  rw [TractionSafe, tractionOk_iff, guardValuesOk_iff, and_assoc]

theorem TractionSafe.of_handed {s : State} (h : TractionSafe s) : GuardsOk s.handed := (tractionSafe_iff.mp h).2.2.2

/-- `t` keeps of the traction unit what `s` meets. -/
def Steers (s t : State) : Prop := TractionSafe s → TractionSafe t

theorem Steers.refl (s : State) : Steers s s := id

theorem Steers.trans {s t u : State} (h : Steers s t) (g : Steers t u) : Steers s u := g ∘ h

/-- `Steers.trans` with the last change first. -/
theorem Steers.comp {s t u : State} (g : Steers t u) (h : Steers s t) : Steers s u := h.trans g

section
variable {s t : State}

/-! #### One unit replaced -/

/-- The traction unit and the settings as they were, and more handed on. -/
theorem Steers.of_out {out : List Instr} (hset : t.settings = s.settings) (htdu : t.tdu = s.tdu)
    (hpending : t.pending = s.pending) (hhanded : t.handed = s.handed ++ out)
    (hout : s.settings.ok = true → GuardsOk out) : Steers s t := by
  simp only [Steers, tractionSafe_iff, hset, htdu, hpending, hhanded]
  exact fun ⟨hok, hu, hp, hh⟩ => ⟨hok, hu, hp, hh.append (hout hok)⟩

/-- The traction unit, the settings and the events as they were. -/
theorem Steers.of_same (hset : t.settings = s.settings) (htdu : t.tdu = s.tdu) (hpending : t.pending = s.pending)
    (hhanded : t.handed = s.handed) : Steers s t :=
  .of_out hset htdu hpending (hhanded.trans (List.append_nil _).symm) fun _ => guardsOk_nil

theorem State.take_steers (c : Instr) : Steers s (s.take c) := by
  simp only [Steers, tractionSafe_iff]
  exact fun ⟨hok, hu, hp, hh⟩ => ⟨hok, hu, hp, fun x hx => hh x (List.mem_of_mem_erase hx)⟩

theorem State.hand_steers {out : List Instr} (h : GuardsOk out) : Steers s (s.hand out) :=
  .of_out rfl rfl rfl rfl fun _ => h

theorem State.rewrite_steers (f : StoreWord → Bool) : Steers s (s.rewrite f) := .of_same rfl rfl rfl rfl

theorem State.putDau_steers {out : List Instr} (x : Dau) (h : GuardsOk out) : Steers s (s.putDau x out) :=
  .of_out rfl rfl rfl rfl fun _ => h

theorem State.putLmu_steers {out : List Instr} (x : Lmu) (h : GuardsOk out) : Steers s (s.putLmu x out) :=
  .of_out rfl rfl rfl rfl fun _ => h

theorem State.putLcu_steers {out : List Instr} (x : Lcu) (h : GuardsOk out) : Steers s (s.putLcu x out) :=
  .of_out rfl rfl rfl rfl fun _ => h

theorem State.putRtu_steers {out : List Instr} (x : Rtu) (h : s.settings.ok = true → GuardsOk out) :
    Steers s (s.putRtu x out) := .of_out rfl rfl rfl rfl h

theorem State.putTlu_steers {out : List Instr} (x : Tlu) (h : GuardsOk out) : Steers s (s.putTlu x out) :=
  .of_out rfl rfl rfl rfl fun _ => h

theorem State.putSru_steers {out : List Instr} (x : Sru) (h : GuardsOk out) : Steers s (s.putSru x out) :=
  .of_out rfl rfl rfl rfl fun _ => h

theorem State.putSdu_steers {out : List Instr} (x : Sdu) (h : GuardsOk out) : Steers s (s.putSdu x out) :=
  .of_out rfl rfl rfl rfl fun _ => h

theorem State.putFnu_steers {out : List Instr} (x : Fnu) (h : GuardsOk out) : Steers s (s.putFnu x out) :=
  .of_out rfl rfl rfl rfl fun _ => h

theorem Steers.of_rst (x : Rst) : Steers s { s with rst := x } := .of_same rfl rfl rfl rfl

/-- What the unit itself does: the one change that its invariant speaks of. -/
theorem State.putTdu_steers {x : Tdu} {out : List Instr} (h : s.settings.ok = true → TduOk s.tdu → TduOk x)
    (hout : GuardsOk out) : Steers s (s.putTdu x out) := by
  simp only [Steers, tractionSafe_iff]
  exact fun ⟨hok, hu, hp, hh⟩ => ⟨hok, h hok hu, hp, hh.append hout⟩

theorem State.tduEvent_steers {r : Tdu × List Instr} (h : s.settings.ok = true → TduOk s.tdu → TduOk r.1)
    (hout : GuardsOk r.2) (reads : StoreWord → Bool) : Steers s (s.tduEvent reads r) :=
  State.putTdu_steers h ((guardsOk_parityFaults _ _ _ _).append hout)

theorem State.entryEvent_steers {x : Tdu} (h : s.settings.ok = true → TduOk s.tdu → TduOk x) (c : CeilingSource)
    (reads : StoreWord → Bool) : Steers s (s.entryEvent c reads x) :=
  (State.tduEvent_steers (r := (x, lockReport s.tdu x)) h (guardsOk_lockReport _ _) reads).trans
    (State.rewrite_steers _)

theorem State.dauEvent_steers {r : Dau × List Instr} (h : GuardsOk r.2) : Steers s (s.dauEvent r) :=
  State.putDau_steers _ ((guardsOk_parityFaults _ _ _ _).append h)

theorem State.rtuEvent_steers {r : Rtu × List Instr} (h : effortOk s.settings.creep = true → GuardsOk r.2)
    (reads : StoreWord → Bool) : Steers s (s.rtuEvent reads r) :=
  State.putRtu_steers _ fun hok => (guardsOk_parityFaults _ _ _ _).append (h (Settings.ceilings_ok hok).2.2.2)

theorem State.sruEvent_steers {r : Sru × List Instr} (h : GuardsOk r.2) (reads : StoreWord → Bool) :
    Steers s (s.sruEvent reads r) := State.putSru_steers _ ((guardsOk_parityFaults _ _ _ _).append h)

theorem State.sound_steers {out : List Instr} (x : Sdu) (h : GuardsOk out) : Steers s (s.sound x out) :=
  State.putSdu_steers _ (h.append (guardsOk_parityFaults _ _ _ _))

theorem State.sduEvent_steers {r : Sdu × List Instr} (h : GuardsOk r.2) (reads : StoreWord → Bool) :
    Steers s (s.sduEvent reads r) := State.sound_steers _ ((guardsOk_parityFaults _ _ _ _).append h)

theorem State.settleFrom_steers (l : Lmu) : Steers s (s.settleFrom l) :=
  State.putLmu_steers _ ((guardsOk_parityFaults _ _ _ _).append l.settle_guards)

/-! #### Slots -/

theorem State.consume_steers (p : Port) (cond : Bool) (v : Verdict) : Steers s (s.consume p cond v) := by
  unfold State.consume
  split
  · exact .of_rst _
  · exact .refl s

theorem State.cancelOthers_steers (p : Port) (changed : Bool) (r : Record) :
    Steers s (s.cancelOthers p changed r) := by
  unfold State.cancelOthers
  split
  · exact .of_rst _
  · exact .refl s

theorem State.atPort_steers (p : Port) (g : PortSlots → PortSlots) : Steers s (s.atPort p g) := .of_same rfl rfl rfl rfl

theorem State.engineWork_steers (p : Port) (r : Request) : Steers s (s.engineWork p r) :=
  (State.hand_steers (guardsOk_parityFaults _ _ _ _)).trans (.of_rst _)

/-! #### Events of the units -/

theorem State.takeCondition_steers (c : Condition) (v : Bool) : Steers s (s.takeCondition c v) := by
  unfold State.takeCondition
  split
  · exact .refl s
  · exact State.settleFrom_steers _

theorem State.rawChange_steers (n : Fin 32) (v : Bool) : Steers s (s.rawChange n v) := by
  unfold State.rawChange
  split
  · exact .refl s
  · dsimp only
    split
    · split
      · exact State.putLmu_steers _ guardsOk_nil
      · split
        · exact (State.putLmu_steers _ guardsOk_nil).trans (State.settleFrom_steers _)
        · exact State.putLmu_steers _ guardsOk_nil
    · exact State.putLmu_steers _ (.ite (.of_all rfl) (.of_all rfl))
    all_goals exact State.putLmu_steers _ guardsOk_nil

theorem State.attemptSelection_steers : Steers s s.attemptSelection := by
  unfold State.attemptSelection
  split
  · split
    · exact (State.putTlu_steers _ guardsOk_nil).trans (State.putRtu_steers _ fun _ => guardsOk_parityFaults _ _ _ _)
    · exact State.hand_steers (guardsOk_parityFaults _ _ _ _)
  · exact .refl s

theorem State.openWindow_steers : Steers s s.openWindow :=
  ((State.putRtu_steers _ fun _ => guardsOk_nil).trans (State.putTlu_steers _ guardsOk_nil)).trans
    State.attemptSelection_steers

theorem State.deliver_steers (r : Option Reception) : Steers s (s.deliver r) := by
  unfold State.deliver
  split
  · exact .refl s
  · exact .refl s
  · exact State.putLcu_steers _ ((guardsOk_parityFaults _ _ _ _).append (Lcu.beacon_guards _ _ _))
  · exact (State.rtuEvent_steers (fun h => Rtu.pointState_guards h _ _ _ _ _ _ _) _).trans (State.rewrite_steers _)
  · exact State.putTlu_steers _ (.of_all rfl)

theorem foldl_steers {α : Type} {f : State → α → State} (h : ∀ s x, Steers s (f s x)) (l : List α) :
    ∀ s, Steers s (l.foldl f s) := by
  induction l with
  | nil => exact Steers.refl
  | cons x l ih => exact fun s => (h s x).trans (ih _)

theorem State.hear_steers (heard : List Bool) : Steers s (s.hear heard) :=
  foldl_steers (fun _ _ => (State.putTlu_steers _ guardsOk_nil).trans (State.deliver_steers _)) heard s

theorem State.endReply_steers (e : ReplyEnd) : Steers s (s.endReply e) :=
  (State.sruEvent_steers (Sru.replyEnds_guards _ _ e _) _).trans (State.rewrite_steers _)

theorem State.loopSample_steers (away : Bool) : Steers s (s.loopSample away) := by
  unfold State.loopSample
  dsimp only
  split
  · exact State.putSru_steers _ guardsOk_nil
  · exact (State.putSru_steers _ guardsOk_nil).trans (State.endReply_steers _)

theorem State.listen_steers (heard : List Bool) : Steers s (s.listen heard) :=
  foldl_steers (fun _ => State.loopSample_steers) heard s

theorem State.replyTimerExpiry_steers : Steers s s.replyTimerExpiry := by
  unfold State.replyTimerExpiry
  split
  · exact State.endReply_steers _
  · exact .refl s

theorem State.takeFault_steers (kind : FaultKind) (source : UnitName) (context : FaultContext)
    (recoverable : Bool) (effort : Option Int) : Steers s (s.takeFault kind source context recoverable effort) := by
  have hfaults : GuardsOk (if ownParity kind source then [] else
      parityFaults s .fnu (captureReads kind s.fnu) none) := .ite (.of_all rfl) (guardsOk_parityFaults _ _ _ _)
  exact ((State.putFnu_steers _ ((Fnu.severe_guards _ _ _ _ _ _ _).append hfaults)).trans
    (State.rewrite_steers _)).trans (.of_rst _)

theorem State.takeNotice_steers (c : Cause) : Steers s (s.takeNotice c) :=
  (State.putFnu_steers _ (guardsOk_parityFaults _ _ _ _)).trans (State.rewrite_steers _)

theorem State.notifyEvent_steers (entry beacon : Nat) : Steers s (s.notifyEvent entry beacon) := by
  unfold State.notifyEvent
  split
  · exact .refl s
  · exact State.putLcu_steers _ guardsOk_nil

theorem State.takeMoving_steers (u : MotionTaker) : Steers s (s.takeMoving u) := by
  cases u with
  | dau => exact State.putDau_steers _ guardsOk_nil
  | tdu => exact State.tduEvent_steers (fun _ h => h.moving _ _) (Tdu.moving_guards _ _ _) _
  | lmu => exact State.takeCondition_steers _ _
  | fnu => exact State.putFnu_steers _ guardsOk_nil

theorem State.takeStandstill_steers (u : MotionTaker) : Steers s (s.takeStandstill u) := by
  cases u with
  | dau => exact State.dauEvent_steers (Dau.standstill_guards _)
  | tdu => exact State.tduEvent_steers (fun _ h => h.standstill _) (Tdu.standstill_guards _ _) _
  | lmu => exact State.takeCondition_steers _ _
  | fnu => exact State.putFnu_steers _ guardsOk_nil

theorem State.teardownChange_steers (byCommand changed : Bool) (r : Record) :
    Steers s (s.teardownChange byCommand changed r) := by
  unfold State.teardownChange
  split
  · split
    · exact .of_rst _
    · exact State.hand_steers (.of_all rfl)
  · exact .refl s

theorem State.teardownAt_steers (former : Desk) (byCommand : Bool) (u : TeardownTaker) :
    Steers s (s.teardownAt former byCommand u) := by
  cases u with
  | tdu =>
    have htdu : Steers s (s.tduEvent tduTeardownReads (s.tdu.teardown s.settings former)) :=
      State.tduEvent_steers (fun hok h => h.teardown hok former) (Tdu.teardown_guards _ _ _) _
    exact (((htdu.trans (State.rewrite_steers _)).trans (State.teardownChange_steers _ _ _)).trans
      (State.teardownChange_steers _ _ _)).trans (State.teardownChange_steers _ _ _)
  | rtu => exact (State.rtuEvent_steers (fun h => Rtu.teardown_guards h _) _).trans (State.teardownChange_steers _ _ _)
  | sru =>
    exact ((State.sruEvent_steers (guardsOk_latchCondition _ _) _).trans (State.rewrite_steers _)).trans
      (State.teardownChange_steers _ _ _)
  | sdu => exact (State.sduEvent_steers (Sdu.freeLost_guards _ _ _) _).trans (State.teardownChange_steers _ _ _)
  | lcu => exact State.putLcu_steers _ guardsOk_nil

theorem State.tluLockdown_steers (view : LockState) : Steers s (s.tluLockdown view) := by
  have hput : Steers s (s.putTlu { s.tlu with lockView := view } []) := State.putTlu_steers _ guardsOk_nil
  unfold State.tluLockdown
  dsimp only
  split
  · exact hput.trans State.attemptSelection_steers
  · exact hput
  · exact hput

theorem State.sduLockdown_steers (view : LockState) : Steers s (s.sduLockdown view) := by
  unfold State.sduLockdown
  split
  · exact State.putSdu_steers _ guardsOk_nil
  · exact (State.sduEvent_steers (Sdu.lockdown_guards _ _ _) _).trans (State.rewrite_steers _)

theorem State.takeLockdown_steers (view : LockState) (u : LockTaker) : Steers s (s.takeLockdown view u) := by
  cases u with
  | tdu => exact State.entryEvent_steers (fun _ h => h.lockdown _ _) _ _
  | lmu => exact State.takeCondition_steers _ _
  | tlu => exact State.tluLockdown_steers view
  | sdu => exact State.sduLockdown_steers view

end
end Sys2Proof.Machine

namespace Sys2Proof.Machine

/-! #### The units' rows -/

/-- What an outcome leaves keeps of the traction unit what the state met. -/
abbrev SteeredBy (o : Host.Outcome State Fault Refusal) (s : State) : Prop := Steers s (s.after o)

section
variable {s : State}

/-- Every row takes its own event off those handed on first. -/
theorem Steers.taking {c : Instr} {t : State} (h : Steers (s.take c) t) : Steers s t :=
  (State.take_steers c).trans h

theorem execDebounceTimerExpiry_steers (line : Fin 32) : SteeredBy (execDebounceTimerExpiry line s) s := by
  unfold execDebounceTimerExpiry
  dsimp only
  split
  · exact .taking (State.settleFrom_steers _)
  · exact State.take_steers _

theorem execOnDelayTimerExpiry_steers (cell : Fin 16) : SteeredBy (execOnDelayTimerExpiry cell s) s := by
  unfold execOnDelayTimerExpiry
  dsimp only
  split
  · exact .taking (State.settleFrom_steers _)
  · exact State.take_steers _

theorem execHardwareSoundAdd_steers (src : SoundSource) (snd : Sounder) (pattern : Fin 16) :
    SteeredBy (execHardwareSoundAdd src snd pattern s) s := by
  unfold execHardwareSoundAdd
  dsimp only
  split
  · exact State.take_steers _
  · exact .taking ((State.sduEvent_steers (Sdu.hardwareAdd_guards _ _ _ _ _) _).trans (State.rewrite_steers _))

theorem execHardwareSoundRemove_steers (src : SoundSource) (snd : Sounder) :
    SteeredBy (execHardwareSoundRemove src snd s) s := by
  unfold execHardwareSoundRemove
  dsimp only
  split
  · exact State.take_steers _
  · exact .taking (State.sduEvent_steers (Sdu.hardwareRemove_guards _ _ _ _) _)

theorem execDirectSoundPermitEvent_steers (k : DirectSound) (value : Bool) :
    SteeredBy (execDirectSoundPermitEvent k value s) s := by
  unfold execDirectSoundPermitEvent
  dsimp only
  split
  · exact .taking (State.putSdu_steers _ guardsOk_nil)
  · exact .taking ((State.sduEvent_steers (Sdu.direct_guards _ _ _ _) _).trans (State.rewrite_steers _))

theorem execPhaseTimerExpiry_steers (snd : Sounder) : SteeredBy (execPhaseTimerExpiry snd s) s := by
  unfold execPhaseTimerExpiry
  dsimp only
  split
  · exact .taking ((State.sduEvent_steers (Sdu.phaseExpiry_guards _ _ _) _).trans (State.rewrite_steers _))
  · exact State.take_steers _

theorem execAtStopEvent_steers (value : Bool) : SteeredBy (execAtStopEvent value s) s :=
  .taking ((State.sruEvent_steers (Sru.atStopEvent_guards _ _) _).trans (State.rewrite_steers _))

theorem execStopZoneEnter_steers (p : Nat) (mandatory : Bool) : SteeredBy (execStopZoneEnter p mandatory s) s :=
  .taking ((State.sruEvent_steers (Sru.zoneEnter_guards _ _ _ _ _) _).trans (State.rewrite_steers _))

theorem execStopZoneLeave_steers (p : Nat) : SteeredBy (execStopZoneLeave p s) s :=
  .taking ((State.sruEvent_steers (Sru.zoneLeave_guards _ _) _).trans (State.rewrite_steers _))

theorem execPollEnd_steers : SteeredBy (execPollEnd s) s := by
  unfold execPollEnd
  dsimp only
  split
  · exact .taking (State.sruEvent_steers guardsOk_nil _)
  · exact .taking (State.putSru_steers _ guardsOk_nil)

theorem execBadReply_steers (heard : List Bool) : SteeredBy (execBadReply heard s) s := by
  unfold execBadReply
  dsimp only
  split
  · exact .taking State.replyTimerExpiry_steers
  · exact .taking (State.listen_steers _)

theorem execVigilancePedalEvent_steers (d : Desk) (value : Bool) : SteeredBy (execVigilancePedalEvent d value s) s :=
  .taking (State.tduEvent_steers (fun _ h => h.pedal _ _ _ _) (Tdu.pedal_guards _ _ _ _ _) _)

theorem execTractionPermitEvent_steers (value : Bool) : SteeredBy (execTractionPermitEvent value s) s :=
  .taking (State.entryEvent_steers (fun _ h => h.tractionPermitEvent _ _) _ _)

theorem execFrameTimerExpiry_steers : SteeredBy (execFrameTimerExpiry s) s :=
  .taking (State.putTdu_steers (fun _ h => h.frameExpiry _ _)
    ((guardsOk_parityFaults _ _ _ _).append (Tdu.frameExpiry_guards _ _ _)))

theorem execStatusFrame_steers (octets : List Byte) : SteeredBy (execStatusFrame octets s) s :=
  .taking ((State.tduEvent_steers (fun _ h => h.status _) (Tdu.status_guards _ _) _).trans (State.rewrite_steers _))

theorem execStaleTimerExpiry_steers : SteeredBy (execStaleTimerExpiry s) s :=
  .taking (State.tduEvent_steers (fun _ h => h.staleExpiry _) (Tdu.staleExpiry_guards _ _) _)

theorem execGraceTimerExpiry_steers : SteeredBy (execGraceTimerExpiry s) s :=
  .taking (State.tduEvent_steers (fun hok h => h.graceExpiry hok _) (Tdu.graceExpiry_guards _ _ _) _)

theorem execPointGuardEntryChange_steers (active : Bool) {value : Int} (hv : effortOk value = true) :
    SteeredBy (execPointGuardEntryChange active value s) s :=
  .taking (State.entryEvent_steers (fun _ h => h.pointGuard _ _ hv) _ _)

theorem execTachPulse_steers : SteeredBy (execTachPulse s) s :=
  .taking (State.putLcu_steers _ ((guardsOk_parityFaults _ _ _ _).append (Lcu.pulse_guards _ _)))

theorem execArmRoute_steers (j : Nat) : SteeredBy (execArmRoute j s) s :=
  .taking ((State.rtuEvent_steers (fun h => Rtu.arm_guards h _ _ _) _).trans (State.rewrite_steers _))

theorem execClearance_steers (j : Nat) : SteeredBy (execClearance j s) s :=
  .taking (State.rtuEvent_steers (fun h => Rtu.clearance_guards h _ _ _) _)

theorem execGuardTimerExpiry_steers (j : Nat) : SteeredBy (execGuardTimerExpiry j s) s := by
  unfold execGuardTimerExpiry
  dsimp only
  split
  · exact .taking (State.rtuEvent_steers (fun h => Rtu.guardExpiry_guards h _ _ _) _)
  · exact State.take_steers _

theorem execLateDecisionReport_steers (p : Nat) : SteeredBy (execLateDecisionReport p s) s :=
  .taking ((State.rtuEvent_steers (fun _ => Rtu.lateDecision_guards _ _) _).trans (State.rewrite_steers _))

theorem execTelegramEnd_steers : SteeredBy (execTelegramEnd s) s := by
  unfold execTelegramEnd
  dsimp only
  split
  · exact .taking (((State.rtuEvent_steers (fun h => Rtu.ended_guards h _ _) _).trans (State.rewrite_steers _)).trans
      (State.putTlu_steers _ guardsOk_nil))
  · exact State.take_steers _
  · exact State.take_steers _

theorem execGapTimerExpiry_steers : SteeredBy (execGapTimerExpiry s) s := by
  unfold execGapTimerExpiry
  dsimp only
  split
  · exact .taking ((State.putTlu_steers _ guardsOk_nil).trans State.attemptSelection_steers)
  · exact State.take_steers _

theorem execWindowClose_steers : SteeredBy (execWindowClose s) s :=
  .taking (((State.rtuEvent_steers (fun _ => Rtu.windowClose_guards _) _).trans (State.rewrite_steers _)).trans
    (State.putTlu_steers _ guardsOk_nil))

theorem execKeyPermitEvent_steers (d : Desk) (value : Bool) : SteeredBy (execKeyPermitEvent d value s) s :=
  .taking ((State.dauEvent_steers (Dau.keyEvent_guards _ _ _)).trans (State.rewrite_steers _))

theorem execLeadingEndPublished_steers (e : LeadingEnd) : SteeredBy (execLeadingEndPublished e s) s :=
  .taking (((State.putDau_steers _ guardsOk_nil).trans (State.rewrite_steers _)).trans
    (State.putLcu_steers _ guardsOk_nil))

theorem execEmergencyStopEvent_steers (value : Bool) : SteeredBy (execEmergencyStopEvent value s) s :=
  .taking (State.putFnu_steers _ (.ite (.of_all rfl) (.of_all rfl)))

theorem execNotifyAction_steers (entry beacon : Nat) : SteeredBy (execNotifyAction entry beacon s) s :=
  ((State.notifyEvent_steers _ _).trans (State.take_steers _)).trans (State.takeNotice_steers _)

theorem execDeskStateChange_steers (new : DeskState) : SteeredBy (execDeskStateChange new s) s :=
  .taking ((State.tduEvent_steers (fun hok h => h.deskState hok _) (Tdu.deskState_guards _ _ _) _).trans
    (State.rtuEvent_steers (fun _ => Rtu.deskState_guards _ _ _) _))

theorem execNoDeskTeardown_steers (u : TeardownTaker) (former : Desk) (byCommand : Bool) :
    SteeredBy (execNoDeskTeardown u former byCommand s) s := .taking (State.teardownAt_steers _ _ u)

theorem execMovingReport_steers (u : MotionTaker) : SteeredBy (execMovingReport u s) s :=
  .taking (State.takeMoving_steers u)

theorem execStandstillReport_steers (u : MotionTaker) : SteeredBy (execStandstillReport u s) s :=
  .taking (State.takeStandstill_steers u)

theorem execWindowOpen_steers : SteeredBy (execWindowOpen s) s := .taking State.openWindow_steers

theorem execOwedReport_steers : SteeredBy (execOwedReport s) s := .taking State.attemptSelection_steers

theorem execConditionChange_steers (c : Condition) (value : Bool) : SteeredBy (execConditionChange c value s) s :=
  .taking (State.takeCondition_steers _ _)

theorem execLockdownViewChange_steers (u : LockTaker) (view : LockState) :
    SteeredBy (execLockdownViewChange u view s) s := .taking (State.takeLockdown_steers view u)

/-! #### Events taken before a request -/

theorem State.takeEvent_steers {c : Instr} (h : guardOk c = true) : Steers s (s.takeEvent c) := by
  unfold State.takeEvent
  split
  · exact execNoDeskTeardown_steers _ _ _
  · exact execDeskStateChange_steers _
  · exact execLeadingEndPublished_steers _
  · exact execPointGuardEntryChange_steers _ h
  · exact execTractionPermitEvent_steers _
  · exact execVigilancePedalEvent_steers _ _
  · exact execKeyPermitEvent_steers _ _
  · exact execMovingReport_steers _
  · exact execMovingReport_steers _
  · exact execStandstillReport_steers _
  · exact execStandstillReport_steers _
  · exact execArmRoute_steers _
  · exact execClearance_steers _
  · exact execLateDecisionReport_steers _
  · exact execWindowOpen_steers
  · exact execWindowClose_steers
  · exact execOwedReport_steers
  · exact execAtStopEvent_steers _
  · exact execStopZoneEnter_steers _ _
  · exact execStopZoneLeave_steers _
  · exact execHardwareSoundAdd_steers _ _ _
  · exact execHardwareSoundRemove_steers _ _
  · exact execDirectSoundPermitEvent_steers _ _
  · exact execLockdownViewChange_steers _ _
  · exact execTachPulse_steers
  · exact execConditionChange_steers _ _
  · exact .refl s

/-- Events that were outstanding are taken one after the other. -/
theorem State.takeAll_steers {l : List Instr} (h : ∀ c ∈ l, c ∈ s.handed) : Steers s (s.takeAll l) := by
  have hall : ∀ l : List Instr, GuardsOk l → ∀ s : State, Steers s (s.takeAll l) := by
    intro l
    induction l with
    | nil => exact fun _ => Steers.refl
    | cons c l ih =>
      intro hl s
      obtain ⟨hc, hrest⟩ := guardsOk_cons.mp hl
      exact (State.takeEvent_steers hc).trans (ih hrest _)
  exact fun hs => hall l (fun c hc => hs.of_handed c (h c hc)) s hs

theorem mem_of_mem_throughLast {good : Instr → Bool} {l : List Instr} {c : Instr} (h : c ∈ throughLast good l) :
    c ∈ l :=
  List.mem_reverse.mp ((List.dropWhile_sublist _).subset (List.mem_reverse.mp h))

theorem State.takeShares_steers : Steers s s.takeShares :=
  State.takeAll_steers fun _ hc => mem_of_mem_throughLast (List.mem_of_mem_filter hc)

theorem State.completeTeardown_steers : Steers s s.completeTeardown :=
  ((State.takeShares_steers.trans State.takeShares_steers).trans State.takeShares_steers).trans
    (State.takeAll_steers fun _ hc => List.mem_of_mem_filter hc)

end

/-! #### Requests: what a WRITE, a READ and a command keep -/

/-- What an answer leaves keeps of the traction unit what the state met. -/
abbrev Answer.SteeredBy (a : Answer) (s : State) : Prop := Steers s a.state

section
variable {s : State}

theorem Answer.refuse_steers (why : Reason) : (Answer.refuse s why).SteeredBy s := .refl s

theorem Answer.storeError_steers (u : UnitName) (reads : StoreWord → Bool) :
    (Answer.storeError s u reads).SteeredBy s := State.hand_steers (guardsOk_parityFaults _ _ _ _)

theorem demandWriteAnswer_steers (d : Desk) (index : Byte) (contents : List Byte) :
    (demandWriteAnswer d index contents s).SteeredBy s := by
  unfold demandWriteAnswer
  split
  case h_1 => exact Answer.refuse_steers _
  case h_2 new hread =>
    have hnew : new.ok = true := ((readWhole_eq_some getDemand_exact).mp hread).2.1
    have hput : Steers s ((s.rewrite (writtenWords (demandRecord d) index)).tduEvent (settingWords [.staleTime])
        (s.tdu.demandWrite s.dau.state s.settings d new,
          publishTaken s.dau.state s.tdu (s.tdu.demandWrite s.dau.state s.settings d new))) :=
      (State.rewrite_steers _).trans
        (State.tduEvent_steers (fun _ h => TduOk.demandWrite h _ _ _ hnew) (.ite (.of_all rfl) (.of_all rfl)) _)
    dsimp only [Answer.SteeredBy]
    split
    · exact hput
    · exact hput.trans (.of_rst _)

theorem vehicleWriteAnswer_steers (index : Byte) (contents : List Byte) :
    (vehicleWriteAnswer index contents s).SteeredBy s := by
  unfold vehicleWriteAnswer
  split
  · exact Answer.refuse_steers _
  · exact (Steers.of_rst _).trans (State.rewrite_steers _)

/-- Settings that are in their ranges are stored. -/
theorem settings_steers {c : Settings} (h : c.ok = true) : Steers s { s with settings := c } := by
  simp only [Steers, tractionSafe_iff]
  exact fun ⟨_, hrest⟩ => ⟨h, hrest⟩

theorem settingsWriteAnswer_steers (index : Byte) (contents : List Byte) :
    (settingsWriteAnswer index contents s).SteeredBy s := by
  unfold settingsWriteAnswer
  split
  case h_1 => exact Answer.refuse_steers _
  case h_2 c hread =>
    have hc : c.ok = true := ((readWhole_eq_some getSettings_exact).mp hread).2.1
    exact ((settings_steers hc).trans (State.rewrite_steers _)).trans
      (State.tduEvent_steers (fun _ h => TduOk.newNoDeskCeiling h hc _) (guardsOk_lockReport _ _) _)

theorem linesWriteAnswer_steers (index : Byte) (contents : List Byte) :
    (linesWriteAnswer index contents s).SteeredBy s := by
  unfold linesWriteAnswer
  split
  · exact Answer.refuse_steers _
  · split
    · exact Answer.refuse_steers _
    · exact (State.putLmu_steers _ (guardsOk_parityFaults _ _ _ _)).trans (State.rewrite_steers _)

theorem cellsWriteAnswer_steers (index : Byte) (contents : List Byte) :
    (cellsWriteAnswer index contents s).SteeredBy s := by
  unfold cellsWriteAnswer
  split
  · exact Answer.refuse_steers _
  · split
    · exact Answer.refuse_steers _
    · exact (State.putLmu_steers _ (guardsOk_parityFaults _ _ _ _)).trans (State.rewrite_steers _)

theorem permitsWriteAnswer_steers (index : Byte) (contents : List Byte) :
    (permitsWriteAnswer index contents s).SteeredBy s := by
  unfold permitsWriteAnswer
  split
  · exact Answer.refuse_steers _
  · exact (State.putLmu_steers _ guardsOk_nil).trans (State.rewrite_steers _)

theorem locationsWriteAnswer_steers (index : Byte) (contents : List Byte) :
    (locationsWriteAnswer index contents s).SteeredBy s := by
  unfold locationsWriteAnswer
  split
  · exact Answer.refuse_steers _
  · exact (State.putLcu_steers _ guardsOk_nil).trans (State.rewrite_steers _)

theorem patternsWriteAnswer_steers (index : Byte) (contents : List Byte) :
    (patternsWriteAnswer index contents s).SteeredBy s := by
  unfold patternsWriteAnswer
  split
  · exact Answer.refuse_steers _
  · split
    · exact Answer.refuse_steers _
    · exact (State.putSdu_steers _ guardsOk_nil).trans (State.rewrite_steers _)

theorem writeAnswer_steers (index : Byte) (contents : List Byte) (r : Record) :
    (writeAnswer index contents s r).SteeredBy s := by
  cases r with
  | demandA => exact demandWriteAnswer_steers _ _ _
  | demandB => exact demandWriteAnswer_steers _ _ _
  | vehicle => exact vehicleWriteAnswer_steers _ _
  | lines => exact linesWriteAnswer_steers _ _
  | cells => exact cellsWriteAnswer_steers _ _
  | permits => exact permitsWriteAnswer_steers _ _
  | locations => exact locationsWriteAnswer_steers _ _
  | patterns => exact patternsWriteAnswer_steers _ _
  | settings => exact settingsWriteAnswer_steers _ _
  | _ => exact Answer.refuse_steers _

/-- A desk command that is taken hands on what the change of the desk record does. -/
theorem State.deskTaken_steers (new : DeskState) (cause : LastChange) : (s.deskTaken new cause).SteeredBy s :=
  State.putDau_steers _ (Dau.change_guards _ _ _ _)

theorem deskClaimAnswer_steers (p : Port) (args : List Byte) : (deskClaimAnswer p args s).SteeredBy s := by
  unfold deskClaimAnswer
  split
  · split_ifs
    · exact Answer.storeError_steers _ _
    · exact State.deskTaken_steers _ _
    · exact Answer.refuse_steers _
  · exact Answer.refuse_steers _
  · exact Answer.refuse_steers _

theorem deskReleaseAnswer_steers (p : Port) (args : List Byte) : (deskReleaseAnswer p args s).SteeredBy s := by
  unfold deskReleaseAnswer
  split
  · split_ifs
    · exact Answer.storeError_steers _ _
    · exact State.deskTaken_steers _ _
    · exact Answer.refuse_steers _
  · exact Answer.refuse_steers _
  · exact Answer.refuse_steers _

theorem deskForceReleaseAnswer_steers (args : List Byte) : (deskForceReleaseAnswer args s).SteeredBy s := by
  unfold deskForceReleaseAnswer
  split
  · exact Answer.refuse_steers _
  · split_ifs
    · exact Answer.storeError_steers _ _
    · exact State.deskTaken_steers _ _
    · exact Answer.refuse_steers _

theorem supervisorCeilingAnswer_steers (args : List Byte) : (supervisorCeilingAnswer args s).SteeredBy s := by
  unfold supervisorCeilingAnswer
  split
  case h_1 => exact Answer.refuse_steers _
  case h_2 a hread =>
    have hvalue : effortOk a.2 = true := ((getCeilingArgs_exact.readAll_iff args a).mp hread).1
    split
    · exact Answer.storeError_steers _ _
    · exact State.putTdu_steers (fun _ h => h.setFree _ rfl hvalue) guardsOk_nil

theorem State.routeCommand_steers (l : List SettingName) {r : RouteResult}
    (h : effortOk s.settings.creep = true → GuardsOk r.2.1) : (s.routeCommand l r).SteeredBy s := by
  unfold State.routeCommand
  split
  · exact Answer.storeError_steers _ _
  · exact State.putRtu_steers _ fun hok => h (Settings.ceilings_ok hok).2.2.2

theorem routeInsertAnswer_steers (p : Port) (args : List Byte) : (routeInsertAnswer p args s).SteeredBy s := by
  unfold routeInsertAnswer
  split
  · exact State.routeCommand_steers _ fun h => Rtu.insert_guards h _ _ _ _
  · exact Answer.refuse_steers _

theorem routeSetCodeAnswer_steers (args : List Byte) : (routeSetCodeAnswer args s).SteeredBy s := by
  unfold routeSetCodeAnswer
  split
  · exact State.routeCommand_steers _ fun h => Rtu.setCode_guards h _ _ _ _
  · exact Answer.refuse_steers _

theorem routeCancelAnswer_steers (args : List Byte) : (routeCancelAnswer args s).SteeredBy s := by
  unfold routeCancelAnswer
  split
  · exact State.routeCommand_steers _ fun h => Rtu.cancelRoute_guards h _ _ _
  · exact Answer.refuse_steers _

theorem routeOverrideAnswer_steers (args : List Byte) : (routeOverrideAnswer args s).SteeredBy s := by
  unfold routeOverrideAnswer
  split
  · exact State.routeCommand_steers _ fun h => Rtu.override_guards h _ _ _
  · exact Answer.refuse_steers _

theorem planSyncAnswer_steers (args : List Byte) : (planSyncAnswer args s).SteeredBy s := by
  unfold planSyncAnswer
  split
  · exact State.routeCommand_steers _ fun _ => guardsOk_nil
  · exact Answer.refuse_steers _

theorem stopSetAnswer_steers (args : List Byte) : (stopSetAnswer args s).SteeredBy s := by
  unfold stopSetAnswer
  split
  · split_ifs
    · exact Answer.storeError_steers _ _
    · exact Answer.refuse_steers _
    · exact State.putSru_steers _ (Sru.press_guards _ _ _ _ _)
  · exact Answer.refuse_steers _

theorem stopClearAnswer_steers (args : List Byte) : (stopClearAnswer args s).SteeredBy s := by
  unfold stopClearAnswer
  split
  · split
    · exact Answer.storeError_steers _ _
    · exact State.putSru_steers _ (guardsOk_latchCondition _ _)
  · exact Answer.refuse_steers _

theorem soundStartAnswer_steers (p : Port) (args : List Byte) : (soundStartAnswer p args s).SteeredBy s := by
  unfold soundStartAnswer
  split
  · exact Answer.refuse_steers _
  · dsimp only
    split_ifs
    · exact Answer.refuse_steers _
    · exact Answer.storeError_steers _ _
    · exact Answer.refuse_steers _
    · split
      case h_1 r hr => exact State.sound_steers _ (Sdu.offer_guards _ _ _ hr)
      case h_2 => exact Answer.refuse_steers _

theorem soundStopAnswer_steers (p : Port) (args : List Byte) : (soundStopAnswer p args s).SteeredBy s := by
  unfold soundStopAnswer
  split
  · exact Answer.refuse_steers _
  · dsimp only
    split_ifs
    · exact Answer.storeError_steers _ _
    · exact State.sound_steers _ (Sdu.remove_guards _ _ _ _)
    · exact .refl s

theorem faultAckAnswer_steers (args : List Byte) : (faultAckAnswer args s).SteeredBy s := by
  unfold faultAckAnswer
  split
  · exact Answer.refuse_steers _
  · split_ifs
    · exact Answer.storeError_steers _ _
    · exact Answer.refuse_steers _
    · exact (State.putFnu_steers _ guardsOk_nil).trans (State.rewrite_steers _)

theorem lockdownReleaseAnswer_steers (args : List Byte) : (lockdownReleaseAnswer args s).SteeredBy s := by
  unfold lockdownReleaseAnswer
  split
  · exact Answer.refuse_steers _
  · split_ifs
    · exact Answer.storeError_steers _ _
    · exact State.putFnu_steers _ (.of_all rfl)
    · exact Answer.refuse_steers _

theorem noticeClearAnswer_steers (p : Port) (args : List Byte) : (noticeClearAnswer p args s).SteeredBy s := by
  unfold noticeClearAnswer
  split
  · exact Answer.refuse_steers _
  · split
    · exact Answer.storeError_steers _ _
    · exact State.putFnu_steers _ guardsOk_nil

theorem noticeEnableAnswer_steers (p : Port) (args : List Byte) : (noticeEnableAnswer p args s).SteeredBy s := by
  unfold noticeEnableAnswer
  split
  · exact Answer.refuse_steers _
  · split
    · exact Answer.storeError_steers _ _
    · exact (State.putFnu_steers _ guardsOk_nil).trans (State.rewrite_steers _)

/-! #### CONFIG_COMMIT and RECONFIGURE -/

theorem State.commit_steers : Steers s s.commit :=
  Steers.comp (State.rewrite_steers _) <| Steers.comp (State.sduEvent_steers (Sdu.addAll_guards _ _ _) _) <|
  Steers.comp State.attemptSelection_steers <| Steers.comp (State.putTlu_steers _ guardsOk_nil) <|
  Steers.comp (State.sruEvent_steers guardsOk_nil _) <| Steers.comp (State.settleFrom_steers _) <|
  Steers.comp (State.rewrite_steers _) (.of_rst _)

theorem configCommitAnswer_steers (args : List Byte) : (configCommitAnswer args s).SteeredBy s := by
  unfold configCommitAnswer
  split
  · exact Answer.refuse_steers _
  · split_ifs
    · exact Answer.storeError_steers _ _
    · exact Answer.refuse_steers _
    · exact Answer.refuse_steers _
    · exact Answer.storeError_steers _ _
    · exact State.commit_steers

theorem State.endGuard_steers (plan : List PlanEntry) : Steers s (s.endGuard plan) := by
  unfold State.endGuard
  split
  · exact (State.entryEvent_steers (fun hok h => h.pointGuard _ _ (Settings.ceilings_ok hok).2.2.2) _ _).trans
      (State.takeCondition_steers _ _)
  · exact .refl s

theorem State.reconfigureRtu_steers : Steers s s.reconfigureRtu :=
  (State.putRtu_steers _ fun _ => Rtu.reconfigure_guards _).trans (State.endGuard_steers _)

theorem State.reconfigureLcu_steers : Steers s s.reconfigureLcu :=
  (State.putLcu_steers _ guardsOk_nil).trans (State.putTlu_steers _ guardsOk_nil)

theorem State.reconfigureSru_steers : Steers s s.reconfigureSru := by
  have hsru : Steers s ((s.sruEvent stopWords (s.sru.clearAll.stopPolling, [])).rewrite clearAllWritten) :=
    (State.sruEvent_steers guardsOk_nil _).trans (State.rewrite_steers _)
  unfold State.reconfigureSru
  dsimp only
  split
  · exact hsru.trans (State.takeCondition_steers _ _)
  · exact hsru

theorem State.reconfigureParts_steers : Steers s s.reconfigureParts :=
  Steers.comp (State.putTlu_steers _ guardsOk_nil) <| Steers.comp (State.takeCondition_steers _ _) <|
  Steers.comp (.of_rst _) <| Steers.comp (State.rewrite_steers _) <|
  Steers.comp (State.putSdu_steers _ guardsOk_nil) <| Steers.comp State.reconfigureSru_steers <|
  Steers.comp State.reconfigureLcu_steers <| Steers.comp State.reconfigureRtu_steers (.of_rst _)

theorem State.reconfigure_steers : Steers s s.reconfigure :=
  (State.takeAll_steers fun _ hc => List.mem_of_mem_filter hc).trans State.reconfigureParts_steers

theorem reconfigureAnswer_steers (args : List Byte) : (reconfigureAnswer args s).SteeredBy s := by
  unfold reconfigureAnswer
  split
  · exact Answer.refuse_steers _
  · split_ifs
    · exact Answer.storeError_steers _ _
    · exact State.reconfigure_steers
    · exact Answer.refuse_steers _

theorem commandAnswer_steers (p : Port) (args : List Byte) (c : CommandName) :
    (commandAnswer p args s c).SteeredBy s := by
  cases c with
  | deskClaim => exact deskClaimAnswer_steers _ _
  | deskRelease => exact deskReleaseAnswer_steers _ _
  | deskForceRelease => exact deskForceReleaseAnswer_steers _
  | supervisorCeiling => exact supervisorCeilingAnswer_steers _
  | routeInsert => exact routeInsertAnswer_steers _ _
  | routeSetCode => exact routeSetCodeAnswer_steers _
  | routeCancel => exact routeCancelAnswer_steers _
  | routeOverride => exact routeOverrideAnswer_steers _
  | planSync => exact planSyncAnswer_steers _
  | stopSet => exact stopSetAnswer_steers _
  | stopClear => exact stopClearAnswer_steers _
  | soundStart => exact soundStartAnswer_steers _ _
  | soundStop => exact soundStopAnswer_steers _ _
  | faultAck => exact faultAckAnswer_steers _
  | lockdownRelease => exact lockdownReleaseAnswer_steers _
  | noticeClear => exact noticeClearAnswer_steers _ _
  | noticeEnable => exact noticeEnableAnswer_steers _ _
  | configCommit => exact configCommitAnswer_steers _
  | reconfigure => exact reconfigureAnswer_steers _

/-! #### A request served whole -/

theorem State.serveChecked_steers (p : Port) (cond : Bool) (r : Record) (modeOk portOk : Bool)
    {owner : State → Answer} (h : (owner s).SteeredBy s) :
    Steers s (s.serveChecked p cond r modeOk portOk owner).1 := by
  refine Steers.comp (State.consume_steers p cond _) (Steers.comp (State.cancelOthers_steers p _ r) ?_)
  split_ifs
  iterate 3 exact Answer.refuse_steers _
  exact h

theorem State.afterRead_steers (p : Port) (r : Record) (index : Byte) : Steers s (s.afterRead p r index) := by
  cases r with
  | notices => exact State.putFnu_steers _ guardsOk_nil
  | sound =>
    unfold State.afterRead
    dsimp only
    split
    · exact .of_same rfl rfl rfl rfl
    · exact .refl s
  | _ => exact .refl s

theorem State.serveRead_steers (p : Port) (reserve : Bool) (target index : Byte) :
    Steers s (s.serveRead p reserve target index).1 := by
  unfold State.serveRead
  split
  · exact .refl s
  · split
    · exact .refl s
    · split
      · exact .refl s
      · split
        · exact State.hand_steers (.of_all rfl)
        · dsimp only
          split
          · exact (State.afterRead_steers _ _ _).trans (.of_rst _)
          · exact State.afterRead_steers _ _ _

theorem State.answerRequest_steers (p : Port) (r : Request) : Steers s (s.answerRequest p r).1 := by
  cases r with
  | null => exact .refl s
  | read target index => exact State.serveRead_steers _ _ _ _
  | readReserve target index => exact State.serveRead_steers _ _ _ _
  | write cond target index contents =>
    unfold State.answerRequest
    dsimp only
    split
    · exact State.consume_steers _ _ _
    · exact State.serveChecked_steers _ _ _ _ _ (writeAnswer_steers _ _ _)
  | command cond code args =>
    unfold State.answerRequest
    dsimp only
    split
    · exact State.consume_steers _ _ _
    · exact State.serveChecked_steers _ _ _ _ _ (commandAnswer_steers _ _ _)

theorem State.serve_steers (p : Port) (r : Request) : Steers s (s.serve p r) :=
  ((State.completeTeardown_steers.trans (State.engineWork_steers _ _)).trans (State.answerRequest_steers _ _)).trans
    (State.atPort_steers _ _)

theorem State.request_steers (p : Port) (r : Request) : Steers s (s.request p r) := by
  have hserve : ∀ (t : State) (now : Prop) [Decidable now], Steers s t →
      Steers s (if now then t.serve p r else t) := by
    intro t now _ ht
    split
    · exact ht.trans (State.serve_steers p r)
    · exact ht
  unfold State.request
  dsimp only
  apply hserve
  split
  · exact State.atPort_steers _ _
  · exact .refl s

theorem State.serveChoice_steers : Steers s s.serveChoice := by
  unfold State.serveChoice
  split
  · split
    · exact State.serve_steers _ _
    · exact .refl s
  · exact .refl s

/-! #### The rows at the ports, and a step -/

theorem tduOk_reset : TduOk Tdu.reset := by
  refine ⟨fun d => by cases d <;> rfl, rfl, fun c => ⟨by cases c <;> rfl, ?_⟩⟩
  cases c with
  | lockdown => exact ⟨nofun, fun _ => rfl⟩
  | link => exact ⟨nofun, fun _ => rfl⟩
  | vigilance => exact iff_of_false nofun nofun
  | matrix => exact iff_of_true rfl rfl
  | _ => trivial

theorem settingsOk_reset : Settings.reset.ok = true := by decide

theorem execPowerOn_steers : SteeredBy (execPowerOn s) s := by
  simp only [SteeredBy, Steers, tractionSafe_iff]
  exact fun ⟨_, _, hp, _⟩ => ⟨settingsOk_reset, tduOk_reset, hp, guardsOk_nil⟩

theorem execPortTransaction_steers (p : Port) (frame : PortFrame) :
    SteeredBy (execPortTransaction p frame s) s := by
  unfold execPortTransaction
  dsimp only [SteeredBy, State.after]
  split
  · exact (State.atPort_steers p _).trans (.of_rst _)
  · exact State.atPort_steers p _

theorem exec_steers {c : Instr} (h : guardOk c = true) : SteeredBy (exec c s) s := by
  cases c with
  | powerOn => exact execPowerOn_steers
  | portTransaction p frame => exact execPortTransaction_steers p frame
  | structuralChangeReport r => exact .taking (.of_rst _)
  | rawLevelChange line level => exact .taking (State.rawChange_steers _ _)
  | debounceTimerExpiry line => exact execDebounceTimerExpiry_steers line
  | onDelayTimerExpiry cell => exact execOnDelayTimerExpiry_steers cell
  | conditionChange c value => exact execConditionChange_steers c value
  | keyPermitEvent d value => exact execKeyPermitEvent_steers d value
  | vigilancePedalEvent d value => exact execVigilancePedalEvent_steers d value
  | tractionPermitEvent value => exact execTractionPermitEvent_steers value
  | atStopEvent value => exact execAtStopEvent_steers value
  | directSoundPermitEvent k value => exact execDirectSoundPermitEvent_steers k value
  | emergencyStopEvent value => exact execEmergencyStopEvent_steers value
  | tachPulse => exact execTachPulse_steers
  | standstillTimerExpiry => exact .taking (State.putLcu_steers _ (Lcu.standstillExpiry_guards _))
  | movingReport u => exact execMovingReport_steers u
  | standstillReport u => exact execStandstillReport_steers u
  | deskStateChange new => exact execDeskStateChange_steers new
  | noDeskTeardown u former byCommand => exact execNoDeskTeardown_steers u former byCommand
  | leadingEndPublished e => exact execLeadingEndPublished_steers e
  | frameTimerExpiry => exact execFrameTimerExpiry_steers
  | statusFrame octets => exact execStatusFrame_steers octets
  | staleTimerExpiry => exact execStaleTimerExpiry_steers
  | graceTimerExpiry => exact execGraceTimerExpiry_steers
  | pointGuardEntryChange active value => exact execPointGuardEntryChange_steers active h
  | beaconTelegram heard => exact .taking (State.hear_steers _)
  | pointStateTelegram heard => exact .taking (State.hear_steers _)
  | trackRxError heard => exact .taking (State.hear_steers _)
  | armRoute junction => exact execArmRoute_steers junction
  | clearance junction => exact execClearance_steers junction
  | stopZoneEnter platform mandatory => exact execStopZoneEnter_steers platform mandatory
  | stopZoneLeave platform => exact execStopZoneLeave_steers platform
  | notifyAction entry beacon => exact execNotifyAction_steers entry beacon
  | windowOpen => exact execWindowOpen_steers
  | windowClose => exact execWindowClose_steers
  | guardTimerExpiry junction => exact execGuardTimerExpiry_steers junction
  | lateDecisionReport platform => exact execLateDecisionReport_steers platform
  | owedReport => exact execOwedReport_steers
  | telegramEnd => exact execTelegramEnd_steers
  | gapTimerExpiry => exact execGapTimerExpiry_steers
  | pollEnd => exact execPollEnd_steers
  | goodReply heard => exact .taking (State.listen_steers _)
  | badReply heard => exact execBadReply_steers heard
  | unsolicitedCharacter => exact .taking (State.putSru_steers _ guardsOk_nil)
  | hardwareSoundAdd src snd pattern => exact execHardwareSoundAdd_steers src snd pattern
  | hardwareSoundRemove src snd => exact execHardwareSoundRemove_steers src snd
  | phaseTimerExpiry snd => exact execPhaseTimerExpiry_steers snd
  | strikeEnd => exact .taking (State.sound_steers _ guardsOk_nil)
  | severeFault kind source context recoverable effort => exact .taking (State.takeFault_steers _ _ _ _ _)
  | lockdownViewChange u view => exact execLockdownViewChange_steers u view
  | noticeRaise c => exact .taking (State.takeNotice_steers c)
  | receiverRecoveringBit carrier => exact .taking (State.putTlu_steers _ guardsOk_nil)
  | _ => exact State.request_steers _ _

/-- A step is the command at the front of the queue, the oldest event handed on, or the request chosen. -/
theorem step_steers {t : State} (h : step s = .next t) : Steers s t := by
  have left : ∀ {u : State} {o}, SteeredBy o u → o = .next t → Steers u t := fun hu ho => by
    rw [ho] at hu
    exact hu
  unfold step at h
  split at h
  case h_1 c rest hp =>
    intro hs
    obtain ⟨hok, hu, hpending, hhanded⟩ := tractionSafe_iff.mp hs
    rw [hp] at hpending
    obtain ⟨hc, hrest⟩ := guardsOk_cons.mp hpending
    exact left (exec_steers hc) h (tractionSafe_iff.mpr ⟨hok, hu, hrest, hhanded⟩)
  case h_2 =>
    unfold idle at h
    split at h
    case h_1 c rest hh =>
      intro hs
      have hc : guardOk c = true := hs.of_handed c (by rw [hh]; exact List.mem_cons_self)
      exact left (exec_steers hc) h hs
    case h_2 =>
      cases h
      exact State.serveChoice_steers

end

/-- Settles O24: the unit's operations keep its invariant, and a step is made of them and of events of other units,
which hand on no POINT_GUARD value but 0 and the creep value. -/
theorem tractionEntriesFollowTheirStatesAtEveryStep : Obligations.TractionEntriesFollowTheirStatesAtEveryStep := by
  unfold Obligations.TractionEntriesFollowTheirStatesAtEveryStep
  exact fun _ _ ht hg h => step_steers h ⟨ht, hg⟩

end Sys2Proof.Machine

namespace Sys2Proof.Machine

/-! ### Frames and their laws (R66, R67, R68, R75) -/

/-- R75: the unit after the link accounting of a frame-timer expiry, and what the loss of the link hands on. -/
theorem Tdu.account_eq (desk : DeskState) (cfg : Settings) (t : Tdu) : t.account desk cfg =
    if t.link = .up ∧ cfg.linkLoss ≤ nextMisses t then
      ({ t with misses := nextMisses t, link := .lost }.setEntry desk .link ⟨true, -60⟩,
        [.noticeRaise .linkChange, .severeFault .tractionLinkLost .tdu .none true (some t.lastEffort)])
    else ({ t with misses := nextMisses t }, []) := rfl

theorem nextMisses_eq (t : Tdu) : nextMisses t =
    if t.statusSeen = false ∧ t.lastFrame.isSome then min 8 (t.misses + 1) else t.misses := by
  simp [nextMisses, Config.missTop]

theorem frameModeOf_eq (view : LockState) (effort : Int) : frameModeOf view effort =
    if view = .held then FrameMode.emergency
    else if 0 < effort then .drive else if effort < 0 then .brake else .coast := by
  cases view <;> rfl

theorem exec_frameTimerExpiry_of_bad_nil {s : State} (h : s.bad = []) : exec .frameTimerExpiry s = .next { s with
    tdu := (s.tdu.frameExpiry s.dau.state s.settings).1
    handed := s.handed.erase .frameTimerExpiry ++ (s.tdu.frameExpiry s.dau.state s.settings).2 } := by
  have hrow : exec .frameTimerExpiry s = .next ((s.take .frameTimerExpiry).putTdu
      (s.tdu.frameExpiry s.dau.state s.settings).1
      (parityFaults (s.take .frameTimerExpiry) .tdu (frameReads s.dau.state) (some s.tdu.lastEffort)
        ++ (s.tdu.frameExpiry s.dau.state s.settings).2)) := rfl
  rw [hrow, parityFaults_of_bad_nil (s := s.take .frameTimerExpiry) h, List.nil_append]
  simp only [State.putTdu, State.take, h, List.filter_nil]

/-- R75: with the link lost at this expiry. -/
theorem Tdu.frameExpiry_lost {desk : DeskState} {cfg : Settings} {t : Tdu}
    (h : t.link = .up ∧ cfg.linkLoss ≤ nextMisses t) : t.frameExpiry desk cfg =
      let u := { t with misses := nextMisses t, link := .lost }.setEntry desk .link ⟨true, -60⟩
      (u.send cfg (composeFrame desk cfg u),
        [.noticeRaise .linkChange, .severeFault .tractionLinkLost .tdu .none true (some t.lastEffort)]
          ++ lockNews t.lock u.lock) := by
  rw [Tdu.frameExpiry, Tdu.account_eq, if_pos h]
  rfl

/-- R75: with the link as it was. -/
theorem Tdu.frameExpiry_kept {desk : DeskState} {cfg : Settings} {t : Tdu}
    (h : ¬ (t.link = .up ∧ cfg.linkLoss ≤ nextMisses t)) : t.frameExpiry desk cfg =
      let u := { t with misses := nextMisses t }
      (u.send cfg (composeFrame desk cfg u), lockNews t.lock t.lock) := by
  rw [Tdu.frameExpiry, Tdu.account_eq, if_neg h]
  rfl

/-- R67, R68: the laws of the frame that is composed from a unit. -/
theorem composeFrame_laws (desk : DeskState) (cfg : Settings) (t : Tdu) :
    (composeFrame desk cfg t).effort ≤ lowestCeiling t.ceilings
      ∧ (t.lock = true → (composeFrame desk cfg t).effort ≤ 0)
      ∧ (desk = .noDesk → (composeFrame desk cfg t).effort ≤ 0) := by
  have heffort : (composeFrame desk cfg t).effort ≤ frameTarget desk t := frameEffort_le desk cfg t
  have htarget := frameTarget_eq desk t
  refine ⟨heffort.trans (frameTarget_le desk t), fun hl => ?_, fun hd => ?_⟩
  · rw [if_pos hl] at htarget
    omega
  · have hlever : frameLever desk t = 0 := by rw [hd]; rfl
    rw [hlever] at htarget
    split at htarget <;> omega

/-- R68: in lockdown the entry at -100 is the lowest ceiling, and no effort lies below it. -/
theorem TduOk.composeFrame_held {t : Tdu} (h : TduOk t) (hv : t.lockView = .held) (desk : DeskState)
    (cfg : Settings) : (composeFrame desk cfg t).mode = .emergency ∧ (composeFrame desk cfg t).effort = -100 := by
  have hentry : t.ceilings[(8 : Fin 9)] = ⟨true, -100⟩ := (h.2.2 .lockdown).2.1 hv
  have hlowest : lowestCeiling t.ceilings ≤ t.ceilings[(8 : Fin 9)].value :=
    lowestOf_le (mem_table_toList.mpr ⟨8, rfl⟩) (by rw [hentry])
  rw [hentry] at hlowest
  have hle : (composeFrame desk cfg t).effort ≤ lowestCeiling t.ceilings := (composeFrame_laws desk cfg t).1
  have hge : -100 ≤ (composeFrame desk cfg t).effort := h.frameEffort_ge desk cfg
  exact ⟨by simp only [composeFrame, hv, frameModeOf], le_antisymm (hle.trans hlowest) hge⟩

theorem Tdu.account_lockView (desk : DeskState) (cfg : Settings) (t : Tdu) :
    (t.account desk cfg).1.lockView = t.lockView := by
  rw [Tdu.account_eq]
  split <;> rfl

/-- Settles O23. -/
theorem framesAreComposedWithinTheLaws : Obligations.FramesAreComposedWithinTheLaws := by
  unfold Obligations.FramesAreComposedWithinTheLaws
  refine ⟨fun s h => ?_, fun s t ht => ?_⟩
  · rw [exec_frameTimerExpiry_of_bad_nil h]
    dsimp only
    rw [← nextMisses_eq]
    by_cases hl : s.tdu.link = .up ∧ s.settings.linkLoss ≤ nextMisses s.tdu
    · rw [decide_eq_true hl, Tdu.frameExpiry_lost hl]
      have hlock := setEntry_lock_iff (desk := s.dau.state) (c := .link) (new := ⟨true, -60⟩) (t := s.tdu)
        (u := { s.tdu with misses := nextMisses s.tdu, link := .lost }) rfl rfl rfl
      refine ⟨_, hlock.trans (by simp [ceilingIndex]), ?_⟩
      rw [List.append_assoc]
      simp only [if_true, ← frameModeOf_eq]
      rfl
    · rw [decide_eq_false hl, Tdu.frameExpiry_kept hl]
      refine ⟨s.tdu.lock, by simp, ?_⟩
      simp only [Bool.false_eq_true, if_false, List.append_nil, ← frameModeOf_eq]
      rfl
  · cases ht
    obtain ⟨hceiling, hlock, hdesk⟩ := composeFrame_laws s.dau.state s.settings (s.tdu.account s.dau.state s.settings).1
    refine ⟨_, rfl, hceiling, hlock, hdesk, fun hok hv => ?_⟩
    have haccount := (tractionOk_iff.mp hok).2.account s.dau.state s.settings
    exact haccount.composeFrame_held ((Tdu.account_lockView _ _ _).trans hv) _ _
end Sys2Proof.Machine

namespace Sys2Proof.Machine

/-! ### Rows of the traction unit with no bad word -/

section
variable {s : State}

/-- A row that is an event of the unit puts the unit's state and hands on what the event does. -/
theorem exec_of_tduEvent (h : s.bad = []) {c : Instr} {reads : StoreWord → Bool} {r : Tdu × List Instr}
    (hrow : exec c s = .next ((s.take c).tduEvent reads r)) :
    exec c s = .next { s with tdu := r.1, handed := s.handed.erase c ++ r.2 } := by
  rw [hrow, State.tduEvent_of_bad_nil (s := s.take c) h]
  rfl

/-- An event that changes nothing at the unit leaves the state with the event taken. -/
theorem exec_of_tduEvent_same (h : s.bad = []) {c : Instr} {reads : StoreWord → Bool} {r : Tdu × List Instr}
    (hrow : exec c s = .next ((s.take c).tduEvent reads r)) (hr : r = (s.tdu, [])) :
    exec c s = .next (s.take c) := by
  rw [exec_of_tduEvent h hrow, hr, List.append_nil]
  rfl

theorem exec_statusFrame_of_bad_nil (h : s.bad = []) (octets : List Byte) :
    exec (.statusFrame octets) s = .next { s with
      tdu := (s.tdu.status octets).1
      handed := s.handed.erase (.statusFrame octets) ++ (s.tdu.status octets).2 } := by
  have hrow : exec (.statusFrame octets) s = .next (((s.take (.statusFrame octets)).tduEvent
      (statusReads octets s.tdu) (s.tdu.status octets)).rewrite fun w =>
        statusValid octets s.tdu && fieldWords .tractionStatus [2] w) := rfl
  rw [hrow, State.tduEvent_of_bad_nil (s := s.take (.statusFrame octets)) h]
  refine congrArg Host.Outcome.next (State.rewrite_of_bad_nil _ ?_ _)
  exact h

end

/-! ### Status frames (R72, R73, R74, R76) -/

/-- R72, R191: a status frame is three octets, the last of which is the check of the others. -/
theorem parseStatus_eq_some {octets : List Byte} {r : StatusReport} : parseStatus octets = some r ↔
    ∃ h e : Byte, octets = [h, e, crc8 [h, e]] ∧ r = ⟨h.setWidth 4, e.toInt, h.msb⟩ := by
  unfold parseStatus
  split
  case h_1 h e c =>
    rw [Option.ite_none_right_eq_some]
    constructor
    · rintro ⟨rfl, hr⟩
      exact ⟨h, e, rfl, (Option.some.inj hr).symm⟩
    · rintro ⟨h', e', hl, rfl⟩
      obtain ⟨rfl, rfl, rfl⟩ : h = h' ∧ e = e' ∧ c = crc8 [h', e'] := by simpa using hl
      exact ⟨rfl, rfl⟩
  case h_2 hno =>
    constructor
    · exact nofun
    · rintro ⟨h, e, hl, -⟩
      exact absurd hl (hno h e _)

theorem newlyFaulted_eq (last : Option StatusReport) (r : StatusReport) :
    newlyFaulted last r = (r.propulsionFault && !(last.any fun l => l.propulsionFault)) := by
  cases last <;> rfl

/-- R73, R74, R76: a valid status frame at the unit. -/
theorem Tdu.takeStatus_eq (r : StatusReport) (t : Tdu) : t.takeStatus r =
    ({ t with
      lastStatus := some r
      statusSeen := true
      misses := 0
      link := .up
      ceilings := if t.link = .up then t.ceilings else t.ceilings.set 5 ⟨false, t.ceilings[5].value⟩ },
    (if t.link = .up then [] else [.noticeRaise .linkChange])
      ++ (if newlyFaulted t.lastStatus r then [.noticeRaise .propulsionFault] else [])) := by
  unfold Tdu.takeStatus
  dsimp only
  split
  case h_1 hl => simp [hl]
  case h_2 hl => simp [hl, Tdu.dropEntry, ceilingIndex]
  case h_3 hl => simp [hl, Tdu.dropEntry, ceilingIndex]

theorem Tdu.status_valid {octets : List Byte} {r : StatusReport} {t : Tdu} (hr : parseStatus octets = some r)
    (he : r.echo ∈ t.recent) : t.status octets = t.takeStatus r := by
  simp only [Tdu.status, hr, List.contains_iff_mem.mpr he, if_true]

theorem Tdu.status_dropped {octets : List Byte} {t : Tdu} (h : ∀ r, parseStatus octets = some r → r.echo ∉ t.recent) :
    t.status octets = (t, []) := by
  unfold Tdu.status
  split
  case h_1 r hr => exact if_neg (mt List.contains_iff_mem.mp (h r hr))
  case h_2 => rfl

/-- Settles O25. -/
theorem statusFrameBringsTheLinkUpWhenValid : Obligations.StatusFrameBringsTheLinkUpWhenValid := by
  unfold Obligations.StatusFrameBringsTheLinkUpWhenValid
  refine fun octets s h => ⟨fun _ => parseStatus_eq_some, fun r hr he => ?_, fun hno => ?_⟩
  · rw [exec_statusFrame_of_bad_nil h, Tdu.status_valid hr he, Tdu.takeStatus_eq, newlyFaulted_eq, List.append_assoc]
  · rw [exec_statusFrame_of_bad_nil h, Tdu.status_dropped hno, List.append_nil]
    rfl

end Sys2Proof.Machine

namespace Sys2Proof.Machine

/-! ### Vigilance (R69, R70, R71) -/

section
variable {desk : DeskState} {cfg : Settings} {d : Desk} {t : Tdu}

/-- R69: a pedal event of a desk that is not active is stored, and no more. -/
theorem Tdu.pedal_of_not_active (h : desk ≠ .active d) (value : Bool) :
    t.pedal desk cfg d value = ({ t with pedals := t.pedals.set d value }, []) := if_neg h

/-- R70: a pedal event of the active desk, vigilance state by vigilance state. -/
theorem Tdu.pedal_active (value : Bool) : t.pedal (.active d) cfg d value =
    let u := { t with pedals := t.pedals.set d value }
    match t.vigilance, value with
    | .held, false => ({ u with vigilance := .warning, graceTimer := some cfg.graceTime }, [addWarning cfg d])
    | .warning, true => ({ u with vigilance := .held, graceTimer := none }, [removeWarning d])
    | .penalty, true =>
      if t.motion = .standstill then
        ({ u with vigilance := .off, ceilings := t.ceilings.set 4 ⟨false, t.ceilings[4].value⟩ }, [removeWarning d])
      else (u, [])
    | _, _ => (u, []) := by
  unfold Tdu.pedal
  cases hv : t.vigilance with
  | off => cases value <;> simp
  | held => cases value <;> simp
  | warning => cases value <;> simp
  | penalty => cases value <;> simp [Tdu.dropEntry, ceilingIndex]

theorem Tdu.moving_off (hv : t.vigilance = .off) : t.moving (.active d) cfg =
    if t.pedals.get d then ({ t with motion := .moving, vigilance := .held }, [])
    else ({ t with motion := .moving, vigilance := .warning, graceTimer := some cfg.graceTime }, [addWarning cfg d]) := by
  simp only [Tdu.moving, hv]

/-- R70: with no desk active, or the supervision begun, a moving report is stored, and no more. -/
theorem Tdu.moving_else (h : (∀ e, desk ≠ .active e) ∨ t.vigilance ≠ .off) :
    t.moving desk cfg = ({ t with motion := .moving }, []) := by
  unfold Tdu.moving
  cases desk with
  | active d =>
    have hv : t.vigilance ≠ .off := h.resolve_left fun hno => hno d rfl
    dsimp only
    split
    case h_1 hoff => exact absurd hoff hv
    all_goals rfl
  | releasing _ => rfl
  | noDesk => rfl

theorem Tdu.graceExpiry_warning (hg : t.graceTimer ≠ none) (hv : t.vigilance = .warning) : t.graceExpiry desk cfg =
    let u := { t with vigilance := .penalty, graceTimer := none }.setEntry desk .vigilance ⟨true, cfg.penaltyCeiling⟩
    (u, .noticeRaise .vigilance :: lockNews t.lock u.lock) := by
  obtain ⟨ms, hms⟩ := Option.ne_none_iff_exists'.mp hg
  simp only [Tdu.graceExpiry, hms, hv, lockReport_eq]

theorem Tdu.graceExpiry_else (h : t.graceTimer = none ∨ t.vigilance ≠ .warning) :
    t.graceExpiry desk cfg = (t, []) := by
  unfold Tdu.graceExpiry
  split
  case h_1 hg hv =>
    rcases h with hnone | hne
    · rw [hnone] at hg
      cases hg
    · exact absurd hv hne
  all_goals rfl

theorem Tdu.staleExpiry_running (h : t.staleTimer ≠ none) : t.staleExpiry desk =
    let u := { t with staleTimer := none }.setEntry desk .stale ⟨true, 0⟩
    (u, .noticeRaise .demandStale :: lockNews t.lock u.lock) := by
  obtain ⟨ms, hms⟩ := Option.ne_none_iff_exists'.mp h
  simp only [Tdu.staleExpiry, hms, lockReport_eq]

theorem Tdu.staleExpiry_stopped (h : t.staleTimer = none) : t.staleExpiry desk = (t, []) := by
  simp only [Tdu.staleExpiry, h]

/-! ### Standstill (R64, R65, R70) -/

/-- R70: the supervision ends at a standstill in HELD and in WARNING. -/
theorem Tdu.standstillVigilance_ends (h : t.vigilance = .held ∨ t.vigilance = .warning) :
    (t.standstillVigilance desk).1 = { t with
      vigilance := .off, graceTimer := if t.vigilance = .warning then none else t.graceTimer } := by
  rcases h with hv | hv <;> simp [Tdu.standstillVigilance, hv]

theorem Tdu.standstillVigilance_else (h : ¬ (t.vigilance = .held ∨ t.vigilance = .warning)) :
    t.standstillVigilance desk = (t, []) := by
  unfold Tdu.standstillVigilance
  split
  case h_2 hv => exact absurd (.inl hv) h
  case h_3 hv => exact absurd (.inr hv) h
  all_goals rfl

/-- R70: the comparison that follows finds all that it reads as it was. -/
theorem Tdu.standstillVigilance_fst (desk : DeskState) (t : Tdu) :
    ∃ v g, (t.standstillVigilance desk).1 = { t with vigilance := v, graceTimer := g } := by
  by_cases h : t.vigilance = .held ∨ t.vigilance = .warning
  · exact ⟨_, _, Tdu.standstillVigilance_ends h⟩
  · exact ⟨t.vigilance, t.graceTimer, by rw [Tdu.standstillVigilance_else h]⟩

/-- R71: the end of a warning is handed on, where a desk is active. -/
theorem Tdu.standstillVigilance_warning (hv : t.vigilance = .warning) (hd : deskHolder desk = some d) :
    (t.standstillVigilance desk).2 = [removeWarning d] := by
  simp only [Tdu.standstillVigilance, hv, hd]

theorem Tdu.standstillVigilance_quiet_of_not_warning (hv : t.vigilance ≠ .warning) :
    (t.standstillVigilance desk).2 = [] := by
  unfold Tdu.standstillVigilance
  split
  case h_3 hw => exact absurd hw hv
  all_goals rfl

theorem Tdu.standstillVigilance_quiet_of_no_desk (hd : deskHolder desk = none) :
    (t.standstillVigilance desk).2 = [] := by
  by_cases hv : t.vigilance = .warning
  · simp only [Tdu.standstillVigilance, hv, hd]
  · exact Tdu.standstillVigilance_quiet_of_not_warning hv

/-- R64: a neutral selector makes the DIRECTION entry active at 0. -/
theorem Tdu.compareDirection_neutral (h : (t.demand.get d).selector = .neutral) :
    t.compareDirection desk d = t.setEntry desk .direction ⟨true, 0⟩ := by
  simp only [Tdu.compareDirection, h, selectorDirection]

/-- R64: at standstill the direction of the selector is taken. -/
theorem Tdu.compareDirection_standstill {dir : Direction} (h : selectorDirection (t.demand.get d).selector = some dir)
    (hm : t.motion = .standstill) : t.compareDirection desk d =
      { t with ceilings := t.ceilings.set 1 ⟨false, t.ceilings[1].value⟩, taken := some dir } := by
  simp only [Tdu.compareDirection, h]
  split
  case isTrue ht =>
    rw [← ht]
    rfl
  case isFalse =>
    split
    case h_1 => rfl
    case h_2 hmoving =>
      rw [hm] at hmoving
      cases hmoving

theorem Tdu.standstill_no_desk (h : deskHolder desk = none) :
    t.standstill desk = { t with motion := .standstill }.standstillVigilance desk := by
  simp only [Tdu.standstill, h]

/-- R64, R65, R70: what a standstill report does with a desk that holds authority. -/
theorem Tdu.standstill_desk (h : deskHolder desk = some d) : t.standstill desk =
    let r := { t with motion := .standstill }.standstillVigilance desk
    let u := r.1.compareDirection desk d
    (u, r.2 ++ publishTaken desk t u ++ lockNews t.lock u.lock) := by
  simp only [Tdu.standstill, h, lockReport_eq]

end

section
variable {s : State}

theorem exec_movingReport_of_bad_nil (h : s.bad = []) : exec (.movingReport .tdu) s = .next { s with
    tdu := (s.tdu.moving s.dau.state s.settings).1
    handed := s.handed.erase (.movingReport .tdu) ++ (s.tdu.moving s.dau.state s.settings).2 } :=
  exec_of_tduEvent h (reads := movingReads s.dau.state s.tdu) rfl

theorem exec_standstillReport_of_bad_nil (h : s.bad = []) : exec (.standstillReport .tdu) s = .next { s with
    tdu := (s.tdu.standstill s.dau.state).1
    handed := s.handed.erase (.standstillReport .tdu) ++ (s.tdu.standstill s.dau.state).2 } :=
  exec_of_tduEvent h (reads := standstillReads s.dau.state) rfl

/-- R64: the active desk's selector stands in NEUTRAL. -/
theorem exec_standstillReport_neutral (h : s.bad = []) {d : Desk} (hd : deskHolder s.dau.state = some d)
    (hn : (s.tdu.demand.get d).selector = .neutral) :
    let r := { s.tdu with motion := .standstill }.standstillVigilance s.dau.state
    ∃ k : Bool, (k = true ↔ s.tdu.lock = true ∨ LockForced s.dau.state s.tdu s.tdu.ceilings[1] ⟨true, 0⟩) ∧
      exec (.standstillReport .tdu) s = .next { s with
        tdu := { r.1 with ceilings := s.tdu.ceilings.set 1 ⟨true, 0⟩, lock := k }
        handed := s.handed.erase (.standstillReport .tdu) ++ r.2 ++ lockNews s.tdu.lock k } := by
  intro r
  obtain ⟨v, g, hu⟩ := Tdu.standstillVigilance_fst s.dau.state { s.tdu with motion := .standstill }
  refine ⟨(r.1.setEntry s.dau.state .direction ⟨true, 0⟩).lock, setEntry_lock_iff (c := .direction) ?_ ?_ ?_, ?_⟩
  iterate 3 simp only [r, hu]
  have hcompare : r.1.compareDirection s.dau.state d = r.1.setEntry s.dau.state .direction ⟨true, 0⟩ :=
    Tdu.compareDirection_neutral (by simpa only [r, hu] using hn)
  have hpublish : publishTaken s.dau.state s.tdu (r.1.setEntry s.dau.state .direction ⟨true, 0⟩) = [] :=
    if_pos (by simp only [r, hu, Tdu.setEntry])
  rw [exec_standstillReport_of_bad_nil h, Tdu.standstill_desk hd]
  dsimp only
  rw [hcompare, hpublish, List.append_nil, ← List.append_assoc]
  simp only [r, hu, Tdu.setEntry]
  rfl

/-- R64, R65: the active desk's selector names a direction; it is taken, and published where it is new. -/
theorem exec_standstillReport_direction (h : s.bad = []) {d : Desk} (hd : deskHolder s.dau.state = some d)
    {dir : Direction} (hdir : selectorDirection (s.tdu.demand.get d).selector = some dir) :
    let r := { s.tdu with motion := .standstill }.standstillVigilance s.dau.state
    exec (.standstillReport .tdu) s = .next { s with
      tdu := { r.1 with ceilings := s.tdu.ceilings.set 1 ⟨false, s.tdu.ceilings[1].value⟩, taken := some dir }
      handed := s.handed.erase (.standstillReport .tdu) ++ r.2
        ++ (if s.tdu.taken = some dir then []
            else [.leadingEndPublished (leadingEndOf (some d) (some dir))]) } := by
  intro r
  obtain ⟨v, g, hu⟩ := Tdu.standstillVigilance_fst s.dau.state { s.tdu with motion := .standstill }
  have hcompare : r.1.compareDirection s.dau.state d =
      { r.1 with ceilings := r.1.ceilings.set 1 ⟨false, r.1.ceilings[1].value⟩, taken := some dir } :=
    Tdu.compareDirection_standstill (by simpa only [r, hu] using hdir) (by simp only [r, hu])
  rw [exec_standstillReport_of_bad_nil h, Tdu.standstill_desk hd]
  dsimp only
  rw [hcompare, publishTaken, hd, ← List.append_assoc, ← List.append_assoc]
  simp only [r, hu, lockNews, if_true, List.append_nil]

end

/-- Settles O26. -/
theorem supervisionTimersAndStandstillActAsTheirTablesSay :
    Obligations.SupervisionTimersAndStandstillActAsTheirTablesSay := by
  unfold Obligations.SupervisionTimersAndStandstillActAsTheirTablesSay
  refine ⟨fun d value s h => ⟨?_, ⟨fun e he hv => ?_, fun hno => ?_⟩, fun hg hv => ?_, fun hno => ?_⟩,
    fun s h => ⟨fun hr => ?_, fun hst => ?_⟩, fun s h => ?_⟩
  · rw [exec_of_tduEvent h (reads := pedalReads s.dau.state d value s.tdu)
      (r := s.tdu.pedal s.dau.state s.settings d value) rfl]
    dsimp only
    by_cases hd : s.dau.state = .active d
    · rw [if_pos hd, hd, Tdu.pedal_active]
      cases s.tdu.vigilance with
      | off => cases value <;> rfl
      | held => cases value <;> rfl
      | warning => cases value <;> rfl
      | penalty =>
        cases value with
        | false => rfl
        | true => cases s.tdu.motion <;> rfl
    · rw [if_neg hd, Tdu.pedal_of_not_active hd]
  · rw [exec_movingReport_of_bad_nil h, he, Tdu.moving_off hv]
    split <;> rfl
  · rw [exec_movingReport_of_bad_nil h, Tdu.moving_else hno]
  · refine ⟨_, setEntry_lock_iff (c := .vigilance) (u := { s.tdu with vigilance := .penalty, graceTimer := none })
      rfl rfl rfl, ?_⟩
    rw [exec_of_tduEvent h (reads := graceReads s.tdu) (r := s.tdu.graceExpiry s.dau.state s.settings) rfl,
      Tdu.graceExpiry_warning hg hv]
    rfl
  · exact exec_of_tduEvent_same h (reads := graceReads s.tdu) (r := s.tdu.graceExpiry s.dau.state s.settings) rfl
      (Tdu.graceExpiry_else hno)
  · refine ⟨_, setEntry_lock_iff (c := .stale) (u := { s.tdu with staleTimer := none }) rfl rfl rfl, ?_⟩
    rw [exec_of_tduEvent h (reads := fun _ => false) (r := s.tdu.staleExpiry s.dau.state) rfl,
      Tdu.staleExpiry_running hr]
    rfl
  · exact exec_of_tduEvent_same h (reads := fun _ => false) (r := s.tdu.staleExpiry s.dau.state) rfl
      (Tdu.staleExpiry_stopped hst)
  · let r := { s.tdu with motion := .standstill }.standstillVigilance s.dau.state
    refine ⟨r.1, r.2, fun hends => Tdu.standstillVigilance_ends hends,
      fun hno => congrArg Prod.fst (Tdu.standstillVigilance_else (t := { s.tdu with motion := .standstill }) hno),
      fun d hv hd => Tdu.standstillVigilance_warning hv hd,
      fun hv => Tdu.standstillVigilance_quiet_of_not_warning hv, fun hd => ?_,
      fun d hd => ⟨fun hn => exec_standstillReport_neutral h hd hn,
        fun dir hdir => exec_standstillReport_direction h hd hdir⟩⟩
    have hquiet : r.2 = [] := Tdu.standstillVigilance_quiet_of_no_desk hd
    rw [exec_standstillReport_of_bad_nil h, Tdu.standstill_no_desk hd, hquiet, List.append_nil]

end Sys2Proof.Machine

namespace Sys2Proof.Machine

/-! ### The close of the window (R88, R119) -/

/-- R98, R119: a telegram given up for this junction is the last exception; with none the last one stays. -/
def Rtu.discarding (first : Option Nat) (u : Rtu) : Rtu :=
  match first with
  | some j => { u with exception := some (.telegramDiscarded, j) }
  | none => u

/-- R119: the notice of a telegram given up. -/
def discardNotice (first : Option Nat) : List Instr := if first.isSome then [.noticeRaise .telegramDiscarded] else []

/-- R119: the first telegram given up: of the CANCELs that are not in flight, then of the entries that owe one. -/
def Rtu.firstGivenUp (u : Rtu) : Option Nat :=
  ((u.cancels.filter fun c => !cancelHeld u c.junction).map (·.junction)
    ++ (u.plan.filter owesSomething).map (·.junction)).head?

theorem cancelHeld_eq_any (u : Rtu) (j : Nat) :
    cancelHeld u j = u.inFlight.any fun f => f.kind == .cancel && f.junction == j && f.present := by
  unfold cancelHeld
  cases u.inFlight <;> rfl

/-- R119: what the route unit gives up, noted once. -/
theorem Rtu.windowClose_eq (u : Rtu) : u.windowClose =
    (Rtu.discarding u.firstGivenUp (({ u with windowOpen := false } : Rtu).withPlan
      (u.plan.map fun e => { e with requestsOwed := 0, updateOwed := false })
      (u.cancels.filter fun c => cancelHeld u c.junction)), discardNotice u.firstGivenUp) := by
  have hfirst : u.firstGivenUp = ((u.cancels.filter fun c => !cancelHeld u c.junction).head?.map (·.junction)).or
      ((u.plan.find? owesSomething).map (·.junction)) := by
    simp only [Rtu.firstGivenUp, List.head?_append, List.head?_map, List.head?_filter]
  rw [hfirst]
  simp only [Rtu.windowClose]
  cases (u.cancels.filter fun c => !cancelHeld u c.junction).head?.map (·.junction) with
  | some j => rfl
  | none => cases (u.plan.find? owesSomething).map (·.junction) <;> rfl

theorem exec_windowClose_of_bad_nil {s : State} (h : s.bad = []) : exec .windowClose s = .next { s with
    tlu := { s.tlu with windowOpen := false }
    rtu := s.rtu.windowClose.1
    handed := s.handed.erase .windowClose ++ s.rtu.windowClose.2 } := by
  have hrow : exec .windowClose s = .next ((((s.take .windowClose).rtuEvent planWords s.rtu.windowClose).rewrite
      closeWords).putTlu { s.tlu with windowOpen := false } []) := rfl
  rw [hrow, State.rtuEvent_of_bad_nil (s := s.take .windowClose) h, State.rewrite_of_bad_nil _ (by exact h),
    State.putTlu_nil]
  rfl

/-- Settles O37: the first telegram given up is the head of the CANCELs given up before the entries that owe one. -/
theorem windowCloseGivesUpWhatIsOwed : Obligations.WindowCloseGivesUpWhatIsOwed := by
  unfold Obligations.WindowCloseGivesUpWhatIsOwed
  intro s hb stays gone owing first u
  have hstays : (fun c : Cancel => cancelHeld s.rtu c.junction) = stays :=
    funext fun c => cancelHeld_eq_any s.rtu c.junction
  have hgone : (fun c : Cancel => !cancelHeld s.rtu c.junction) = fun c => !stays c :=
    funext fun c => congrArg _ (congrFun hstays c)
  have hfirst : s.rtu.firstGivenUp = first := by
    rw [Rtu.firstGivenUp, hgone]
    rfl
  rw [exec_windowClose_of_bad_nil hb, Rtu.windowClose_eq, hfirst, hstays]
  rfl

end Sys2Proof.Machine

namespace Sys2Proof.Machine

/-! ### The events that RECONFIGURE takes before its own work (R190, log 21) -/

/-- The state with the units that these events act on, and what is outstanding, as in another. -/
def State.reached (s t : State) : State :=
  { s with lmu := t.lmu, rtu := t.rtu, tlu := t.tlu, handed := t.handed }

section
variable {s : State} {c : Instr}

theorem State.openWindow_reached (h : s.bad = []) : s.openWindow = s.reached s.openWindow := by
  have hopened : (s.putRtu { s.rtu with windowOpen := true } []).putTlu { s.tlu with windowOpen := true } [] =
      { s with rtu := { s.rtu with windowOpen := true }, tlu := { s.tlu with windowOpen := true } } := by
    rw [State.putTlu_nil, State.putRtu_of_bad_nil h]
    simp only [List.append_nil]
  unfold State.openWindow
  rw [hopened, attemptSelection_frame (by exact h)]
  rfl

theorem State.takeCondition_reached (h : s.bad = []) (d : Condition) (v : Bool) :
    s.takeCondition d v = s.reached (s.takeCondition d v) := by
  unfold State.takeCondition
  split
  · rfl
  · rw [State.settleFrom_of_bad_nil h]
    rfl

/-- Such an event changes the matrix, route and track link units alone. -/
theorem State.takeEvent_reached (h : s.bad = []) (hc : beforeReconfigure c = true) :
    s.takeEvent c = s.reached (s.takeEvent c) := by
  cases c with
  | windowOpen => exact State.openWindow_reached (s := s.take .windowOpen) h
  | windowClose =>
    have hnext : s.takeEvent .windowClose = s.after (exec .windowClose s) := rfl
    rw [hnext, exec_windowClose_of_bad_nil h]
    rfl
  | conditionChange d v => exact State.takeCondition_reached (s := s.take (.conditionChange d v)) h d v
  | _ => cases hc

theorem State.takeAll_reached {l : List Instr} (hl : ∀ c ∈ l, beforeReconfigure c = true) :
    ∀ s : State, s.bad = [] → s.takeAll l = s.reached (s.takeAll l) := by
  induction l with
  | nil => exact fun _ _ => rfl
  | cons c l ih =>
    intro s h
    have hone := State.takeEvent_reached h (hl c List.mem_cons_self)
    have hrest := ih (fun d hd => hl d (List.mem_cons_of_mem _ hd)) (s.takeEvent c) (by rw [hone]; exact h)
    calc s.takeAll (c :: l) = (s.takeEvent c).reached ((s.takeEvent c).takeAll l) := hrest
      _ = (s.reached (s.takeEvent c)).reached ((s.takeEvent c).takeAll l) := by rw [← hone]

variable (p : Port) (q : Request)

theorem attemptSelection_background : (s.background p q).attemptSelection = s.attemptSelection.background p q := by
  have hsel : selection (s.background p q).tlu (s.background p q).rtu (s.background p q).rst.vehicle
      (s.background p q).sru = selection s.tlu s.rtu s.rst.vehicle s.sru := rfl
  unfold State.attemptSelection
  rw [hsel, background_tlu]
  split
  · cases selection s.tlu s.rtu s.rst.vehicle s.sru <;> rfl
  · rfl

theorem takeCondition_background (d : Condition) (v : Bool) :
    (s.background p q).takeCondition d v = (s.takeCondition d v).background p q := by
  unfold State.takeCondition
  rw [background_lmu]
  split <;> rfl

/-- Such an event reads nothing of the service it is taken in. -/
theorem takeEvent_background (hc : beforeReconfigure c = true) :
    (s.background p q).takeEvent c = (s.takeEvent c).background p q := by
  cases c with
  | windowOpen =>
    exact attemptSelection_background (s := ((s.take .windowOpen).putRtu { s.rtu with windowOpen := true } []).putTlu
      { s.tlu with windowOpen := true } []) p q
  | windowClose => rfl
  | conditionChange d v => exact takeCondition_background (s := s.take (.conditionChange d v)) p q d v
  | _ => cases hc

theorem takeAll_background {l : List Instr} (hl : ∀ c ∈ l, beforeReconfigure c = true) :
    ∀ s : State, (s.background p q).takeAll l = (s.takeAll l).background p q := by
  induction l with
  | nil => exact fun _ => rfl
  | cons c l ih =>
    intro s
    have hone := takeEvent_background (s := s) p q (hl c List.mem_cons_self)
    calc (s.background p q).takeAll (c :: l) = ((s.background p q).takeEvent c).takeAll l := rfl
      _ = ((s.takeEvent c).background p q).takeAll l := by rw [hone]
      _ = (s.takeAll (c :: l)).background p q := ih (fun d hd => hl d (List.mem_cons_of_mem _ hd)) _

end

/-- R190: the state that a RECONFIGURE acts on. -/
def State.beforehand (s : State) : State := s.takeAll (s.handed.filter beforeReconfigure)

theorem State.beforehand_reached {s : State} (h : s.bad = []) : s.beforehand = s.reached s.beforehand :=
  State.takeAll_reached (fun _ hc => List.of_mem_filter hc) s h

theorem reconfigure_background (s : State) (p : Port) (q : Request) :
    (s.background p q).reconfigure = (s.beforehand.background p q).reconfigureParts :=
  congrArg State.reconfigureParts (takeAll_background p q (fun _ hc => List.of_mem_filter hc) s)

end Sys2Proof.Machine

namespace Sys2Proof.Machine

/-! ### The parts of a RECONFIGURE, in their order (R190) -/

/-- R45: a condition becomes false at the matrix unit. -/
def Lmu.fall (c : Condition) (l : Lmu) : Lmu × List Instr :=
  if conditionValue l c then Lmu.settle { l with conditions := l.conditions.set (conditionIndex c) false } else (l, [])

/-- R112, R122: the guard's end, where some entry of the plan holds it, at the matrix unit. -/
def Lmu.guardEnd (plan : List PlanEntry) (l : Lmu) : Lmu × List Instr :=
  if contributing plan then l.fall .guardActive else (l, [])

/-- R147, R151: the latch's end, where the stop list holds one, at the matrix unit. -/
def Lmu.latchEnd (stops : List StopEntry) (l : Lmu) : Lmu × List Instr :=
  if stops = [] then (l, []) else l.fall .stopLatched

/-- R112, R122: the guard's end at the traction unit. -/
def Tdu.guardEnd (plan : List PlanEntry) (t : Tdu) : Tdu :=
  if contributing plan then { t with ceilings := t.ceilings.set 3 ⟨false, t.ceilings[3].value⟩ } else t

/-- R88, R122: the route unit emptied; the first CANCEL given up is noted. -/
def Rtu.emptied (u : Rtu) : Rtu :=
  let v := ({ u with windowOpen := false } : Rtu).withPlan [] []
  match u.cancels with
  | c :: _ => { v with exception := some (.telegramDiscarded, c.junction) }
  | [] => v

theorem Rtu.reconfigure_eq (u : Rtu) : u.reconfigure = (u.emptied,
    (if u.plan = [] then [] else [.noticeRaise .routeChange])
      ++ (if u.cancels = [] then [] else [.noticeRaise .telegramDiscarded])) := by
  unfold Rtu.reconfigure Rtu.emptied
  cases u.plan <;> cases u.cancels <;> rfl

/-- R190: what a RECONFIGURE leaves, but for its service. -/
def State.reconfigured (s : State) : State :=
  let m1 := s.lmu.guardEnd s.rtu.plan
  let m2 := m1.1.latchEnd s.sru.list
  let m3 := m2.1.fall .serviceMode
  { s with
    rst := { s.rst with slots := ⟨none, none, none⟩, mode := .configuring }
    lmu := m3.1
    tdu := s.tdu.guardEnd s.rtu.plan
    rtu := s.rtu.emptied
    lcu := { s.lcu with actions := [], window := 0 }
    sru := s.sru.clearAll.stopPolling
    sdu := s.sdu.reconfigure
    tlu := { s.tlu with windowOpen := false, modeView := .configuring, lastRequest := none }
    handed := s.handed
      ++ (if s.rtu.plan = [] then [] else [.noticeRaise .routeChange])
      ++ (if s.rtu.cancels = [] then [] else [.noticeRaise .telegramDiscarded])
      ++ m1.2 ++ m2.2 ++ m3.2 }

theorem State.reconfigureLcu_eq (s : State) : s.reconfigureLcu = { s with
    lcu := { s.lcu with actions := [], window := 0 }, tlu := { s.tlu with windowOpen := false } } := by
  rw [State.reconfigureLcu, State.putTlu_nil, State.putLcu_nil]

section
variable {s : State} (h : s.bad = [])
include h

theorem State.takeCondition_false_of_bad_nil (c : Condition) : s.takeCondition c false = { s with
    lmu := (s.lmu.fall c).1, handed := s.handed ++ (s.lmu.fall c).2 } := by
  unfold State.takeCondition Lmu.fall
  cases conditionValue s.lmu c with
  | true => exact State.settleFrom_of_bad_nil h _
  | false => simp only [if_true, Bool.false_eq_true, if_false, List.append_nil]

theorem State.endGuard_of_bad_nil (plan : List PlanEntry) : s.endGuard plan = { s with
    tdu := s.tdu.guardEnd plan
    lmu := (s.lmu.guardEnd plan).1
    handed := s.handed ++ (s.lmu.guardEnd plan).2 } := by
  have hactive : (guardEntry s.settings.creep plan).active = contributing plan := contributing_eq plan
  unfold State.endGuard Tdu.guardEnd Lmu.guardEnd
  rw [hactive]
  cases contributing plan with
  | true =>
    have hlock : lockNews s.tdu.lock (s.tdu.pointGuard s.dau.state false s.settings.creep).lock = [] := if_pos rfl
    simp only [if_true]
    rw [State.entryEvent_of_bad_nil h, hlock, List.append_nil, State.takeCondition_false_of_bad_nil (by exact h)]
    rfl
  | false => simp only [Bool.false_eq_true, if_false, List.append_nil]

theorem State.reconfigureRtu_of_bad_nil : s.reconfigureRtu = { s with
    rtu := s.rtu.emptied
    tdu := s.tdu.guardEnd s.rtu.plan
    lmu := (s.lmu.guardEnd s.rtu.plan).1
    handed := s.handed ++ (if s.rtu.plan = [] then [] else [.noticeRaise .routeChange])
      ++ (if s.rtu.cancels = [] then [] else [.noticeRaise .telegramDiscarded])
      ++ (s.lmu.guardEnd s.rtu.plan).2 } := by
  rw [State.reconfigureRtu, State.putRtu_of_bad_nil h, State.endGuard_of_bad_nil (by exact h), Rtu.reconfigure_eq,
    ← List.append_assoc s.handed]

theorem State.reconfigureSru_of_bad_nil : s.reconfigureSru = { s with
    sru := s.sru.clearAll.stopPolling
    lmu := (s.lmu.latchEnd s.sru.list).1
    handed := s.handed ++ (s.lmu.latchEnd s.sru.list).2 } := by
  have hput : (s.sruEvent stopWords (s.sru.clearAll.stopPolling, [])).rewrite clearAllWritten =
      { s with sru := s.sru.clearAll.stopPolling } := by
    rw [State.sruEvent_of_bad_nil h, State.rewrite_of_bad_nil _ (by exact h)]
    simp only [List.append_nil]
  unfold State.reconfigureSru Lmu.latchEnd latchSet
  dsimp only
  rw [hput]
  cases s.sru.list with
  | nil => simp
  | cons e l => exact State.takeCondition_false_of_bad_nil (s := { s with sru := s.sru.clearAll.stopPolling }) h _

theorem State.reconfigureSdu_of_bad_nil :
    (s.putSdu s.sdu.reconfigure []).rewrite playersWritten = { s with sdu := s.sdu.reconfigure } := by
  simp only [State.putSdu_nil, State.rewrite, h, List.filter_nil]

/-- R190: the six steps, with no bad word. -/
theorem State.reconfigureParts_of_bad_nil : s.reconfigureParts = s.reconfigured := by
  unfold State.reconfigureParts
  dsimp only
  rw [State.reconfigureRtu_of_bad_nil (by exact h), State.reconfigureLcu_eq,
    State.reconfigureSru_of_bad_nil (by exact h), State.reconfigureSdu_of_bad_nil (by exact h),
    State.takeCondition_false_of_bad_nil (by exact h), State.putTlu_nil]
  rfl

end

/-! #### The command -/

theorem mayReconfigure_iff {s : State} : mayReconfigure s = true ↔
    s.rst.mode = .service ∧ s.dau.state = .noDesk ∧ s.lcu.motion = .standstill := by
  simp [mayReconfigure, and_assoc]

theorem reconfigureAnswer_good {x : State} {args : List Byte} (hn : NoArguments args)
    (hm : meetsBad x modeWord = false) : reconfigureAnswer args x =
      if mayReconfigure x then ⟨x.reconfigure, .done [], true⟩ else .refuse x .wrongState := by
  simp only [reconfigureAnswer, readAll_nothing hn, hm, Bool.false_eq_true, if_false]

/-- R11, R12: slots that are EMPTY stay so. -/
theorem slotsAfter_empty (p : Port) (cond changed : Bool) (r : Record) :
    slotsAfter p cond changed r ⟨none, none, none⟩ = ⟨none, none, none⟩ := by
  have hothers : emptyOtherSlots p r ⟨none, none, none⟩ = ⟨none, none, none⟩ := by cases p <;> rfl
  have hown : (⟨none, none, none⟩ : PerPort (Option Record)).set p none = ⟨none, none, none⟩ := by
    cases p <;> rfl
  simp only [slotsAfter, hothers, hown, ite_self]

/-- A request that its owner takes, and that empties every slot and changes the mode. -/
theorem Answer.finish_done_slots_emptied {s x : State} {p : Port} {q : Request} {cond changed : Bool} {r : Record}
    {m : Mode} (hpif : x.pif = (s.background p q).pif)
    (hrst : x.rst = { (s.background p q).rst with slots := ⟨none, none, none⟩, mode := m }) :
    (⟨x, .done [], changed⟩ : Answer).finish p cond r = { x with
      pif := (s.servedDone p cond changed r).pif
      rst := { (s.servedDone p cond changed r).rst with slots := ⟨none, none, none⟩, mode := m } } := by
  rw [Answer.finish_done, hpif, hrst, background_pif_set, background_returned, slotsAfter_empty]
  simp only [background_passOver]
  rfl

theorem reconfigureAnswer_taken {s : State} {p : Port} {q : Request} {args : List Byte} (hb : s.bad = [])
    (hn : NoArguments args) (hmay : mayReconfigure s = true) : reconfigureAnswer args (s.background p q) =
      ⟨((s.reached s.beforehand).background p q).reconfigured, .done [], true⟩ := by
  have hparts : (s.beforehand.background p q).reconfigureParts =
      ((s.reached s.beforehand).background p q).reconfigured :=
    (congrArg (fun x : State => (x.background p q).reconfigureParts) (State.beforehand_reached hb)).trans
      (State.reconfigureParts_of_bad_nil hb)
  rw [reconfigureAnswer_good hn (meetsBad_of_bad_nil (by exact hb) _), if_pos (by exact hmay), reconfigure_background,
    hparts]

/-- Settles O56: the events of log 21 reach the same units within the service as outside it, and the six steps follow. -/
theorem reconfigureEmptiesTheUnitsAndLeavesService : Obligations.ReconfigureEmptiesTheUnitsAndLeavesService := by
  unfold Obligations.ReconfigureEmptiesTheUnitsAndLeavesService
  intro p cond args s hb hn hr free
  refine ⟨fun hno => exec_command_refused hr ?_, fun hfree => ?_⟩
  · exact (reconfigureAnswer_good (x := s.background p _) hn (meetsBad_of_bad_nil hb _)).trans
      (if_neg (mt mayReconfigure_iff.mp hno))
  · exact congrArg Host.Outcome.next ((State.request_command_answer hr
      (reconfigureAnswer_taken hb hn (mayReconfigure_iff.mpr hfree))).trans
        (Answer.finish_done_slots_emptied (q := .command cond (commandCode .reconfigure) args) rfl rfl))

end Sys2Proof.Machine

namespace Sys2Proof.Machine

/-! ### Entries found and changed in the plan (R98, R112) -/

theorem findEntry_eq_none_iff {plan : List PlanEntry} {j : Nat} :
    findEntry plan j = none ↔ ∀ e ∈ plan, e.junction ≠ j := by
  simp [findEntry]

theorem findEntry_isSome_iff {plan : List PlanEntry} {j : Nat} :
    (findEntry plan j).isSome = true ↔ ∃ e ∈ plan, e.junction = j := by
  simp [findEntry]

theorem findEntry_of_mem_of_eq {plan : List PlanEntry} {e : PlanEntry} {j : Nat} (h : (planJunctions plan).Nodup)
    (he : e ∈ plan) (hj : e.junction = j) : findEntry plan j = some e := hj ▸ findEntry_of_mem h he

/-- R112, R113: a change of the plan that moves neither the POINT_GUARD ceiling nor the alert is noticed, and no more. -/
theorem planHandOn_of_guardEntry_eq {desk : DeskState} {cfg : Settings} {old new : List PlanEntry}
    (hg : guardEntry cfg.creep new = guardEntry cfg.creep old) (hh : anyHeld new = anyHeld old) :
    planHandOn desk cfg false old new = [.noticeRaise .routeChange] := by
  have hguard : guardHandOn cfg.creep old new = [] := by simp [guardHandOn, hg]
  have halert : alertHandOn desk cfg false old new = [] := by
    unfold alertHandOn
    split <;> simp [hh]
  simp [planHandOn, hguard, halert]

/-- R12, R98: the guard timer being no field of the record, a change of one entry changes PLAN exactly where it changes
another of its fields. -/
theorem planChanged_setEntryFor {u : Rtu} {e e' : PlanEntry} (hn : (planJunctions u.plan).Nodup) (he : e ∈ u.plan) :
    planChanged u { u with plan := setEntryFor u.plan e.junction e' } =
      ({ e' with guard := none } != { e with guard := none }) := by
  have hfields : planFields u.plan = planFields (setEntryFor u.plan e.junction e') ↔
      ({ e with guard := none } : PlanEntry) = { e' with guard := none } := by
    simp only [planFields, setEntryFor, List.map_map, List.map_inj_left, Function.comp_apply]
    constructor
    · intro h
      simpa using h e he
    · intro h x hx
      split
      case isTrue hxe => rw [List.inj_on_of_nodup_map hn hx he hxe, h]
      case isFalse => rfl
  rw [Bool.eq_iff_iff]
  simp only [planChanged, bne_self_eq_false, Bool.or_false, bne_iff_ne, ne_eq, hfields]
  exact not_congr eq_comm

/-! ### Route commands that are taken or refused (R101, R102, R104) -/

section
variable {s : State} {p : Port} {cond : Bool} {args : List Byte} {c : CommandName} {l : List SettingName}
  {r : RouteResult} (h : CommandReaches s p cond c args) (hb : s.bad = [])
  (ha : commandAnswer p args (s.background p (.command cond (commandCode c) args)) c =
    (s.background p (.command cond (commandCode c) args)).routeCommand l r)
include h hb ha

theorem exec_route_refused {why : Reason} (hr : r = (s.rtu, [], .refused why)) :
    exec (commandRow p cond args c) s = .next (s.servedRefused p cond why) := by
  subst hr
  exact exec_command_refused h (ha.trans
    (State.routeCommand_unchanged (s := s.background p _) (meetsBad_of_bad_nil (s := s.background p _) hb _)))

theorem exec_route_retry (hr : r = (s.rtu, [], .retry)) :
    exec (commandRow p cond args c) s = .next (s.served p ⟨.retry, .none, []⟩) := by
  subst hr
  rw [exec_commandRow, State.request_command_answer h (ha.trans
    (State.routeCommand_unchanged (s := s.background p _) (meetsBad_of_bad_nil (s := s.background p _) hb _))),
    Answer.finish_retry]

theorem exec_route_done {u : Rtu} {out : List Instr} {changed : Bool} (hr : r = (u, out, .done []))
    (hc : planChanged s.rtu u = changed) : exec (commandRow p cond args c) s = .next
      { s.servedDone p cond changed (commandTarget c) with rtu := u, handed := s.handed ++ out } := by
  subst hr hc
  rw [exec_commandRow, State.request_command_answer h
    (ha.trans (State.routeCommand_of_bad_nil (s := s.background p _) hb _))]
  exact congrArg Host.Outcome.next
    ((Answer.finish_done_kept (q := .command cond (commandCode c) args) (by rfl) (by rfl)).trans rfl)

end

section
variable {p : Port} {args : List Byte} {j : Nat} (x : State)

theorem commandAnswer_routeInsert {a : InsertArgs} (ha : a.ok = true) (hc : Carries args (putInsertArgs a)) :
    commandAnswer p args x .routeInsert =
      x.routeCommand [.creep] (x.rtu.insert x.dau.state x.settings p a) := by
  simp only [commandAnswer, routeInsertAnswer, (getInsertArgs_exact.readAll_iff args a).mpr ⟨ha, hc⟩]

theorem commandAnswer_routeSetCode {code : Nat} (hj : junctionOk j = true) (hcode : code ≤ 7)
    (hc : Carries args (putNat16 j ++ putNat8 code)) : commandAnswer p args x .routeSetCode =
      x.routeCommand (setCodeSettings x.rtu j) (x.rtu.setCode x.dau.state x.settings j code) := by
  simp only [commandAnswer, routeSetCodeAnswer, (getCodeArgs_exact.readAll_iff args (j, code)).mpr ⟨⟨hj, hcode⟩, hc⟩]

theorem commandAnswer_routeOverride (hj : junctionOk j = true) (hc : Carries args (putNat16 j)) :
    commandAnswer p args x .routeOverride = x.routeCommand [.creep] (x.rtu.override x.dau.state x.settings j) := by
  simp only [commandAnswer, routeOverrideAnswer, (getJunction_exact.readAll_iff args j).mpr ⟨hj, hc⟩]

end

/-! #### ROUTE_INSERT (R101) -/

/-- A new element without a property leaves whether the list has one with it. -/
theorem any_insert_of_false {α : Type} {f : α → Bool} {x : α} (h : f x = false) (l : List α) (n : Nat) :
    (l.take n ++ x :: l.drop n).any f = l.any f :=
  calc (l.take n ++ x :: l.drop n).any f
      _ = ((l.take n).any f || (l.drop n).any f) := by simp only [List.any_append, List.any_cons, h, Bool.false_or]
      _ = l.any f := by rw [← List.any_append, List.take_append_drop]

/-- R100, R101: a new entry is QUEUED, and moves neither the ceiling nor the alert. -/
theorem planHandOn_inserted (desk : DeskState) (cfg : Settings) (p : Port) (a : InsertArgs) (plan : List PlanEntry)
    (n : Nat) : planHandOn desk cfg false plan (plan.take n ++ insertedEntry a p :: plan.drop n) =
      [.noticeRaise .routeChange] := by
  have hheld : anyHeld (plan.take n ++ insertedEntry a p :: plan.drop n) = anyHeld plan :=
    any_insert_of_false (by rfl) plan n
  refine planHandOn_of_guardEntry_eq ?_ hheld
  rw [guardEntry, guardEntry, hheld, any_insert_of_false (by rfl) plan n]

section
variable {desk : DeskState} {cfg : Settings} {p : Port} {a : InsertArgs} {u : Rtu}

theorem Rtu.insert_outOfRange (hpos : u.plan.length < a.position) :
    u.insert desk cfg p a = (u, [], .refused .outOfRange) := if_pos hpos

variable (hpos : a.position ≤ u.plan.length)
include hpos

theorem Rtu.insert_duplicate (h : ∃ e ∈ u.plan, e.junction = a.junction) :
    u.insert desk cfg p a = (u, [], .refused .duplicate) := by
  rw [Rtu.insert, if_neg (Nat.not_lt.mpr hpos), if_pos (findEntry_isSome_iff.mpr h)]

variable (hnew : ∀ e ∈ u.plan, e.junction ≠ a.junction)
include hnew

theorem Rtu.insert_listFull (hfull : 12 ≤ u.plan.length) :
    u.insert desk cfg p a = (u, [], .refused .listFull) := by
  rw [Rtu.insert, if_neg (Nat.not_lt.mpr hpos), findEntry_eq_none_iff.mpr hnew]
  exact if_pos hfull

variable (hroom : u.plan.length < 12)
include hroom

theorem Rtu.insert_retry (hf : ∃ f, u.inFlight = some f ∧ f.kind = .cancel ∧ f.junction = a.junction) :
    u.insert desk cfg p a = (u, [], .retry) := by
  rw [Rtu.insert, if_neg (Nat.not_lt.mpr hpos), findEntry_eq_none_iff.mpr hnew, cancelInFlight_iff.mpr hf]
  exact if_neg (Nat.not_le.mpr hroom)

theorem Rtu.insert_done (hf : ∀ f, u.inFlight = some f → f.kind = .cancel → f.junction ≠ a.junction) :
    u.insert desk cfg p a = ({ u with
      plan := u.plan.take a.position ++ insertedEntry a p :: u.plan.drop a.position
      cancels := u.cancels.filter fun c => c.junction != a.junction }, [.noticeRaise .routeChange], .done []) := by
  have hfree : ¬ cancelInFlight u a.junction = true := fun hc => by
    obtain ⟨f, hs, hk, hj⟩ := cancelInFlight_iff.mp hc
    exact hf f hs hk hj
  rw [Rtu.insert, if_neg (Nat.not_lt.mpr hpos), findEntry_eq_none_iff.mpr hnew, if_neg hfree]
  dsimp only
  rw [planHandOn_inserted]
  exact if_neg (Nat.not_le.mpr hroom)

end

/-- Settles O30: each check that fails answers its own verdict; the entry that joins is QUEUED. -/
theorem routeInsertChecksInOrderAndInserts : Obligations.RouteInsertChecksInOrderAndInserts := by
  unfold Obligations.RouteInsertChecksInOrderAndInserts
  intro p cond a args s hb hok hc h
  have ha := commandAnswer_routeInsert (p := p) (s.background p (.command cond (commandCode .routeInsert) args)) hok hc
  refine ⟨fun hpos => ?_, fun hpos => ⟨fun hdup => ?_, fun hnew => ⟨fun hfull => ?_, fun hroom => ⟨fun hf => ?_,
    fun hno => ?_⟩⟩⟩⟩
  · exact exec_route_refused h hb ha (Rtu.insert_outOfRange hpos)
  · exact exec_route_refused h hb ha (Rtu.insert_duplicate hpos hdup)
  · exact exec_route_refused h hb ha (Rtu.insert_listFull hpos hnew hfull)
  · exact exec_route_retry h hb ha (Rtu.insert_retry hpos hnew hroom hf)
  · refine exec_route_done h hb ha (Rtu.insert_done hpos hnew hroom hno) (planChanged_of_length ?_)
    simp only [List.length_append, List.length_cons, List.length_take, List.length_drop]
    omega

end Sys2Proof.Machine

namespace Sys2Proof.Machine

/-! ### ROUTE_SET_CODE and ROUTE_OVERRIDE (R102, R104) -/

theorem awaitsPoints_iff {st : EntryState} : awaitsPoints st = true ↔
    st = .armed ∨ st = .sent ∨ st = .refused ∨ st = .faulted := by cases st <;> decide

theorem awaitsPoints_eq_false_iff {st : EntryState} : awaitsPoints st = false ↔
    st = .queued ∨ st = .confirmed ∨ st = .overridden := by cases st <;> decide

theorem ne_queued_of_awaitsPoints {st : EntryState} (h : awaitsPoints st = true) : st ≠ .queued := by
  rintro rfl
  cases h

theorem flightFor_eq_false {u : Rtu} {j : Nat} (h : ∀ f, u.inFlight = some f → f.junction ≠ j) :
    flightFor u j = false := Bool.eq_false_iff.mpr fun hf => by
  obtain ⟨f, hs, hj⟩ := flightFor_iff.mp hf
  exact h f hs hj

section
variable {desk : DeskState} {cfg : Settings} {j code : Nat} {u : Rtu} {e : PlanEntry}

section
variable (hf : flightFor u j = false)
include hf

theorem Rtu.setCode_none (h : findEntry u.plan j = none) :
    u.setCode desk cfg j code = (u, [], .refused .wrongState) := by
  simp only [Rtu.setCode, hf, h, Bool.false_eq_true, if_false]

variable (h : findEntry u.plan j = some e)
include h

theorem Rtu.setCode_queued (hq : e.state = .queued) : u.setCode desk cfg j code =
    ({ u with plan := setEntryFor u.plan j { e with code := code } }, [.noticeRaise .routeChange], .done []) := by
  simp only [Rtu.setCode, hf, h, hq, Bool.false_eq_true, if_false, if_true]

/-- R102: an entry that awaits its points is armed again, while the window is open. -/
theorem Rtu.setCode_awaiting (ha : awaitsPoints e.state = true) : u.setCode desk cfg j code =
    if u.windowOpen then
      let plan := setEntryFor u.plan j (rearmed cfg code e)
      ({ u with plan := plan }, planHandOn desk cfg false u.plan plan ++ [.owedReport], .done [])
    else (u, [], .refused .wrongState) := by
  simp only [Rtu.setCode, hf, h, ne_queued_of_awaitsPoints ha, ha, Bool.true_and, Bool.false_eq_true, if_false]

theorem Rtu.setCode_settled (hs : e.state = .confirmed ∨ e.state = .overridden) :
    u.setCode desk cfg j code = (u, [], .refused .wrongState) := by
  have hq : e.state ≠ .queued := by rcases hs with hs | hs <;> simp [hs]
  have ha := awaitsPoints_eq_false_iff.mpr (.inr hs)
  simp only [Rtu.setCode, hf, h, hq, ha, Bool.false_and, Bool.false_eq_true, if_false]

end

theorem Rtu.override_none (h : findEntry u.plan j = none) :
    u.override desk cfg j = (u, [], .refused .wrongState) := by
  simp only [Rtu.override, h]

variable (h : findEntry u.plan j = some e)
include h

theorem Rtu.override_awaiting (ha : awaitsPoints e.state = true) : u.override desk cfg j =
    let plan := setEntryFor u.plan j { e with state := .overridden, guard := none }
    ({ u with plan := plan }, planHandOn desk cfg false u.plan plan, .done []) := by
  simp only [Rtu.override, h, ha, if_true]

theorem Rtu.override_else (ha : awaitsPoints e.state = false) :
    u.override desk cfg j = (u, [], .refused .wrongState) := by
  simp only [Rtu.override, h, ha, Bool.false_eq_true, if_false]

end

/-- R12: a new code is a change of the record exactly where it differs from the old one. -/
theorem entry_code_bne (e : PlanEntry) (code : Nat) :
    (({ e with code := code, guard := none } : PlanEntry) != { e with guard := none }) = (e.code != code) := by
  rw [Bool.eq_iff_iff]
  simp only [bne_iff_ne, ne_eq, PlanEntry.mk.injEq, true_and, and_true]
  exact not_congr eq_comm

/-- R12: an entry that becomes OVERRIDDEN has changed. -/
theorem entry_overridden_bne {e : PlanEntry} (h : awaitsPoints e.state = true) :
    (({ e with state := .overridden, guard := none } : PlanEntry) != { e with guard := none }) = true := by
  rw [bne_iff_ne]
  intro he
  have hstate : EntryState.overridden = e.state := congrArg PlanEntry.state he
  rw [← hstate] at h
  cases h

/-- Settles O31: the states named one by one are those that await their points, and the others. -/
theorem setCodeRearmsAndOverrideReleasesAnEntry : Obligations.SetCodeRearmsAndOverrideReleasesAnEntry := by
  unfold Obligations.SetCodeRearmsAndOverrideReleasesAnEntry
  intro p cond j code args s hb ⟨_, hnodup⟩ hj hcode
  refine ⟨fun hc h hfl => ?_, fun hc h => ?_⟩
  · have ha := commandAnswer_routeSetCode (p := p) (s.background p (.command cond (commandCode .routeSetCode) args)) hj
      hcode hc
    have hf := flightFor_eq_false hfl
    refine ⟨fun hno => exec_route_refused h hb ha (Rtu.setCode_none hf (findEntry_eq_none_iff.mpr hno)),
      fun e he hej => ?_⟩
    subst hej
    have hfind := findEntry_of_mem hnodup he
    refine ⟨fun hq => ?_, fun hs => ⟨fun hw => ?_, fun hw => ?_⟩, fun hs => ?_⟩
    · exact exec_route_done h hb ha (Rtu.setCode_queued hf hfind hq)
        ((planChanged_setEntryFor hnodup he).trans (entry_code_bne e code))
    · intro e'
      rw [List.append_assoc, ← planHandOn_eq]
      exact exec_route_done h hb ha ((Rtu.setCode_awaiting hf hfind (awaitsPoints_iff.mpr hs)).trans (if_pos hw))
        (planChanged_setEntryFor hnodup he)
    · exact exec_route_refused h hb ha ((Rtu.setCode_awaiting hf hfind (awaitsPoints_iff.mpr hs)).trans
        (if_neg (Bool.eq_false_iff.mp hw)))
    · exact exec_route_refused h hb ha (Rtu.setCode_settled hf hfind hs)
  · have ha := commandAnswer_routeOverride (p := p) (s.background p (.command cond (commandCode .routeOverride) args))
      hj hc
    refine ⟨fun hno => exec_route_refused h hb ha (Rtu.override_none (findEntry_eq_none_iff.mpr hno)),
      fun e he hej => ?_⟩
    subst hej
    have hfind := findEntry_of_mem hnodup he
    refine ⟨fun hs => ?_, fun hs => ?_⟩
    · have haw := awaitsPoints_iff.mpr hs
      intro plan
      rw [← planHandOn_eq]
      exact exec_route_done h hb ha (Rtu.override_awaiting hfind haw)
        ((planChanged_setEntryFor hnodup he).trans (entry_overridden_bne haw))
    · exact exec_route_refused h hb ha (Rtu.override_else hfind (awaitsPoints_eq_false_iff.mpr hs))

end Sys2Proof.Machine

namespace Sys2Proof.Machine

/-! ### Rows of the route unit with no bad word (R106) -/

section
variable {s : State} (h : s.bad = []) (c : Instr)
include h

theorem State.rtuRow_of_bad_nil (reads : StoreWord → Bool) (r : Rtu × List Instr) :
    (s.take c).rtuEvent reads r = { s with rtu := r.1, handed := s.handed.erase c ++ r.2 } :=
  State.rtuEvent_of_bad_nil (s := s.take c) h reads r

theorem State.rtuRow_rewrite_of_bad_nil (reads written : StoreWord → Bool) (r : Rtu × List Instr) :
    ((s.take c).rtuEvent reads r).rewrite written =
      { s with rtu := r.1, handed := s.handed.erase c ++ r.2 } := by
  rw [State.rtuRow_of_bad_nil h]
  exact State.rewrite_of_bad_nil { s with rtu := r.1, handed := s.handed.erase c ++ r.2 } h _

end

/-- A row of the unit that leaves it as it is, and hands on nothing, is taken and no more. -/
theorem State.take_eq (s : State) (c : Instr) :
    s.take c = { s with rtu := s.rtu, handed := s.handed.erase c ++ [] } := by
  rw [List.append_nil]
  rfl

section
variable {s : State} (h : s.bad = []) (j : Nat)
include h

theorem exec_armRoute_of_bad_nil : exec (.armRoute j) s = .next { s with
    rtu := (s.rtu.arm s.dau.state s.settings j).1
    handed := s.handed.erase (.armRoute j) ++ (s.rtu.arm s.dau.state s.settings j).2 } :=
  congrArg Host.Outcome.next (State.rtuRow_rewrite_of_bad_nil h _ (armReads s.rtu j) _ _)

theorem exec_clearance_of_bad_nil : exec (.clearance j) s = .next { s with
    rtu := (s.rtu.clearance s.dau.state s.settings j).1
    handed := s.handed.erase (.clearance j) ++ (s.rtu.clearance s.dau.state s.settings j).2 } :=
  congrArg Host.Outcome.next (State.rtuRow_of_bad_nil h _ planWords _)

theorem exec_lateDecisionReport_of_bad_nil (p : Nat) : exec (.lateDecisionReport p) s = .next { s with
    rtu := (s.rtu.lateDecision p).1
    handed := s.handed.erase (.lateDecisionReport p) ++ (s.rtu.lateDecision p).2 } :=
  congrArg Host.Outcome.next (State.rtuRow_rewrite_of_bad_nil h _ planWords _ _)

end

theorem guardRuns_iff {e : PlanEntry} : guardRuns e = true ↔
    e.guard ≠ none ∧ (e.state = .armed ∨ e.state = .sent) := by
  simp [guardRuns, Option.isSome_iff_ne_none]

/-- R108: a guard timer of no entry, or one that is stopped, does not expire. -/
theorem exec_guardTimerExpiry_else {s : State} {j : Nat}
    (h : ∀ e, findEntry s.rtu.plan j = some e → guardRuns e = false) :
    exec (.guardTimerExpiry j) s = .next (s.take (.guardTimerExpiry j)) := by
  refine if_neg ?_
  rw [State.take_rtu, Option.any_eq_true]
  rintro ⟨e, he, hr⟩
  rw [h e he] at hr
  cases hr

theorem exec_guardTimerExpiry_runs {s : State} {j : Nat} {e : PlanEntry} (h : s.bad = [])
    (he : findEntry s.rtu.plan j = some e) (hr : guardRuns e = true) : exec (.guardTimerExpiry j) s = .next { s with
      rtu := (s.rtu.guardExpiry s.dau.state s.settings j).1
      handed := s.handed.erase (.guardTimerExpiry j) ++ (s.rtu.guardExpiry s.dau.state s.settings j).2 } := by
  have hruns : (findEntry s.rtu.plan j).any guardRuns = true := by rw [he]; exact hr
  exact (if_pos hruns).trans (congrArg Host.Outcome.next (State.rtuRow_of_bad_nil h _ (fun _ => false) _))

/-! ### Arming (R107) -/

theorem setEntryFor_of_forall_ne {plan : List PlanEntry} {j : Nat} (h : ∀ x ∈ plan, x.junction ≠ j) (e : PlanEntry) :
    setEntryFor plan j e = plan := by
  rw [setEntryFor]
  exact (List.map_congr_left fun x hx => if_neg (h x hx)).trans (List.map_id plan)

section
variable {before after : List PlanEntry} {e : PlanEntry}

theorem bypass_append (h : ∀ x ∈ before, x.junction ≠ e.junction) : bypass (before ++ e :: after) e.junction =
    before.filter (fun x => x.state != .queued) ++ e :: after := by
  induction before with
  | nil => simp [bypass]
  | cons x before ih =>
    obtain ⟨hx, hbefore⟩ := List.forall_mem_cons.mp h
    by_cases hq : x.state = .queued <;> simp [bypass, hx, hq, ih hbefore]

/-- R98: the entries around one of the plan are for other junctions. -/
theorem junction_ne_of_nodup (h : (planJunctions (before ++ e :: after)).Nodup) :
    (∀ x ∈ before, x.junction ≠ e.junction) ∧ ∀ x ∈ after, x.junction ≠ e.junction := by
  have hmid : (planJunctions (e :: (before ++ after))).Nodup := (List.perm_middle.map _).nodup_iff.mp h
  have hnot : e.junction ∉ planJunctions (before ++ after) := (List.nodup_cons.mp hmid).1
  exact ⟨fun x hx hj => hnot (List.mem_map.mpr ⟨x, List.mem_append_left _ hx, hj⟩),
    fun x hx hj => hnot (List.mem_map.mpr ⟨x, List.mem_append_right _ hx, hj⟩)⟩

theorem setEntryFor_append (hbefore : ∀ x ∈ before, x.junction ≠ e.junction)
    (hafter : ∀ x ∈ after, x.junction ≠ e.junction) (e' : PlanEntry) :
    setEntryFor (before ++ e :: after) e.junction e' = before ++ e' :: after := by
  have h : setEntryFor (before ++ e :: after) e.junction e' =
      setEntryFor before e.junction e' ++ e' :: setEntryFor after e.junction e' := by simp [setEntryFor]
  rw [h, setEntryFor_of_forall_ne hbefore, setEntryFor_of_forall_ne hafter]

/-- R107: an entry is bypassed exactly where one ahead is QUEUED. -/
theorem bypassed_length_lt_iff : (before.filter (fun x => x.state != .queued) ++ e :: after).length <
    (before ++ e :: after).length ↔ (before.any fun x => x.state == .queued) = true := by
  simp [List.length_filter_lt_length_iff_exists]

end

section
variable {desk : DeskState} {cfg : Settings} {j : Nat} {u : Rtu} {e : PlanEntry}

theorem Rtu.arm_none (h : findEntry u.plan j = none) :
    u.arm desk cfg j = ({ u with exception := some (.noRoute, j) }, [.noticeRaise .locationEvent]) := by
  simp only [Rtu.arm, h]

theorem Rtu.arm_else (h : findEntry u.plan j = some e) (hq : e.state ≠ .queued) : u.arm desk cfg j = (u, []) := by
  simp only [Rtu.arm, h, hq, if_false]

/-- R107: the QUEUED entries ahead leave, and the entry is armed where it stands. -/
theorem Rtu.arm_queued {before after : List PlanEntry} (hn : (planJunctions u.plan).Nodup)
    (hu : u.plan = before ++ e :: after) (hq : e.state = .queued) :
    let plan := before.filter (fun x => x.state != .queued) ++ armed cfg e :: after
    u.arm desk cfg e.junction = (u.withPlan plan u.cancels,
      (if before.any fun x => x.state == .queued then [.structuralChangeReport .plan] else [])
        ++ planHandOn desk cfg false u.plan plan ++ [.owedReport]) := by
  have hfind : findEntry u.plan e.junction = some e := findEntry_of_mem hn (by simp [hu])
  obtain ⟨hbefore, hafter⟩ := junction_ne_of_nodup (hu ▸ hn)
  have hkept : bypass u.plan e.junction = before.filter (fun x => x.state != .queued) ++ e :: after := by
    rw [hu, bypass_append hbefore]
  have hplan := setEntryFor_append (before := before.filter fun x => x.state != .queued) (after := after) (e := e)
    (fun x hx => hbefore x (List.mem_of_mem_filter hx)) hafter (armed cfg e)
  have hlength : (bypass u.plan e.junction).length < u.plan.length ↔
      (before.any fun x => x.state == .queued) = true := by
    rw [hkept, hu]
    exact bypassed_length_lt_iff
  simp only [Rtu.arm, hfind, hq, if_true, hlength]
  rw [hkept, hplan]

/-! ### Guard timers and clearance (R108, R111) -/

theorem Rtu.guardExpiry_runs (h : findEntry u.plan j = some e) (hr : guardRuns e = true) :
    u.guardExpiry desk cfg j =
      let plan := setEntryFor u.plan j { e with state := .faulted, guard := none }
      (u.withPlan plan u.cancels, planHandOn desk cfg true u.plan plan) := by
  simp only [Rtu.guardExpiry, h, hr, if_true]

theorem passes_iff {st : EntryState} : passes st = true ↔ st = .confirmed ∨ st = .overridden := by
  cases st <;> decide

theorem Rtu.clearance_none (h : findEntry u.plan j = none) : u.clearance desk cfg j =
    ({ u with exception := some (.unplannedClearance, j) }, [.noticeRaise .locationEvent]) := by
  simp only [Rtu.clearance, h]

theorem Rtu.clearance_some (h : findEntry u.plan j = some e) : u.clearance desk cfg j =
    let plan := u.plan.filter fun x => x.junction != j
    (u.withPlan plan u.cancels,
      .structuralChangeReport .plan :: planHandOn desk cfg false u.plan plan
        ++ (if e.state = .confirmed ∨ e.state = .overridden then []
            else [.severeFault .pointRunThrough .rtu (.junction j) false none])) := by
  simp only [Rtu.clearance, h, passes_iff]
  rfl

end

/-- Settles O33: what each of the three rows does where it finds no entry, and at each state of the entry it finds. -/
theorem armingClearanceAndGuardTimersActOnTheEntry : Obligations.ArmingClearanceAndGuardTimersActOnTheEntry := by
  unfold Obligations.ArmingClearanceAndGuardTimersActOnTheEntry
  refine ⟨fun j s hb ⟨_, hnodup⟩ => ⟨fun hno => ?_, fun before e after hplan hej => ⟨fun hq => ?_, fun hq => ?_⟩⟩,
    fun j s hb ⟨_, hnodup⟩ => ⟨fun hno => ⟨?_, ?_⟩, fun e he hej => ⟨?_, fun hg hs => ?_, fun hno => ?_⟩⟩⟩
  · rw [exec_armRoute_of_bad_nil hb, Rtu.arm_none (findEntry_eq_none_iff.mpr hno)]
  · have hfind := findEntry_of_mem_of_eq hnodup (by simp [hplan]) hej
    rw [exec_armRoute_of_bad_nil hb, Rtu.arm_else hfind hq, ← State.take_eq]
  · subst hej
    intro plan
    rw [exec_armRoute_of_bad_nil hb, Rtu.arm_queued hnodup hplan hq, ← planHandOn_eq]
    simp only [← List.append_assoc]
    rfl
  · rw [exec_clearance_of_bad_nil hb, Rtu.clearance_none (findEntry_eq_none_iff.mpr hno)]
  · refine exec_guardTimerExpiry_else fun e he => ?_
    rw [findEntry_eq_none_iff.mpr hno] at he
    cases he
  · intro plan
    rw [exec_clearance_of_bad_nil hb, Rtu.clearance_some (findEntry_of_mem_of_eq hnodup he hej), ← planHandOn_eq]
    simp only [List.append_assoc, List.cons_append, List.nil_append]
    rfl
  · intro plan
    have hfind := findEntry_of_mem_of_eq hnodup he hej
    have hr := guardRuns_iff.mpr ⟨hg, hs⟩
    rw [exec_guardTimerExpiry_runs hb hfind hr, Rtu.guardExpiry_runs hfind hr, ← planHandOn_eq]
    rfl
  · refine exec_guardTimerExpiry_else fun x hx => Bool.eq_false_iff.mpr fun hr => ?_
    rw [findEntry_of_mem_of_eq hnodup he hej] at hx
    cases hx
    obtain ⟨hg, hs⟩ := guardRuns_iff.mp hr
    rcases hno with hno | ⟨hna, hns⟩
    · exact hg hno
    · exact hs.elim hna hns

end Sys2Proof.Machine

namespace Sys2Proof.Machine

/-! ### Point states (R109, R110) -/

theorem pointNext_eq (report : PointReport) (same : Bool) (old : EntryState) :
    pointNext report same old = afterReport old report same := by
  cases old <;> cases report <;> rfl

theorem holdsAtZero_eq (st : EntryState) : holdsAtZero st = (st == .refused || st == .faulted) := by cases st <;> rfl

section
variable {desk : DeskState} {cfg : Settings} {ownRun j code run : Nat} {report : PointReport} {u : Rtu}

theorem Rtu.pointState_otherRun (h : run ≠ ownRun) : u.pointState desk cfg ownRun j code report run =
    ({ u with otherRun := min 255 (u.otherRun + 1) }, []) := if_pos h

theorem Rtu.pointState_stray (hr : run = ownRun) (h : findEntry u.plan j = none) :
    u.pointState desk cfg ownRun j code report run =
      ({ u with exception := some (.strayPointState, j) }, [.noticeRaise .pointStateStray]) := by
  simp only [Rtu.pointState, hr, h, ne_eq, not_true_eq_false, if_false]

/-- R110: the entry takes the report, and its state by the table. -/
theorem Rtu.pointState_taken (hr : run = ownRun) {e : PlanEntry} (h : findEntry u.plan j = some e) :
    let new := afterReport e.state report (code == e.code)
    let plan := setEntryFor u.plan j { e with
      requestsOwed := 0, lastPoint := some ⟨report, code⟩, state := new
      guard := if new = e.state then e.guard else none }
    u.pointState desk cfg ownRun j code report run = (u.withPlan plan u.cancels,
      if new = e.state then [] else planHandOn desk cfg (new == .refused || new == .faulted) u.plan plan) := by
  simp only [Rtu.pointState, hr, h, ne_eq, not_true_eq_false, if_false, pointTaken, pointNext_eq, holdsAtZero_eq]

end

/-- R129, R130: the sample point that ends the silent bit period of a POINT_STATE hands it to the route unit. -/
theorem State.hear_pointState {s : State} {v : Bool} {j code run : Nat} {report : PointReport} (hb : s.bad = [])
    (hr : s.tlu.receiver = .receiving) (hw : s.tlu.wait ≤ 1)
    (ht : tested s.tlu.bits = some (.pointState j code report run)) :
    let r := s.rtu.pointState s.dau.state s.settings s.rst.vehicle.run j code report run
    s.hear [v] = { s with
      tlu := { s.tlu with
        receiver := .recovering, silent := 0, bits := [], wait := 2, run := carrierRun v s.tlu.run }
      rtu := r.1
      handed := s.handed ++ r.2 } := by
  intro r
  have hsample := Tlu.sample_tested (v := v) hr hw ht
  show s.sample v = _
  simp only [State.sample, hsample, State.deliver, State.takePointState, State.putTlu_nil]
  rw [State.rtuEvent_of_bad_nil (by exact hb), State.rewrite_of_bad_nil _ (by exact hb)]

/-- The receiver's three rows are successive sample points, whatever their name (log 17). -/
theorem exec_sampleRow {c : Instr} {v : Bool}
    (hc : c ∈ [Instr.beaconTelegram [v], .pointStateTelegram [v], .trackRxError [v]])
    (s : State) : exec c s = .next ((s.take c).hear [v]) := by
  simp only [List.mem_cons, List.not_mem_nil, or_false] at hc
  rcases hc with rfl | rfl | rfl <;> rfl

/-! ### Late decisions (R116, R124) -/

section
variable {p : Nat} {u : Rtu}

theorem Rtu.lateDecision_none (h : ∀ e ∈ u.plan, toldPassing p e = false) : u.lateDecision p = (u, []) := by
  have hnone : u.plan.find? (toldPassing p) = none := List.find?_eq_none.mpr fun e he => by simp [h e he]
  simp only [Rtu.lateDecision, hnone]

theorem Rtu.lateDecision_first {e : PlanEntry} (h : FirstWith u.plan (fun x => toldPassing p x = true) e) :
    u.lateDecision p =
      if u.windowOpen then
        (u.withPlan (u.plan.map fun x => if toldPassing p x then { x with updateOwed := true } else x) u.cancels,
          if u.plan.any fun x => toldPassing p x && !x.updateOwed then [.owedReport] else [])
      else ({ u with exception := some (.lateStopUnreported, e.junction) }, [.noticeRaise .telegramDiscarded]) := by
  simp only [Rtu.lateDecision, find_of_firstWith h fun _ => Iff.rfl]

end

/-- Settles O34: the three cases of a POINT_STATE and the three of a late decision, each by the unit's own equation. -/
theorem pointStatesAndLateDecisionsReachTheirEntries : Obligations.PointStatesAndLateDecisionsReachTheirEntries := by
  unfold Obligations.PointStatesAndLateDecisionsReachTheirEntries
  refine ⟨fun v j code report run s hb ⟨_, hnodup⟩ hrec hwait hbits c hc => ?_, fun p s hb => ?_⟩
  · have htested : tested s.tlu.bits = some (.pointState j code report run) := tested_eq_some.mpr ⟨hbits, by simp⟩
    have hrow := (exec_sampleRow hc s).trans
      (congrArg Host.Outcome.next (State.hear_pointState (s := s.take c) hb hrec hwait htested))
    simp only [State.take_rtu, State.take_dau, State.take_settings, State.take_rst] at hrow
    refine ⟨fun hr => ?_, fun hr hno => ?_, fun hr e he hej => ?_⟩
    · rw [hrow, Rtu.pointState_otherRun hr]
      rfl
    · rw [hrow, Rtu.pointState_stray hr (findEntry_eq_none_iff.mpr hno)]
      rfl
    · rw [hrow, Rtu.pointState_taken hr (findEntry_of_mem_of_eq hnodup he hej)]
      simp only [planHandOn_eq]
      rfl
  · refine ⟨fun hno => ?_, fun e he => ⟨fun hw => ?_, fun hw => ?_⟩⟩
    · rw [exec_lateDecisionReport_of_bad_nil hb, Rtu.lateDecision_none hno, ← State.take_eq]
    · rw [exec_lateDecisionReport_of_bad_nil hb, Rtu.lateDecision_first he, if_pos hw]
      rfl
    · rw [exec_lateDecisionReport_of_bad_nil hb, Rtu.lateDecision_first he, if_neg (Bool.eq_false_iff.mp hw)]

end Sys2Proof.Machine

namespace Sys2Proof.Machine

/-! ### The end of the telegram in flight (R115, R136) -/

/-- R115: the subject of a telegram in flight stays present while the plan, or for a CANCEL the list, has its junction. -/
theorem subjectStays_iff {plan : List PlanEntry} {cancels : List Cancel} {f : InFlight} :
    subjectStays plan cancels f = true ↔
      if f.kind = .cancel then ∃ c ∈ cancels, c.junction = f.junction else ∃ e ∈ plan, e.junction = f.junction := by
  unfold subjectStays
  cases f.kind <;> simp

section
variable {desk : DeskState} {cfg : Settings} {u : Rtu} {f : InFlight} {e : PlanEntry}

theorem Rtu.ended_none (h : u.inFlight = none) : u.ended desk cfg = ({ u with inFlight := none }, []) := by
  simp only [Rtu.ended, h]
  rw [← h]

variable (h : u.inFlight = some f)
include h

theorem Rtu.ended_absent (hp : f.present = false) : u.ended desk cfg = ({ u with inFlight := none }, []) := by
  simp only [Rtu.ended, h, hp, Bool.false_eq_true, if_false]

variable (hp : f.present = true)
include hp

theorem Rtu.ended_cancel (hk : f.kind = .cancel) : u.ended desk cfg = ({ u with
    cancels := u.cancels.filter fun c => c.junction != f.junction, inFlight := none }, []) := by
  simp only [Rtu.ended, h, hp, hk, if_true]

variable (he : findEntry u.plan f.junction = some e)
include he

theorem Rtu.ended_update (hk : f.kind = .update) : u.ended desk cfg = ({ u with
    plan := setEntryFor u.plan f.junction { e with updateOwed := false }, inFlight := none }, []) := by
  simp only [Rtu.ended, h, hp, hk, he, if_true]

/-- R115: a REQUEST that ends has been sent: an ARMED entry becomes SENT. -/
theorem Rtu.ended_request (hk : f.kind = .request) :
    let plan := setEntryFor u.plan f.junction { e with
      requestsOwed := e.requestsOwed - 1
      transmissions := e.transmissions + 1
      state := if e.state = .armed then .sent else e.state }
    u.ended desk cfg = ({ u with plan := plan, inFlight := none },
      if e.state = .armed then planHandOn desk cfg false u.plan plan else []) := by
  simp only [Rtu.ended, h, hp, hk, he, if_true]
  rfl

end

theorem exec_telegramEnd_not_sending {s : State} (h : s.tlu.transmitter ≠ .sending) :
    exec .telegramEnd s = .next (s.take .telegramEnd) := by
  show execTelegramEnd s = _
  unfold execTelegramEnd
  dsimp only
  split
  case h_1 hs => exact absurd hs h
  all_goals rfl

theorem exec_telegramEnd_sending {s : State} (hb : s.bad = []) (h : s.tlu.transmitter = .sending) :
    exec .telegramEnd s = .next { s with
      tlu := { s.tlu with transmitter := .gap, inFlight := none, gapTimer := some s.settings.gap }
      rtu := (s.rtu.ended s.dau.state s.settings).1
      handed := s.handed.erase .telegramEnd ++ (s.rtu.ended s.dau.state s.settings).2 } := by
  have hrow : exec .telegramEnd s = .next ((((s.take .telegramEnd).rtuEvent planWords
      (s.rtu.ended s.dau.state s.settings)).rewrite (endedWords s.rtu)).putTlu (s.tlu.ended s.settings) []) := by
    show execTelegramEnd s = _
    simp only [execTelegramEnd, State.take_tlu, h]
    rfl
  rw [hrow, State.rtuRow_rewrite_of_bad_nil hb, State.putTlu_nil]
  rfl

/-- Settles O36: the telegram's subject is what it was sent for, found by its junction. -/
theorem telegramEndActsOnItsSubjectAndStartsTheGap : Obligations.TelegramEndActsOnItsSubjectAndStartsTheGap := by
  unfold Obligations.TelegramEndActsOnItsSubjectAndStartsTheGap
  refine ⟨fun u plan cancels => ⟨rfl, fun hn => ?_, fun f hf => ?_⟩, fun s hb ⟨_, hnodup⟩ =>
    ⟨exec_telegramEnd_not_sending, fun hs => ⟨fun hn => ?_, fun f hf => ⟨fun hp => ?_, fun hp => ⟨fun hk => ?_,
      fun e he hej => ⟨fun hk => ?_, fun hk => ?_⟩⟩⟩⟩⟩⟩
  · exact congrArg (Option.map _) hn
  · refine ⟨f.present && subjectStays plan cancels f, congrArg (Option.map _) hf, ?_⟩
    rw [Bool.and_eq_true, subjectStays_iff]
  · rw [exec_telegramEnd_sending hb hs, Rtu.ended_none hn]
  · rw [exec_telegramEnd_sending hb hs, Rtu.ended_absent hf hp]
  · rw [exec_telegramEnd_sending hb hs, Rtu.ended_cancel hf hp hk]
  · rw [exec_telegramEnd_sending hb hs, Rtu.ended_update hf hp (findEntry_of_mem_of_eq hnodup he hej) hk]
    rfl
  · intro plan
    rw [exec_telegramEnd_sending hb hs, Rtu.ended_request hf hp (findEntry_of_mem_of_eq hnodup he hej) hk,
      ← planHandOn_eq]
    rfl

end Sys2Proof.Machine

namespace Sys2Proof.Machine

/-! ### The track receiver at one sample point (R128, R129, R131) -/

theorem tested_eq_none {bits : List Bool} :
    tested bits = none ↔ ∀ r, received bits = some r → ∃ k, r = .error k := by
  simp only [Option.eq_none_iff_forall_ne_some, ne_eq, tested_eq_some, not_and, not_forall, not_not]

section
variable {t : Tlu} {v : Bool}

/-- R128: carrier at a second sample point in a row begins a telegram. -/
theorem Tlu.sample_begins (hr : t.receiver = .hunting) (hrun : 0 < t.run) : t.sample true =
    ({ t with run := carrierRun true t.run, wait := 16, receiver := .receiving, bits := [true] }, none) := by
  simp [Tlu.sample, hr, hrun]

theorem Tlu.sample_hunts (hr : t.receiver = .hunting) (h : v = false ∨ t.run = 0) : t.sample v =
    ({ t with run := carrierRun v t.run, wait := t.wait - 1 }, none) := by
  have hno : (v && decide (0 < t.run)) = false := by
    rcases h with rfl | h <;> simp [*]
  simp [Tlu.sample, hr, hno]

/-- R128: between two mid-samples only the point is counted. -/
theorem Tlu.sample_between (hr : t.receiver ≠ .hunting) (hw : 1 < t.wait) : t.sample v =
    ({ t with run := carrierRun v t.run, wait := t.wait - 1 }, none) := by
  cases h : t.receiver with
  | hunting => exact absurd h hr
  | receiving => simp only [Tlu.sample, h, hw, if_true]
  | recovering => simp only [Tlu.sample, h, hw, if_true]

section
variable (hr : t.receiver = .receiving) (hw : t.wait ≤ 1) (ht : tested t.bits = none)
include hr hw ht

/-- R129: a bit period that decides no test. -/
theorem Tlu.sample_goesOn (h : received (t.bits ++ [v]) = none) : t.sample v = ({ t with
    run := carrierRun v t.run, bits := t.bits ++ [v], wait := nextMid v t.run }, none) := by
  simp only [Tlu.sample, hr, Nat.not_lt.mpr hw, ht, h, if_false]

/-- R129: the mid-sample of the silent bit period of a telegram that meets every test. -/
theorem Tlu.sample_whole {r : Reception} (h : received (t.bits ++ [v]) = some r) (hk : ∀ k, r ≠ .error k) :
    t.sample v = ({ t with run := carrierRun v t.run, bits := t.bits ++ [v], wait := 14 }, none) := by
  cases r with
  | error k => exact absurd rfl (hk k)
  | noise => simp only [Tlu.sample, hr, Nat.not_lt.mpr hw, ht, h, if_false, pointsAfterMid]
  | beacon _ => simp only [Tlu.sample, hr, Nat.not_lt.mpr hw, ht, h, if_false, pointsAfterMid]
  | pointState _ _ _ _ => simp only [Tlu.sample, hr, Nat.not_lt.mpr hw, ht, h, if_false, pointsAfterMid]

/-- R131: a test that fails drops the telegram. -/
theorem Tlu.sample_dropped {k : RxError} (h : received (t.bits ++ [v]) = some (.error k)) : t.sample v = ({ t with
    run := carrierRun v t.run, receiver := .recovering, silent := 0, bits := [], wait := 16 }, some (.error k)) := by
  simp only [Tlu.sample, hr, Nat.not_lt.mpr hw, ht, h, if_false]

end

end

/-- R128: a bit period in RECOVERING, and none elsewhere. -/
theorem Tlu.recoveringBit_eq (t : Tlu) (carrier : Bool) : t.recoveringBit carrier =
    if t.receiver = .recovering then
      if carrier then { t with silent := 0 }
      else if t.silent = 3 then { t with silent := 4, receiver := .hunting, run := 0 }
      else { t with silent := t.silent + 1 }
    else t := by
  cases h : t.receiver with
  | hunting => simp only [Tlu.recoveringBit, h, reduceCtorEq, if_false]
  | receiving => simp only [Tlu.recoveringBit, h, reduceCtorEq, if_false]
  | recovering => simp only [Tlu.recoveringBit, h, if_true, Nat.succ_inj]

/-- R128: in RECOVERING each sixteenth sample point is a bit period by its mid-sample. -/
theorem Tlu.sample_recovers {t : Tlu} {v : Bool} (hr : t.receiver = .recovering) (hw : t.wait ≤ 1) :
    let u := { t with run := carrierRun v t.run, wait := 16 }
    t.sample v = (if v then { u with silent := 0 }
      else if t.silent = 3 then { u with silent := 4, receiver := .hunting, run := 0 }
      else { u with silent := t.silent + 1 }, none) := by
  intro u
  have hmid : t.sample v = ({ ({ u with wait := t.wait - 1 } : Tlu).recoveringBit v with wait := 16 }, none) := by
    simp only [Tlu.sample, hr, Nat.not_lt.mpr hw, if_false, u]
  rw [hmid, Tlu.recoveringBit_eq, if_pos (by exact hr)]
  split_ifs <;> rfl

/-- R128: the burst's leading edge moves the next mid-sample by one point either way. -/
theorem nextMid_eq (v : Bool) (run : Nat) :
    nextMid v run = if v = false then 16 else if run = 0 then 17 else if run = 1 then 16 else 15 := by
  cases v with
  | false => rfl
  | true =>
    simp only [nextMid, if_true, Bool.true_eq_false, if_false]
    split_ifs <;> omega

/-- R131: only the count of the error's kind rises, and stays at 255. -/
theorem Tlu.countError_eq (k : RxError) (t : Tlu) : t.countError k = { t with
    checkCount := if k = .check then min 255 (t.checkCount + 1) else t.checkCount
    framingCount := if k = .framing then min 255 (t.framingCount + 1) else t.framingCount
    lengthCount := if k = .length then min 255 (t.lengthCount + 1) else t.lengthCount } := by
  cases k <;> rfl

section
variable {s : State} {v : Bool} {x : Tlu}

/-- R130, R131: a sample point replaces the receiver's place, and what came of it is delivered. -/
theorem State.sample_eq {o : Option Reception} (h : s.tlu.sample v = (x, o)) :
    s.sample v = ({ s with tlu := x } : State).deliver o := by
  simp only [State.sample, h, State.putTlu_nil]

theorem State.sample_quiet (h : s.tlu.sample v = (x, none)) : s.sample v = { s with tlu := x } :=
  State.sample_eq h

/-- R131: a telegram dropped is counted and noticed. -/
theorem State.sample_error {k : RxError} (h : s.tlu.sample v = (x, some (.error k))) : s.sample v =
    { s with tlu := x.countError k, handed := s.handed ++ [.noticeRaise .trackRxError] } :=
  State.sample_eq h

end

/-- Settles O38: one equation of the receiver for each state and each outcome of its tests. -/
theorem receiverCountsDroppedTelegramsAndRecoversInSilence :
    Obligations.ReceiverCountsDroppedTelegramsAndRecoversInSilence := by
  unfold Obligations.ReceiverCountsDroppedTelegramsAndRecoversInSilence
  refine ⟨fun heard s c hc => ?_, fun v s => ⟨fun hr => ⟨fun hv hrun => ?_, fun h => ?_⟩,
    fun hr => ⟨fun hw => ?_, fun hw r h hk => ?_, fun hw hno => ?_⟩,
    fun hr => ⟨fun hw => ?_, fun hw => ?_⟩⟩, fun carrier s => ?_⟩
  · simp only [List.mem_cons, List.not_mem_nil, or_false] at hc
    rcases hc with rfl | rfl | rfl <;> rfl
  · subst hv
    exact State.sample_quiet (Tlu.sample_begins hr hrun)
  · exact State.sample_quiet (Tlu.sample_hunts hr h)
  · exact State.sample_quiet (Tlu.sample_between (by simp [hr]) hw)
  · exact State.sample_eq (Tlu.sample_tested hr hw (tested_eq_some.mpr ⟨h, hk⟩))
  · have ht : tested s.tlu.bits = none := tested_eq_none.mpr hno
    refine ⟨fun r h hk => ?_, fun h => ?_, fun k h => ?_⟩
    · exact State.sample_quiet (Tlu.sample_whole hr hw ht h hk)
    · rw [← nextMid_eq]
      exact State.sample_quiet (Tlu.sample_goesOn hr hw ht h)
    · rw [State.sample_error (Tlu.sample_dropped hr hw ht h), Tlu.countError_eq]
      rfl
  · exact State.sample_quiet (Tlu.sample_between (by simp [hr]) hw)
  · exact State.sample_quiet (Tlu.sample_recovers hr hw)
  · show execReceiverRecoveringBit carrier s = _
    simp only [execReceiverRecoveringBit, State.putTlu_nil, Tlu.recoveringBit_eq]
    rfl

end Sys2Proof.Machine

namespace Sys2Proof.Machine

/-! ### The tests of a telegram (R129, R131) -/

/-- R129: the octets that the kind octet fixes, for the two kinds that travel toward the vehicle. -/
def octetsOf (kind : Byte) : Nat := if kind = 0x41 then 4 else 6

/-- R191: what the octets of a telegram of this kind say. -/
def fieldsOf (kind : Byte) : List Byte → Reception := if kind = 0x41 then beaconFields else pointFields

theorem fieldsOf_apply (kind : Byte) (octets : List Byte) :
    fieldsOf kind octets = if kind = 0x41 then beaconFields octets else pointFields octets := by
  rw [fieldsOf, ite_apply]

theorem kindLength_of_known {kind : Byte} (h : kind = 0x41 ∨ kind = 0x42) :
    kindLength kind = some (octetsOf kind) := by
  rcases h with rfl | rfl <;> rfl

theorem kindLength_of_unknown {kind : Byte} (h : ¬(kind = 0x41 ∨ kind = 0x42)) : kindLength kind = none := by
  obtain ⟨ha, hb⟩ := not_or.mp h
  simp only [kindLength, if_neg ha, if_neg hb]

section
variable {heard : List Bool}

theorem receive_noise (h0 : carrierAt heard 0 = false) : receive heard = .noise := by
  simp [receive, h0]

variable (h0 : carrierAt heard 0 = true)
include h0

theorem receive_startMissing (h1 : carrierAt heard 1 = false) : receive heard = .error .framing := by
  simp [receive, h0, h1]

variable (h1 : carrierAt heard 1 = true)
include h1

theorem receive_unknown (h : ¬(telegramOctet heard 0 = 0x41 ∨ telegramOctet heard 0 = 0x42)) :
    receive heard = .error .length := by
  obtain ⟨ha, hb⟩ := not_or.mp h
  simp only [receive, h0, h1, Bool.not_true, Bool.false_eq_true, if_false, if_neg ha, if_neg hb]

theorem receive_known (h : telegramOctet heard 0 = 0x41 ∨ telegramOctet heard 0 = 0x42) : receive heard =
    closeTelegram heard (octetsOf (telegramOctet heard 0)) (fieldsOf (telegramOctet heard 0)) := by
  rcases h with h | h
  · simp only [receive, h0, h1, h, Bool.not_true, Bool.false_eq_true, if_false, if_true]
    rfl
  · simp only [receive, h0, h1, h, Bool.not_true, Bool.false_eq_true, if_false, if_true]
    rfl

end

section
variable {heard : List Bool} {n : Nat} {whole : List Byte → Reception}

theorem closeTelegram_stopMissing (h : carrierAt heard (2 + 8 * n) = false) :
    closeTelegram heard n whole = .error .framing := by
  simp [closeTelegram, h]

variable (hstop : carrierAt heard (2 + 8 * n) = true)
include hstop

theorem closeTelegram_tooLong (h : carrierAt heard (3 + 8 * n) = true) :
    closeTelegram heard n whole = .error .length := by
  simp [closeTelegram, hstop, show 2 + 8 * n + 1 = 3 + 8 * n by omega, h]

/-- R129, R191: after the silent bit period the check octet decides. -/
theorem closeTelegram_checked (h : carrierAt heard (3 + 8 * n) = false) :
    let octets := (List.range n).map (telegramOctet heard)
    closeTelegram heard n whole =
      if crc8 octets.dropLast = octets.getLastD 0 then whole octets else .error .check := by
  simp [closeTelegram, hstop, show 2 + 8 * n + 1 = 3 + 8 * n by omega, h]

end

/-! ### The bit period that decides a test (R129, R131) -/

/-- R129, R131: the last of these bit periods fails its test, or is the silent one. -/
def Decided (bits : List Bool) : Prop :=
  (bits.length = 2 ∧ carrierAt bits 1 = false)
    ∨ (bits.length = 10 ∧ ¬(telegramOctet bits 0 = 0x41 ∨ telegramOctet bits 0 = 0x42))
    ∨ (bits.length = 3 + 8 * octetsOf (telegramOctet bits 0)
      ∧ carrierAt bits (2 + 8 * octetsOf (telegramOctet bits 0)) = false)
    ∨ bits.length = 4 + 8 * octetsOf (telegramOctet bits 0)

theorem le_octetsOf (kind : Byte) : 4 ≤ octetsOf kind := by
  unfold octetsOf
  split <;> decide

section
variable {bits : List Bool}

/-- The second bit period alone, which completes the start marker. -/
theorem received_two (h : bits.length = 2) :
    received bits = if carrierAt bits 1 then none else some (.error .framing) := by
  simp only [received, h, if_true]

theorem received_unknown (h2 : bits.length ≠ 2)
    (h : ¬(telegramOctet bits 0 = 0x41 ∨ telegramOctet bits 0 = 0x42)) :
    received bits = if bits.length = 10 then some (.error .length) else none := by
  simp only [received, if_neg h2, kindLength_of_unknown h]

theorem received_known (h2 : bits.length ≠ 2) (h : telegramOctet bits 0 = 0x41 ∨ telegramOctet bits 0 = 0x42) :
    let n := octetsOf (telegramOctet bits 0)
    received bits =
      if bits.length = 3 + 8 * n then (if carrierAt bits (2 + 8 * n) then none else some (.error .framing))
      else if bits.length = 4 + 8 * n then some (receive bits) else none := by
  simp only [received, if_neg h2, kindLength_of_known h]

/-- R129, R131: a test that fails, or the silent bit period, ends the telegram where no earlier test has failed. -/
theorem received_of_decided (h0 : carrierAt bits 0 = true) (h1 : 2 < bits.length → carrierAt bits 1 = true)
    (hknown : 10 < bits.length → telegramOctet bits 0 = 0x41 ∨ telegramOctet bits 0 = 0x42) (h : Decided bits) :
    received bits = some (receive bits) := by
  have hfour := le_octetsOf (telegramOctet bits 0)
  rcases h with ⟨hl, hc⟩ | ⟨hl, hk⟩ | ⟨hl, hc⟩ | hl
  · rw [received_two hl, hc, if_neg Bool.false_ne_true, receive_startMissing h0 hc]
  · rw [received_unknown (by omega) hk, if_pos hl, receive_unknown h0 (h1 (by omega)) hk]
  · have hk := hknown (by omega)
    rw [received_known (by omega) hk, if_pos hl, hc, if_neg Bool.false_ne_true,
      receive_known h0 (h1 (by omega)) hk, closeTelegram_stopMissing hc]
  · rw [received_known (by omega) (hknown (by omega)), if_neg (by omega), if_pos hl]

/-- R129: at every other bit period the telegram goes on. -/
theorem received_of_not_decided (h : ¬Decided bits) : received bits = none := by
  obtain ⟨hmarker, h⟩ := not_or.mp h
  obtain ⟨hkind, h⟩ := not_or.mp h
  obtain ⟨hstop, hend⟩ := not_or.mp h
  by_cases h2 : bits.length = 2
  · rw [received_two h2, if_pos (Bool.eq_true_of_not_eq_false fun hc => hmarker ⟨h2, hc⟩)]
  by_cases hk : telegramOctet bits 0 = 0x41 ∨ telegramOctet bits 0 = 0x42
  · rw [received_known h2 hk, if_neg hend]
    exact ite_eq_right_iff.mpr fun hl => if_pos (Bool.eq_true_of_not_eq_false fun hc => hstop ⟨hl, hc⟩)
  · rw [received_unknown h2 hk, if_neg fun hl => hkind ⟨hl, hk⟩]

end

/-! ### What a sender puts on the loop (R127, R129, R191) -/

/-- R191: eight bit periods are read into an octet as the loop's characters are, most significant bit first. -/
theorem telegramOctet_eq_foldl (heard : List Bool) (k : Nat) : telegramOctet heard k =
    ((List.range 8).map fun i => carrierAt heard (2 + 8 * k + i)).foldl shiftLevel 0 := by
  rw [List.foldl_map]
  rfl

theorem carrierAt_of_prefix {p l : List Bool} (h : p <+: l) {i : Nat} (hi : i < p.length) :
    carrierAt p i = carrierAt l i := by
  obtain ⟨rest, rfl⟩ := h
  exact (List.getD_append _ _ _ _ hi).symm

/-- An octet is read alike in whatever goes on after it. -/
theorem telegramOctet_of_prefix {p l : List Bool} (h : p <+: l) {k : Nat} (hk : 10 + 8 * k ≤ p.length) :
    telegramOctet p k = telegramOctet l k := by
  have hsame : ∀ i ∈ List.range 8, carrierAt p (2 + 8 * k + i) = carrierAt l (2 + 8 * k + i) := fun i hi =>
    carrierAt_of_prefix h (by have := List.mem_range.mp hi; omega)
  rw [telegramOctet_eq_foldl, telegramOctet_eq_foldl, List.map_congr_left hsame]

/-- R127: the bit periods of successive octets; a zero bit is a burst. -/
def octetPeriods (octets : List Byte) : List Bool := (octets.flatMap octetBits).map fun b => !b

theorem octetPeriods_cons (b : Byte) (l : List Byte) :
    octetPeriods (b :: l) = ((octetBits b).map fun b => !b) ++ octetPeriods l := by
  simp [octetPeriods]

@[simp] theorem length_octetBits (b : Byte) : (octetBits b).length = 8 := by simp [octetBits]

@[simp] theorem length_octetPeriods (octets : List Byte) : (octetPeriods octets).length = 8 * octets.length := by
  induction octets with
  | nil => rfl
  | cons b l ih => simp [octetPeriods_cons, ih]; omega

theorem telegramCarrier_eq (octets : List Byte) :
    telegramCarrier octets = true :: (true :: octetPeriods octets ++ [true]) ++ [false] := by
  simp [telegramCarrier, octetPeriods]

/-- R127: the bit periods after the start burst and before the silent one. -/
def middlePeriods (octets : List Byte) : List Bool := true :: octetPeriods octets ++ [true]

theorem length_middlePeriods (octets : List Byte) : (middlePeriods octets).length = 2 + 8 * octets.length := by
  simp [middlePeriods]
  omega

theorem telegramCarrier_eq_middle (octets : List Byte) :
    telegramCarrier octets = true :: middlePeriods octets ++ [false] := telegramCarrier_eq octets

theorem length_telegramCarrier (octets : List Byte) : (telegramCarrier octets).length = 4 + 8 * octets.length := by
  simp [telegramCarrier_eq]
  omega

/-- R191: octet `k` stands in the eight bit periods from `8 * k` on. -/
theorem carrierAt_octetPeriods {octets : List Byte} : ∀ {k : Nat} (hk : k < octets.length) {i : Nat}, i < 8 →
    carrierAt (octetPeriods octets) (8 * k + i) = !octets[k].getLsbD (7 - i) := by
  induction octets with
  | nil => intro k hk; exact absurd hk (Nat.not_lt_zero k)
  | cons b l ih =>
    intro k hk i hi
    rw [octetPeriods_cons, carrierAt]
    cases k with
    | zero =>
      rw [List.getD_append _ _ _ _ (by simp [hi])]
      simp [octetBits, hi]
    | succ k =>
      rw [List.getD_append_right _ _ _ _ (by simp; omega)]
      have hsub : 8 * (k + 1) + i - ((octetBits b).map fun b => !b).length = 8 * k + i := by simp; omega
      rw [hsub]
      exact ih (Nat.lt_of_succ_lt_succ hk) hi

section
variable (octets : List Byte)

/-- R129: the octets begin at the third bit period. -/
theorem carrierAt_telegramCarrier {j : Nat} (hj : j < 8 * octets.length) :
    carrierAt (telegramCarrier octets) (2 + j) = carrierAt (octetPeriods octets) j := by
  rw [telegramCarrier_eq, Nat.add_comm]
  show (octetPeriods octets ++ [true] ++ [false]).getD j false = _
  rw [List.append_assoc]
  exact List.getD_append _ _ _ _ (by simp [hj])

theorem carrierAt_telegramCarrier_stop : carrierAt (telegramCarrier octets) (2 + 8 * octets.length) = true := by
  rw [telegramCarrier_eq, Nat.add_comm]
  simp [carrierAt]

theorem carrierAt_telegramCarrier_silence :
    carrierAt (telegramCarrier octets) (3 + 8 * octets.length) = false := by
  rw [telegramCarrier_eq, Nat.add_comm]
  simp [carrierAt]

/-- R127, R191: each octet is read as it was sent. -/
theorem telegramOctet_telegramCarrier {k : Nat} (hk : k < octets.length) :
    telegramOctet (telegramCarrier octets) k = octets[k] := by
  have hbits : ((List.range 8).map fun i => carrierAt (telegramCarrier octets) (2 + 8 * k + i)) =
      (octetBits octets[k]).map fun b => !b := by
    rw [octetBits, List.map_map]
    refine List.map_congr_left fun i hi => ?_
    have hi8 : i < 8 := List.mem_range.mp hi
    rw [Nat.add_assoc, carrierAt_telegramCarrier octets (by omega), carrierAt_octetPeriods hk hi8]
    rfl
  rw [telegramOctet_eq_foldl, hbits, ← lineOctet_append (rest := []) (by simp), lineOctet_charLine]

theorem telegramOctets_telegramCarrier :
    (List.range octets.length).map (telegramOctet (telegramCarrier octets)) = octets := by
  refine List.ext_getElem (by simp) fun k _ hk => ?_
  simp [telegramOctet_telegramCarrier octets hk]

end

/-- R129: what is sent as a telegram: as many octets as its kind has, the check last. -/
structure Sendable (octets : List Byte) : Prop where
  kind : octets.getD 0 0 = 0x41 ∨ octets.getD 0 0 = 0x42
  whole : octets.length = octetsOf (octets.getD 0 0)
  check : crc8 octets.dropLast = octets.getLastD 0

section
variable {octets : List Byte} (h : Sendable octets)
include h

theorem Sendable.telegramOctet_zero : telegramOctet (telegramCarrier octets) 0 = octets.getD 0 0 := by
  have hpos : 0 < octets.length := by have := le_octetsOf (octets.getD 0 0); have := h.whole; omega
  rw [telegramOctet_telegramCarrier octets hpos]
  simp [hpos]

/-- R129, R191: a telegram sent meets every test. -/
theorem Sendable.receive_eq : receive (telegramCarrier octets) = fieldsOf (octets.getD 0 0) octets := by
  rw [receive_known rfl rfl (h.telegramOctet_zero ▸ h.kind), h.telegramOctet_zero, ← h.whole,
    closeTelegram_checked (carrierAt_telegramCarrier_stop octets) (carrierAt_telegramCarrier_silence octets),
    telegramOctets_telegramCarrier, if_pos h.check]

theorem Sendable.received_eq :
    received (telegramCarrier octets) = some (fieldsOf (octets.getD 0 0) octets) := by
  rw [received_of_decided rfl (fun _ => rfl) (fun _ => h.telegramOctet_zero ▸ h.kind), h.receive_eq]
  exact .inr (.inr (.inr (by rw [length_telegramCarrier, h.telegramOctet_zero, h.whole])))

/-- R129: until its silent bit period a telegram sent goes on. -/
theorem Sendable.received_prefix {p : List Bool} (hp : p <+: telegramCarrier octets)
    (hlen : p.length < 4 + 8 * octets.length) : received p = none := by
  have hfour := le_octetsOf (telegramOctet p 0)
  have hkind : 10 ≤ p.length → telegramOctet p 0 = octets.getD 0 0 := fun hl =>
    (telegramOctet_of_prefix hp hl).trans h.telegramOctet_zero
  refine received_of_not_decided ?_
  rintro (⟨hl, hc⟩ | ⟨hl, hk⟩ | ⟨hl, hc⟩ | hl)
  · rw [carrierAt_of_prefix hp (by omega)] at hc
    exact Bool.noConfusion hc
  · exact hk ((hkind (by omega)).symm ▸ h.kind)
  · rw [carrierAt_of_prefix hp (by omega), hkind (by omega), ← h.whole, carrierAt_telegramCarrier_stop] at hc
    exact Bool.noConfusion hc
  · rw [hkind (by omega), ← h.whole] at hl
    omega

end

/-! ### A telegram at successive sample points (R127, R128, log 17) -/

/-- R128: a receiver whose next bit period begins, with what it has read of the telegram so far. -/
def Tlu.atPeriod (t : Tlu) (bits : List Bool) : Tlu :=
  { t with receiver := .receiving, bits := bits, wait := 2, run := 0 }

section
variable {t : Tlu}

theorem receptions_cons {v : Bool} {x : Tlu} (h : t.sample v = (x, none)) (rest : List Bool) :
    receptions t (v :: rest) = receptions x rest := by
  rw [receptions, h]
  rfl

theorem tested_of_received_none {bits : List Bool} (h : received bits = none) : tested bits = none :=
  tested_eq_none.mpr fun r hr => by simp [h] at hr

/-- R128: the start burst begins a telegram at its second sample point. -/
theorem receptions_start (hr : t.receiver = .hunting) (hrun : t.run = 0) (rest : List Bool) :
    receptions t (bitSamples true ++ rest) = receptions (t.atPeriod [true]) rest := by
  simp [bitSamples, List.replicate, receptions, Tlu.sample, hr, hrun, carrierRun, Tlu.atPeriod]

/-- R128, R129: a bit period with which the telegram goes on. -/
theorem receptions_period {bits : List Bool} {v : Bool} (ht : received bits = none)
    (h : received (bits ++ [v]) = none) (rest : List Bool) :
    receptions (t.atPeriod bits) (bitSamples v ++ rest) = receptions (t.atPeriod (bits ++ [v])) rest := by
  cases v <;>
    simp [bitSamples, List.replicate, receptions, Tlu.sample, carrierRun, Tlu.atPeriod, tested, ht, h, nextMid]

/-- R129: the silent bit period delivers a telegram that meets every test, at its last sample point. -/
theorem receptions_silence {bits : List Bool} {r : Reception} (ht : received bits = none)
    (h : received (bits ++ [false]) = some r) (hk : ∀ k, r ≠ .error k) :
    receptions (t.atPeriod bits) (bitSamples false) = [r] := by
  have htested : tested (bits ++ [false]) = some r := tested_eq_some.mpr ⟨h, hk⟩
  calc receptions (t.atPeriod bits) (bitSamples false)
      = receptions { t.atPeriod bits with wait := 1 } (List.replicate 15 false) :=
        receptions_cons (Tlu.sample_between (by simp [Tlu.atPeriod]) (by simp [Tlu.atPeriod])) _
    _ = receptions { t.atPeriod (bits ++ [false]) with wait := 14 } (List.replicate 14 false) :=
        receptions_cons (Tlu.sample_whole rfl le_rfl (tested_of_received_none ht) h hk) _
    _ = [r] := by
      simp [List.replicate, receptions, Tlu.sample, Tlu.atPeriod, htested]

/-- Successive bit periods bring nothing while the telegram goes on. -/
theorem receptions_periods (l : List Bool) : ∀ bits : List Bool, (∀ p, p <+: l → received (bits ++ p) = none) →
    ∀ rest, receptions (t.atPeriod bits) (l.flatMap bitSamples ++ rest) =
      receptions (t.atPeriod (bits ++ l)) rest := by
  induction l with
  | nil => intro bits _ rest; simp
  | cons v l ih =>
    intro bits h rest
    have hnow : received bits = none := by simpa using h [] (List.nil_prefix)
    have hnext : ∀ p, p <+: l → received (bits ++ [v] ++ p) = none := fun p hp => by
      simpa using h (v :: p) (List.cons_prefix_cons.mpr ⟨rfl, hp⟩)
    have hv : received (bits ++ [v]) = none := by simpa using hnext [] List.nil_prefix
    rw [List.flatMap_cons, List.append_assoc, receptions_period hnow hv, ih _ hnext, List.append_assoc]
    rfl

end

theorem fieldsOf_ne_error (kind : Byte) (octets : List Byte) (k : RxError) : fieldsOf kind octets ≠ .error k := by
  rw [fieldsOf_apply]
  split <;> exact Reception.noConfusion

/-- R128, R129: a receiver in HUNTING delivers what was sent, at the end of its silent bit period, and nothing else. -/
theorem Sendable.receptions_eq {octets : List Byte} (h : Sendable octets) {t : Tlu} (hr : t.receiver = .hunting)
    (hrun : t.run = 0) : receptions t (telegramSamples octets) = [fieldsOf (octets.getD 0 0) octets] := by
  have hall := telegramCarrier_eq_middle octets
  have hgoes : ∀ p, p <+: middlePeriods octets → received ([true] ++ p) = none := fun p hp => by
    refine h.received_prefix ?_ ?_
    · rw [hall]
      exact (List.cons_prefix_cons.mpr ⟨rfl, hp⟩).trans (List.prefix_append _ _)
    · have hle := hp.length_le
      rw [length_middlePeriods] at hle
      rw [List.length_append, List.length_singleton]
      omega
  have hsilent : received ([true] ++ middlePeriods octets ++ [false]) = some (fieldsOf (octets.getD 0 0) octets) :=
    hall ▸ h.received_eq
  rw [telegramSamples, hall, List.cons_append, List.flatMap_cons, receptions_start hr hrun, List.flatMap_append,
    receptions_periods _ [true] hgoes]
  simpa using receptions_silence (t := t) (hgoes _ List.prefix_rfl) hsilent (fieldsOf_ne_error _ _)

/-! ### BEACON and POINT_STATE (R130, R191) -/

theorem sendable_beaconOctets (identity : BitVec 12) : Sendable (beaconOctets identity) where
  kind := .inl rfl
  whole := rfl
  check := rfl

theorem sendable_pointStateOctets (j code : Nat) (report : PointReport) (run : Nat) :
    Sendable (pointStateOctets j code report run) where
  kind := .inr rfl
  whole := rfl
  check := rfl

theorem fieldsOf_beaconOctets (identity : BitVec 12) :
    fieldsOf ((beaconOctets identity).getD 0 0) (beaconOctets identity) = .beacon identity := by
  have hid := identity.isLt
  have hbytes : identity.toNat / 256 % 256 * 256 + identity.toNat % 256 = identity.toNat := by omega
  show beaconFields (beaconOctets identity) = _
  simp [beaconFields, beaconOctets, putNat16, hbytes]

theorem pointReportList_codeIn (report : PointReport) :
    (pointReportList[(codeIn pointReportList report).toNat % 4]?).getD .setting = report := by
  cases report <;> rfl

theorem fieldsOf_pointStateOctets {j code run : Nat} (report : PointReport) (hj : j ≤ 4095) (hcode : code ≤ 7)
    (hrun : run ≤ 127) :
    fieldsOf ((pointStateOctets j code report run).getD 0 0) (pointStateOctets j code report run) =
      .pointState j code report run := by
  have hword : (j * 16 + code * 2) / 256 % 256 * 256 + (j * 16 + code * 2) % 256 = j * 16 + code * 2 := by omega
  have hjunction : (j * 16 + code * 2) / 16 = j := by omega
  have hcode' : (j * 16 + code * 2) / 2 % 8 = code := by omega
  have hrun' : run % 256 % 128 = run := by omega
  show pointFields (pointStateOctets j code report run) = _
  simp [pointFields, pointStateOctets, putNat16, putNat8, putEnum, pointReportList_codeIn, hword, hjunction, hcode',
    hrun']

/-- Settles O39: the tests case by case, and every telegram sent as one that meets them. -/
theorem telegramsAreTestedAndReceivedAsSent : Obligations.TelegramsAreTestedAndReceivedAsSent := by
  unfold Obligations.TelegramsAreTestedAndReceivedAsSent
  refine ⟨fun heard => ⟨receive_noise, receive_startMissing, fun h0 h1 => ⟨fun ha hb =>
      receive_unknown h0 h1 (not_or.mpr ⟨ha, hb⟩), fun hk => ⟨fun hs => ?_, fun hs he => ?_, fun hs he =>
      ⟨fun hc => ?_, fun hc => ?_⟩⟩⟩⟩,
    fun bits => ?_,
    ⟨fun identity => ?_, fun j code report run hj hcode hrun => ?_⟩,
    fun t hr hrun => ⟨fun identity => ?_, fun j code report run hj hcode hrn => ?_⟩⟩
  · exact (receive_known h0 h1 hk).trans (closeTelegram_stopMissing hs)
  · exact (receive_known h0 h1 hk).trans (closeTelegram_tooLong hs he)
  · exact ((receive_known h0 h1 hk).trans (closeTelegram_checked hs he)).trans (if_neg hc)
  · exact ((receive_known h0 h1 hk).trans (closeTelegram_checked hs he)).trans ((if_pos hc).trans (fieldsOf_apply _ _))
  · intro kind n known h0 h1 hk _ _
    split_ifs with h
    · exact received_of_decided h0 h1 hk h
    · exact received_of_not_decided h
  · exact (sendable_beaconOctets identity).receive_eq.trans (fieldsOf_beaconOctets identity)
  · exact (sendable_pointStateOctets j code report run).receive_eq.trans
      (fieldsOf_pointStateOctets report hj hcode hrun)
  · rw [(sendable_beaconOctets identity).receptions_eq hr hrun, fieldsOf_beaconOctets]
  · rw [(sendable_pointStateOctets j code report run).receptions_eq hr hrun,
      fieldsOf_pointStateOctets report hj hcode hrn]

end Sys2Proof.Machine

namespace Sys2Proof.Machine

/-! ### Platform zones (R152, R153) -/

section
variable {s : State}

/-- A row of the stop request unit that takes its event and stores what it writes, with no bad word. -/
theorem State.sruRow_of_bad_nil (hb : s.bad = []) (c : Instr) (reads written : StoreWord → Bool)
    (r : Sru × List Instr) : ((s.take c).sruEvent reads r).rewrite written = { s with
      sru := r.1
      handed := s.handed.erase c ++ r.2 } := by
  rw [State.sruEvent_of_bad_nil (s := s.take c) hb]
  exact State.rewrite_of_bad_nil { s with sru := r.1, handed := s.handed.erase c ++ r.2 } hb _

theorem exec_stopZoneEnter_of_bad_nil (hb : s.bad = []) (p : Nat) (mandatory : Bool) :
    exec (.stopZoneEnter p mandatory) s = .next { s with
      sru := (s.sru.zoneEnter s.dau.state s.settings p mandatory).1
      handed := s.handed.erase (.stopZoneEnter p mandatory)
        ++ (s.sru.zoneEnter s.dau.state s.settings p mandatory).2 } :=
  congrArg Host.Outcome.next (State.sruRow_of_bad_nil hb _ _ _ _)

theorem exec_stopZoneLeave_of_bad_nil (hb : s.bad = []) (p : Nat) :
    exec (.stopZoneLeave p) s = .next { s with
      sru := (s.sru.zoneLeave p).1
      handed := s.handed.erase (.stopZoneLeave p) ++ (s.sru.zoneLeave p).2 } :=
  congrArg Host.Outcome.next (State.sruRow_of_bad_nil hb _ _ _ _)

end

theorem latchSet_eq_decide (u : Sru) : latchSet u = decide (u.list ≠ []) := by
  unfold latchSet
  cases u.list <;> rfl

theorem stopMissed_iff {u : Sru} :
    stopMissed u = true ↔ u.decision = .stopAhead ∧ u.stoppedInZone = false ∧ u.list ≠ [] := by
  simp [stopMissed, latchSet_eq_decide, and_assoc]

/-- R153: a leave of the open zone's platform closes the zone. -/
theorem Sru.zoneLeave_of_open {u : Sru} {z : Zone} {p : Nat} (hz : u.zone = some z) (hp : z.platform = p) :
    u.zoneLeave p = ({ u with
      zone := none
      decision := .none
      stoppedInZone := false
      lastStop := if stopMissed u then some (.missed, p) else u.lastStop },
      if stopMissed u then [.noticeRaise .stopDecision] else []) := by
  simp only [Sru.zoneLeave, hz, hp, if_true]

/-- R153: any other leave is disregarded. -/
theorem Sru.zoneLeave_of_other {u : Sru} {p : Nat} (h : ∀ z, u.zone = some z → z.platform ≠ p) :
    u.zoneLeave p = (u, []) := by
  unfold Sru.zoneLeave
  cases hz : u.zone with
  | none => rfl
  | some z => exact if_neg (h z hz)

/-- Settles O41, row by row of the zone. -/
theorem zoneEnterDecidesAndZoneLeaveNotesAMissedStop :
    Obligations.ZoneEnterDecidesAndZoneLeaveNotesAMissedStop := by
  unfold Obligations.ZoneEnterDecidesAndZoneLeaveNotesAMissedStop
  intro p mandatory s hb u stops missed
  refine ⟨?_, fun z hz hp => ⟨fun hm => ?_, fun hm => ?_⟩, fun hother => ?_⟩
  · rw [exec_stopZoneEnter_of_bad_nil hb]
    simp only [Sru.zoneEnter, latchSet_eq_decide, stopBuzzer_eq, List.append_assoc, List.singleton_append, stops, u]
  · have hmissed : stopMissed s.sru = true := stopMissed_iff.mpr hm
    rw [exec_stopZoneLeave_of_bad_nil hb, Sru.zoneLeave_of_open hz hp]
    simp only [hmissed, if_true, u]
  · have hmissed : stopMissed s.sru = false := Bool.eq_false_iff.mpr (mt stopMissed_iff.mp hm)
    rw [exec_stopZoneLeave_of_bad_nil hb, Sru.zoneLeave_of_open hz hp]
    simp only [hmissed, Bool.false_eq_true, if_false, List.append_nil, u]
  · rw [exec_stopZoneLeave_of_bad_nil hb, Sru.zoneLeave_of_other hother]
    rw [List.append_nil]
    rfl

end Sys2Proof.Machine

namespace Sys2Proof.Machine

/-! ### The next poll (R143) -/

theorem lampCommand_eq (l : List StopEntry) : lampCommand l = lampFor l := by
  unfold lampCommand lampFor
  rw [holdsWheelchair_eq]
  cases l <;> simp

theorem pollLine_eq (q : Poll) : pollLine q = (pollOctets q).flatMap lineChar := by
  rw [pollLine, funext charLine_eq]

/-- R143: the poll of an address begins, with the acknowledge due of its station. -/
theorem Sru.beginPoll_eq (address : Nat) (u : Sru) :
    u.beginPoll address = u.polls address ((u.stations[address - 1]?.map (·.ackDue)).getD false) := by
  simp only [Sru.beginPoll, Sru.polls, composePoll, pollLine_eq, lampCommand_eq, stationAt]

theorem addressAfter_eq (cfg : Settings) (u : Sru) : addressAfter cfg u = nextAddress cfg u.address := by
  simp only [addressAfter, nextAddress, ← Nat.not_lt, ite_not]

/-! ### The polled station's entry at the end of a reply (R145, R146) -/

/-- R146: the unit with an entry of its station table written, and the last health event where there is one. -/
def Sru.withEntry (u : Sru) (i : Fin 24) (t : Station) (health : Option HealthEvent) : Sru :=
  { u with
    stations := u.stations.set i t
    lastHealth := health.elim u.lastHealth fun h => some (i.val + 1, h) }

/-- R146: the notice of a health event. -/
def healthNews (health : Option HealthEvent) : List Instr :=
  if health.isSome then [.noticeRaise .stationHealth] else []

/-- R146 step 4: the press of a good reply, at the unit whose entry is written. -/
def Sru.replyPressed (desk : DeskState) (cfg : Settings) (station : Nat) (r : Reply) (u : Sru) : Sru × List Instr :=
  if r.wheelchair then u.press desk cfg station .wheelchair
  else if r.stop then u.press desk cfg station .stop
  else (u, [])

section
variable {u : Sru} {i : Fin 24}

theorem stationAt_succ (u : Sru) (i : Fin 24) : stationAt u (i.val + 1) = some u.stations[i] :=
  Vector.getElem?_eq_getElem i.isLt

theorem putStation_succ (u : Sru) (i : Fin 24) (t : Station) :
    putStation u (i.val + 1) t = { u with stations := u.stations.set i t } :=
  dif_pos (show i.val + 1 - 1 < 24 from i.isLt)

theorem noteHealth_putStation (h : u.address = i.val + 1) (t : Station) (health : Option HealthEvent) :
    noteHealth (putStation u u.address t) health = (u.withEntry i t health, healthNews health) := by
  have hput : putStation u u.address t = { u with stations := u.stations.set i t } :=
    (congrArg (putStation u · t) h).trans (putStation_succ u i t)
  rw [hput]
  cases health with
  | none => rfl
  | some e => simp only [noteHealth, h, Sru.withEntry, healthNews, Option.elim_some, Option.isSome_some, if_true]

theorem Sru.press_address (desk : DeskState) (cfg : Settings) (station : Nat) (kind : StopKind) (u : Sru) :
    (u.press desk cfg station kind).1.address = u.address := by
  unfold Sru.press
  split
  · cases kind <;> rfl
  · dsimp only
    split
    · rfl
    · rw [Sru.pressed_eq]

theorem Sru.replyPressed_address (desk : DeskState) (cfg : Settings) (station : Nat) (r : Reply) (u : Sru) :
    (u.replyPressed desk cfg station r).1.address = u.address := by
  unfold Sru.replyPressed
  split
  · exact Sru.press_address ..
  · split
    · exact Sru.press_address ..
    · rfl

theorem latchReport_eq (x y : Sru) :
    latchReport x y = if x.list.isEmpty == y.list.isEmpty then [] else [.structuralChangeReport .stops] := by
  unfold latchReport latchSet
  cases x.list.isEmpty <;> cases y.list.isEmpty <;> rfl

/-- R146: a good reply: its entry and its health, and then its press. -/
theorem Sru.goodReply_eq (desk : DeskState) (cfg : Settings) (r : Reply) (h : u.address = i.val + 1) :
    let health := goodHealth r u.stations[i]
    let q := (u.withEntry i ⟨.present, 0, r.fault, true⟩ health).replyPressed desk cfg (i.val + 1) r
    u.goodReply desk cfg r = (q.1, healthNews health ++ latchReport u q.1 ++ q.2) := by
  intro health q
  have hat : stationAt u u.address = some u.stations[i] := h ▸ stationAt_succ u i
  simp only [Sru.goodReply, hat, noteHealth_putStation h, stationGood]
  simp only [replyPress, q, Sru.replyPressed, h]
  cases r.wheelchair with
  | true => rfl
  | false =>
    cases r.stop with
    | true => rfl
    | false =>
      have hself : latchReport u (u.withEntry i ⟨.present, 0, r.fault, true⟩ health) = [] := if_pos rfl
      simp only [Bool.false_eq_true, if_false, hself, List.append_nil]
      rfl

theorem Sru.badReply_eq (h : u.address = i.val + 1) :
    u.badReply = (u.withEntry i (stationBad u.stations[i]) (badHealth u.stations[i]),
      healthNews (badHealth u.stations[i])) := by
  have hat : stationAt u u.address = some u.stations[i] := h ▸ stationAt_succ u i
  simp only [Sru.badReply, hat, noteHealth_putStation h]

end

/-- R146: an entry is ABSENT from its third miss on. -/
theorem stationBad_eq (t : Station) :
    stationBad t = ⟨if min 3 (t.misses + 1) = 3 then .absent else .suspect, min 3 (t.misses + 1), t.fault, false⟩ := by
  have hiff : 3 ≤ min 3 (t.misses + 1) ↔ min 3 (t.misses + 1) = 3 := by omega
  simp only [stationBad, missedHealth, hiff]

theorem badHealth_eq (t : Station) :
    badHealth t = if min 3 (t.misses + 1) = 3 ∧ t.health ≠ .absent then some .absent else none := by
  have hiff : (stationBad t).health = .absent ↔ min 3 (t.misses + 1) = 3 := by
    rw [stationBad_eq]
    by_cases hm : min 3 (t.misses + 1) = 3 <;> simp [hm]
  simp only [badHealth, hiff]

theorem goodHealth_eq (r : Reply) (t : Station) :
    goodHealth r t = if r.fault ≠ t.fault then some (if r.fault then .faultSet else .faultCleared)
      else if t.health = .absent then some .recovered else none := by
  rw [goodHealth, ite_not]

/-! ### The end of a reply at the state (R143 to R146) -/

/-- The unit at its next poll, after that of station `address`. -/
def Sru.pollsAfter (u : Sru) (cfg : Settings) (address : Nat) : Sru :=
  u.polls (nextAddress cfg address) ((u.stations[nextAddress cfg address - 1]?.map (·.ackDue)).getD false)

section
variable {s : State} {w : Sru} {i : Fin 24}

theorem Sru.nextPoll_eq (cfg : Settings) {u : Sru} {address : Nat} (h : u.address = address) :
    u.nextPoll cfg = u.pollsAfter cfg address := by
  rw [Sru.nextPoll, Sru.beginPoll_eq, addressAfter_eq, h, Sru.pollsAfter]

theorem Sru.replyEnds_good (desk : DeskState) (cfg : Settings) (r : Reply) (h : w.address = i.val + 1) :
    let health := goodHealth r w.stations[i]
    let q := (w.withEntry i ⟨.present, 0, r.fault, true⟩ health).replyPressed desk cfg (i.val + 1) r
    w.replyEnds desk cfg (.good r) =
      (q.1.pollsAfter cfg (i.val + 1), healthNews health ++ latchReport w q.1 ++ q.2) := by
  intro health q
  have hq : q.1.address = i.val + 1 := (Sru.replyPressed_address ..).trans h
  simp only [Sru.replyEnds, Sru.goodReply_eq desk cfg r h]
  rw [Sru.nextPoll_eq cfg hq]

theorem Sru.replyEnds_bad (desk : DeskState) (cfg : Settings) (h : w.address = i.val + 1) :
    w.replyEnds desk cfg .bad =
      ((w.withEntry i (stationBad w.stations[i]) (badHealth w.stations[i])).pollsAfter cfg (i.val + 1),
        healthNews (badHealth w.stations[i])) := by
  simp only [Sru.replyEnds, Sru.badReply_eq h]
  rw [Sru.nextPoll_eq cfg (show (w.withEntry i _ _).address = _ from h)]

theorem State.endReply_of_bad_nil (hb : s.bad = []) (e : ReplyEnd) : s.endReply e = { s with
    sru := (s.sru.replyEnds s.dau.state s.settings e).1
    handed := s.handed ++ (s.sru.replyEnds s.dau.state s.settings e).2 } := by
  rw [State.endReply, State.sruEvent_of_bad_nil hb]
  exact State.rewrite_of_bad_nil { s with
    sru := (s.sru.replyEnds s.dau.state s.settings e).1
    handed := s.handed ++ (s.sru.replyEnds s.dau.state s.settings e).2 } hb _

/-- The rows of the loop are sample points, whatever their name (log 18): one that ends the reply. -/
theorem exec_reply_ended {v : Bool} {e : ReplyEnd} {c : Instr} (hb : s.bad = [])
    (h : s.sru.lineSample v = (w, some e)) (hc : c ∈ [Instr.goodReply [v], .badReply [v]]) :
    exec c s = .next { s with
      sru := (w.replyEnds s.dau.state s.settings e).1
      handed := s.handed.erase c ++ (w.replyEnds s.dau.state s.settings e).2 } := by
  have hrow : exec c s = .next ((s.take c).loopSample v) := by
    rcases List.mem_pair.mp hc with rfl | rfl <;> rfl
  have hsample : (s.take c).loopSample v = ({ s.take c with sru := w } : State).endReply e := by
    rw [State.loopSample, State.take_sru, h]
    exact congrArg (·.endReply e) ((State.putSru_of_bad_nil (s := s.take c) hb w []).trans (by rw [List.append_nil]))
  rw [hrow, hsample, State.endReply_of_bad_nil (s := { s.take c with sru := w }) hb]
  rfl

/-- R144: the reply timer expires, or is stopped and does not. -/
theorem exec_badReply_nil_running (hb : s.bad = []) (h : s.sru.replyTimer ≠ none) : exec (.badReply []) s = .next { s with
    sru := (s.sru.replyEnds s.dau.state s.settings .bad).1
    handed := s.handed.erase (.badReply []) ++ (s.sru.replyEnds s.dau.state s.settings .bad).2 } := by
  obtain ⟨n, hn⟩ := Option.ne_none_iff_exists'.mp h
  have hexpiry : (s.take (.badReply [])).replyTimerExpiry = (s.take (.badReply [])).endReply .bad := by
    simp only [State.replyTimerExpiry, State.take_sru, hn]
  exact congrArg Host.Outcome.next (hexpiry.trans (State.endReply_of_bad_nil (s := s.take _) hb .bad))

theorem exec_badReply_nil_stopped (h : s.sru.replyTimer = none) :
    exec (.badReply []) s = .next (s.take (.badReply [])) := by
  refine congrArg Host.Outcome.next ?_
  simp only [State.replyTimerExpiry, State.take_sru, h]

end

/-- Settles O43: the row comes to the end of a reply, and that to the entry, the health, the press and the next poll. -/
theorem goodAndBadRepliesUpdateTheStation : Obligations.GoodAndBadRepliesUpdateTheStation := by
  unfold Obligations.GoodAndBadRepliesUpdateTheStation
  refine ⟨fun i v w r s hb hsample haddr _ c hc => ?_, fun i s hb _ => ?_, fun s h => exec_badReply_nil_stopped h⟩
  · rw [exec_reply_ended hb hsample hc, Sru.replyEnds_good _ _ _ haddr]
    intro t health u q next
    rw [show goodHealth r w.stations[i] = health from goodHealth_eq r t]
    clear_value health
    simp only [latchReport_eq, ← List.append_assoc]
    cases health with
    | none => rfl
    | some e => rfl
  · intro missed
    have hmissed : ∀ (w : Sru) (c : Instr), w.address = i.val + 1 →
        .next { s with
          sru := (w.replyEnds s.dau.state s.settings .bad).1
          handed := s.handed.erase c ++ (w.replyEnds s.dau.state s.settings .bad).2 } = missed w c := by
      intro w c haddr
      rw [Sru.replyEnds_bad _ _ haddr, stationBad_eq, badHealth_eq]
      by_cases hgone : min 3 (w.stations[i].misses + 1) = 3 ∧ w.stations[i].health ≠ .absent
      · simp only [missed, if_pos hgone]
        rfl
      · simp only [missed, if_neg hgone]
        rfl
    exact ⟨fun v w hsample haddr c hc => (exec_reply_ended hb hsample hc).trans (hmissed w c haddr),
      fun ht haddr => (exec_badReply_nil_running hb ht).trans (hmissed s.sru _ haddr)⟩

end Sys2Proof.Machine

namespace Sys2Proof.Machine

/-! ### The requests and the player of one sounder (R158, R168) -/

/-- The requests of the list for a sounder, oldest first. -/
def requestsFor (u : Sdu) (snd : Sounder) : List SoundRequest := u.requests.filter fun q => q.sounder == snd

section
variable {u v w : Sdu} {snd : Sounder} {q : SoundRequest}

theorem mem_requestsFor : q ∈ requestsFor u snd ↔ q ∈ u.requests ∧ q.sounder = snd := by
  simp [requestsFor]

/-- A request is found among those for its sounder. -/
theorem findRequest_eq_requestsFor (src : SoundSource) :
    findRequest u.requests src snd = (requestsFor u snd).find? fun q => q.source == src := by
  simp only [findRequest, requestsFor, List.find?_filter]
  congr 1
  funext x
  cases x.source == src <;> cases x.sounder == snd <;> rfl

theorem findRequest_key {l : List SoundRequest} {src : SoundSource} (h : findRequest l src snd = some q) :
    q ∈ l ∧ q.source = src ∧ q.sounder = snd :=
  ⟨List.mem_of_find?_eq_some h, by simpa using List.find?_some h⟩

theorem playingRequest_some (h : playingRequest u snd = some q) :
    (player u snd).playing = some q.source ∧ q ∈ u.requests ∧ q.sounder = snd := by
  obtain ⟨src, hsrc, hfind⟩ := Option.bind_eq_some_iff.mp h
  obtain ⟨hmem, rfl, hsnd⟩ := findRequest_key hfind
  exact ⟨hsrc, hmem, hsnd⟩

theorem playingRequest_of_find {src : SoundSource} (hp : (player u snd).playing = some src)
    (hf : findRequest u.requests src snd = some q) : playingRequest u snd = some q := by
  rw [playingRequest, hp, Option.bind_some, hf]

theorem playingRequest_of_idle (h : (player u snd).playing = none) : playingRequest u snd = none := by
  rw [playingRequest, h, Option.bind_none]

theorem playingRequest_congr (hr : requestsFor v snd = requestsFor u snd)
    (hp : (player v snd).playing = (player u snd).playing) : playingRequest v snd = playingRequest u snd := by
  simp only [playingRequest, hp, findRequest_eq_requestsFor, hr]

/-- R168: a sounder plays a request of the highest priority, or it is idle and has none. -/
theorem outranked_iff : Outranked u snd ↔
    ((player u snd).playing = none ∧ requestsFor u snd = []) ∨
      ∃ q, playingRequest u snd = some q ∧ ∀ x ∈ requestsFor u snd, x.priority ≤ q.priority := by
  have hnil : requestsFor u snd = [] ↔ ∀ x ∈ u.requests, x.sounder ≠ snd := by
    simp [requestsFor, List.filter_eq_nil_iff]
  have hall : ∀ n, (∀ x ∈ requestsFor u snd, x.priority ≤ n) ↔ ∀ x ∈ u.requests, x.sounder = snd → x.priority ≤ n := by
    intro n
    simp only [mem_requestsFor, and_imp]
  unfold Outranked
  rw [hnil]
  cases h : playingRequest u snd with
  | none => simp
  | some q =>
    have hplays : (player u snd).playing ≠ none := by simp [(playingRequest_some h).1]
    simp [hplays, hall]

/-- R168: the law at a sounder speaks of its requests and of what its player plays alone. -/
theorem Outranked.of_same (h : Outranked u snd) (hr : requestsFor v snd = requestsFor u snd)
    (hp : (player v snd).playing = (player u snd).playing) : Outranked v snd := by
  rw [outranked_iff] at h ⊢
  rwa [hr, hp, playingRequest_congr hr hp]

/-! #### The frame of an event at one sounder -/

/-- What an event at a sounder leaves: the patterns and the last sound event, and at every other sounder the requests
and the player; a request that stays, stays with its pattern. -/
structure AtSounder (snd : Sounder) (u v : Sdu) : Prop where
  patterns : v.patterns = u.patterns
  lastEvent : v.lastEvent = u.lastEvent
  named : ∀ q ∈ v.requests, ∃ x ∈ u.requests, x.pattern = q.pattern
  requests : ∀ x, x ≠ snd → requestsFor v x = requestsFor u x
  players : ∀ x, x ≠ snd → player v x = player u x

theorem AtSounder.refl (snd : Sounder) (u : Sdu) : AtSounder snd u u :=
  ⟨rfl, rfl, fun q hq => ⟨q, hq, rfl⟩, fun _ _ => rfl, fun _ _ => rfl⟩

theorem AtSounder.trans (h : AtSounder snd u v) (g : AtSounder snd v w) : AtSounder snd u w where
  patterns := g.patterns.trans h.patterns
  lastEvent := g.lastEvent.trans h.lastEvent
  named := fun q hq => by
    obtain ⟨x, hx, hpx⟩ := g.named q hq
    obtain ⟨y, hy, hpy⟩ := h.named x hx
    exact ⟨y, hy, hpy.trans hpx⟩
  requests := fun x hx => (g.requests x hx).trans (h.requests x hx)
  players := fun x hx => (g.players x hx).trans (h.players x hx)

/-- R168: the law at every other sounder stays. -/
theorem AtSounder.plays (h : AtSounder snd u v) (hu : SoundPlays u) : SoundPlays v := by
  obtain ⟨hlen, hsome, hnames⟩ := hu
  refine ⟨by rwa [h.patterns], by rwa [h.patterns], fun q hq => ?_⟩
  obtain ⟨x, hx, hp⟩ := h.named q hq
  simp only [h.patterns, ← hp]
  exact hnames x hx

theorem setPlayer_at (p : Player) : AtSounder snd u (setPlayer u snd p) :=
  ⟨rfl, rfl, fun q hq => ⟨q, hq, rfl⟩, fun _ _ => rfl, fun _ hx => player_setPlayer_other u snd p hx⟩

/-- A request for a sounder leaves the list. -/
theorem dropRequest_at (src : SoundSource) :
    AtSounder snd u { u with requests := dropRequest u.requests src snd } where
  patterns := rfl
  lastEvent := rfl
  named := fun q hq => ⟨q, List.mem_of_mem_filter hq, rfl⟩
  requests := fun x hx => by
    simp only [requestsFor, dropRequest, List.filter_filter]
    refine List.filter_congr fun y _ => ?_
    by_cases hy : y.sounder = x
    · have : y.sounder ≠ snd := fun e => hx (hy.symm.trans e)
      simp [isRequest, this]
    · simp [hy]
  players := fun _ _ => rfl

/-- R160: a request with its repeats counted, where it is the one that plays. -/
def counted (q : SoundRequest) (n : Nat) (x : SoundRequest) : SoundRequest :=
  if isRequest q.source q.sounder x then { x with repeats := some (n - 1) } else x

theorem countRepeat_eq (n : Nat) : countRepeat u q n = { u with requests := u.requests.map (counted q n) } := rfl

/-- The count changes nothing of a request but its repeats. -/
theorem counted_same (q : SoundRequest) (n : Nat) (x : SoundRequest) : (counted q n x).source = x.source ∧
    (counted q n x).sounder = x.sounder ∧ (counted q n x).pattern = x.pattern ∧
    (counted q n x).priority = x.priority := by
  unfold counted
  split <;> exact ⟨rfl, rfl, rfl, rfl⟩

@[simp] theorem counted_source (n : Nat) (x : SoundRequest) : (counted q n x).source = x.source := (counted_same q n x).1

@[simp] theorem counted_sounder (n : Nat) (x : SoundRequest) : (counted q n x).sounder = x.sounder :=
  (counted_same q n x).2.1

@[simp] theorem counted_pattern (n : Nat) (x : SoundRequest) : (counted q n x).pattern = x.pattern :=
  (counted_same q n x).2.2.1

@[simp] theorem counted_priority (n : Nat) (x : SoundRequest) : (counted q n x).priority = x.priority :=
  (counted_same q n x).2.2.2

theorem counted_other {n : Nat} {x : SoundRequest} (h : x.sounder ≠ q.sounder) : counted q n x = x := by
  simp [counted, isRequest, h]

@[simp] theorem counted_self (q : SoundRequest) (n : Nat) : counted q n q = { q with repeats := some (n - 1) } := by
  simp [counted, isRequest]

theorem countRepeat_at (n : Nat) : AtSounder q.sounder u (countRepeat u q n) where
  patterns := rfl
  lastEvent := rfl
  named := fun x hx => by
    obtain ⟨y, hy, rfl⟩ := List.mem_map.mp hx
    exact ⟨y, hy, (counted_pattern n y).symm⟩
  requests := fun x hx => by
    simp only [requestsFor, countRepeat_eq, List.filter_map, Function.comp_def, counted_sounder]
    refine (List.map_congr_left fun y hy => counted_other ?_).trans (List.map_id' _)
    have hy : y.sounder = x := by simpa using (List.mem_filter.mp hy).2
    exact hy ▸ hx
  players := fun _ _ => rfl

theorem begin_at (cfg : Settings) : AtSounder q.sounder u (u.begin cfg q) := setPlayer_at _

/-! #### A freed sounder (R168) -/

/-- A request that begins leaves nothing of what its sounder's player held. -/
theorem begin_setPlayer (cfg : Settings) (p : Player) : (setPlayer u q.sounder p).begin cfg q = u.begin cfg q := by
  simp only [Sdu.begin, enterPhase, setPlayer_setPlayer]
  rfl

theorem next_of_some {cfg : Settings} (h : chooseNext cfg.tieModes[sounderIndex snd] (player u snd).lastSource
    (requestsFor u snd) = some q) : u.next cfg snd = u.begin cfg q := by
  obtain rfl : q.sounder = snd := (mem_requestsFor.mp (chooseNext_some h).1).2
  have h' : chooseNext cfg.tieModes[sounderIndex q.sounder]
      (player (setPlayer u q.sounder (idlePlayer (player u q.sounder))) q.sounder).lastSource
      ((setPlayer u q.sounder (idlePlayer (player u q.sounder))).requests.filter fun x => x.sounder == q.sounder) =
      some q := by
    rw [player_setPlayer_same]
    exact h
  simp only [Sdu.next, h']
  exact begin_setPlayer cfg _

theorem chooseNext_nil (tie : TieMode) (last : Option SoundSource) : chooseNext tie last [] = none := by
  cases tie <;> rfl

theorem next_of_nil (cfg : Settings) (h : requestsFor u snd = []) :
    u.next cfg snd = setPlayer u snd (idlePlayer (player u snd)) := by
  have h' : ((setPlayer u snd (idlePlayer (player u snd))).requests.filter fun q => q.sounder == snd) = [] := h
  simp only [Sdu.next, h', chooseNext_nil]

/-- R168: the arbiter takes a request of the highest priority, or there is none for the sounder. -/
theorem next_cases (cfg : Settings) (u : Sdu) (snd : Sounder) :
    (requestsFor u snd = [] ∧ u.next cfg snd = setPlayer u snd (idlePlayer (player u snd))) ∨
      ∃ q ∈ requestsFor u snd, (∀ x ∈ requestsFor u snd, x.priority ≤ q.priority) ∧ u.next cfg snd = u.begin cfg q := by
  cases h : chooseNext cfg.tieModes[sounderIndex snd] (player u snd).lastSource (requestsFor u snd) with
  | none => exact .inl ⟨chooseNext_none h, next_of_nil cfg (chooseNext_none h)⟩
  | some q => exact .inr ⟨q, (chooseNext_some h).1, (chooseNext_some h).2, next_of_some h⟩

theorem next_at (cfg : Settings) : AtSounder snd u (u.next cfg snd) := by
  rcases next_cases cfg u snd with ⟨-, h⟩ | ⟨q, hq, -, h⟩
  · exact h ▸ setPlayer_at _
  · obtain ⟨-, rfl⟩ := mem_requestsFor.mp hq
    exact h ▸ begin_at cfg

/-- The request that a sounder plays once it has begun. -/
theorem playingRequest_begin (cfg : Settings) (hok : RequestsOk u) (hq : q ∈ u.requests) :
    playingRequest (u.begin cfg q) q.sounder = some q :=
  playingRequest_of_find (by rw [Sdu.begin, player_setPlayer_same]; rfl) (findRequest_of_mem hok.2 hq)

/-- R168: a request of the highest priority plays. -/
theorem begin_outranked (cfg : Settings) (hok : RequestsOk u) (hq : q ∈ u.requests)
    (htop : ∀ x ∈ requestsFor u q.sounder, x.priority ≤ q.priority) : Outranked (u.begin cfg q) q.sounder :=
  outranked_iff.mpr (.inr ⟨q, playingRequest_begin cfg hok hq, htop⟩)

theorem next_outranked (cfg : Settings) (hok : RequestsOk u) : Outranked (u.next cfg snd) snd := by
  rcases next_cases cfg u snd with ⟨hnil, h⟩ | ⟨q, hq, htop, h⟩
  · rw [h]
    exact outranked_iff.mpr (.inl ⟨by rw [player_setPlayer_same]; rfl, hnil⟩)
  · obtain ⟨hmem, rfl⟩ := mem_requestsFor.mp hq
    exact h ▸ begin_outranked cfg hok hmem htop

end

end Sys2Proof.Machine

namespace Sys2Proof.Machine

/-! ### The phases of a sounder (R160) -/

/-- R160: the sounder of a request enters a phase of the request's pattern. -/
def Sdu.enter (cfg : Settings) (q : SoundRequest) (u : Sdu) (k : Nat) (ph : Phase) : Sdu :=
  setPlayer u q.sounder (enterPhase cfg q.sounder u.patterns[q.pattern] k ph (player u q.sounder))

section
variable {cfg : Settings} {u : Sdu} {q : SoundRequest}

/-! #### One row of the table -/

theorem endPhase_again (h : (player u q.sounder).phase = .off)
    (hk : u.patterns[q.pattern].steps.length ≤ (player u q.sounder).step) (hr : q.repeats = none) :
    u.endPhase cfg q = (u.enter cfg q 1 .on, []) := by
  simp only [Sdu.endPhase, h, hr]
  exact if_neg (Nat.not_lt.mpr hk)

theorem endPhase_repeat {n : Nat} (h : (player u q.sounder).phase = .off)
    (hk : u.patterns[q.pattern].steps.length ≤ (player u q.sounder).step) (hr : q.repeats = some n) (hn : 1 < n) :
    u.endPhase cfg q = ((countRepeat u q n).enter cfg q 1 .on, []) := by
  simp only [Sdu.endPhase, h, hr]
  exact (if_neg (Nat.not_lt.mpr hk)).trans (if_neg (Nat.not_le.mpr hn))

theorem endPhase_finish {n : Nat} (h : (player u q.sounder).phase = .off)
    (hk : u.patterns[q.pattern].steps.length ≤ (player u q.sounder).step) (hr : q.repeats = some n) (hn : n ≤ 1) :
    u.endPhase cfg q =
      (({ u with requests := dropRequest u.requests q.source q.sounder } : Sdu).next cfg q.sounder,
        [.structuralChangeReport .sound]) := by
  simp only [Sdu.endPhase, h, hr]
  exact (if_neg (Nat.not_lt.mpr hk)).trans (if_pos hn)

/-- The phase that follows a phase in the same pass through the pattern. -/
inductive PassesTo (pat : Pattern) : Nat → Phase → Nat → Phase → Prop
  | toOff (k : Nat) : PassesTo pat k .on k .off
  | toOn (k : Nat) (h : k < pat.steps.length) : PassesTo pat k .off (k + 1) .on

/-- R160: what the end of a phase can come to: the next phase of the pass, a further pass, or the end of the request. -/
theorem endPhase_cases (cfg : Settings) (u : Sdu) (q : SoundRequest) :
    (∃ k ph, PassesTo u.patterns[q.pattern] (player u q.sounder).step (player u q.sounder).phase k ph ∧
      u.endPhase cfg q = (u.enter cfg q k ph, [])) ∨
    ((player u q.sounder).phase = .off ∧ u.patterns[q.pattern].steps.length ≤ (player u q.sounder).step ∧
      (u.endPhase cfg q = (u.enter cfg q 1 .on, []) ∨
        (∃ n, u.endPhase cfg q = ((countRepeat u q n).enter cfg q 1 .on, [])) ∨
        u.endPhase cfg q =
          (({ u with requests := dropRequest u.requests q.source q.sounder } : Sdu).next cfg q.sounder,
            [.structuralChangeReport .sound]))) := by
  cases h : (player u q.sounder).phase with
  | on => exact .inl ⟨_, _, .toOff _, endPhase_on h⟩
  | off =>
    by_cases hk : (player u q.sounder).step < u.patterns[q.pattern].steps.length
    · exact .inl ⟨_, _, .toOn _ hk, endPhase_off h hk⟩
    · have hlast := Nat.not_lt.mp hk
      refine .inr ⟨rfl, hlast, ?_⟩
      cases hr : q.repeats with
      | none => exact .inl (endPhase_again h hlast hr)
      | some n =>
        by_cases hn : n ≤ 1
        · exact .inr (.inr (endPhase_finish h hlast hr hn))
        · exact .inr (.inl ⟨n, endPhase_repeat h hlast hr (Nat.not_le.mp hn)⟩)

/-! #### What the end of a phase keeps -/

theorem enter_at (cfg : Settings) (u : Sdu) (q : SoundRequest) (k : Nat) (ph : Phase) :
    AtSounder q.sounder u (u.enter cfg q k ph) := setPlayer_at _

theorem endPhase_at (cfg : Settings) (u : Sdu) (q : SoundRequest) : AtSounder q.sounder u (u.endPhase cfg q).1 := by
  rcases endPhase_cases cfg u q with ⟨k, ph, -, h⟩ | ⟨-, -, h | ⟨n, h⟩ | h⟩
  · exact h ▸ enter_at cfg u q k ph
  · exact h ▸ enter_at cfg u q 1 .on
  · exact h ▸ (countRepeat_at n).trans (enter_at cfg _ q 1 .on)
  · exact h ▸ (dropRequest_at q.source).trans (next_at cfg)

theorem enter_playing (u : Sdu) (k : Nat) (ph : Phase) :
    (player (u.enter cfg q k ph) q.sounder).playing = (player u q.sounder).playing := by
  rw [Sdu.enter, player_setPlayer_same]
  rfl

theorem enter_outranked {k : Nat} {ph : Phase} (h : Outranked u q.sounder) :
    Outranked (u.enter cfg q k ph) q.sounder := h.of_same rfl (enter_playing u k ph)

/-- R160: with its repeats counted the playing request is the same but for them. -/
theorem playingRequest_countRepeat (n : Nat) (h : playingRequest u q.sounder = some q) :
    playingRequest (countRepeat u q n) q.sounder = some { q with repeats := some (n - 1) } := by
  refine playingRequest_of_find (src := q.source) (playingRequest_some h).1 ?_
  have hfind : findRequest u.requests q.source q.sounder = some q := by
    rwa [playingRequest, (playingRequest_some h).1, Option.bind_some] at h
  have hmap : findRequest (u.requests.map (counted q n)) q.source q.sounder =
      (findRequest u.requests q.source q.sounder).map (counted q n) := by
    simp only [findRequest, List.find?_map, Function.comp_def, counted_source, counted_sounder]
  rw [countRepeat_eq, hmap, hfind, Option.map_some, counted_self]

theorem countRepeat_outranked {n : Nat} (h : playingRequest u q.sounder = some q) (ho : Outranked u q.sounder) :
    Outranked (countRepeat u q n) q.sounder := by
  refine outranked_of_playing (playingRequest_countRepeat n h) fun x hx hsnd => ?_
  obtain ⟨y, hy, rfl⟩ := List.mem_map.mp hx
  rw [Outranked, h] at ho
  exact (counted_priority n y).le.trans (ho y hy ((counted_sounder n y).symm.trans hsnd))

theorem dropRequest_ok (hok : RequestsOk u) (src : SoundSource) (snd : Sounder) :
    RequestsOk { u with requests := dropRequest u.requests src snd } := hok.shrinks (dropRequest_shrinks src snd u)

theorem endPhase_outranked (hok : RequestsOk u) (hq : playingRequest u q.sounder = some q)
    (ho : Outranked u q.sounder) : Outranked (u.endPhase cfg q).1 q.sounder := by
  rcases endPhase_cases cfg u q with ⟨k, ph, -, h⟩ | ⟨-, -, h | ⟨n, h⟩ | h⟩
  · exact h ▸ enter_outranked ho
  · exact h ▸ enter_outranked ho
  · exact h ▸ enter_outranked (countRepeat_outranked hq ho)
  · exact h ▸ next_outranked cfg (dropRequest_ok hok _ _)

/-! #### Phases that pass at once -/

theorem passZero_timed {snd : Sounder} (n : Nat) (h : (player u snd).timer ≠ none) :
    u.passZero cfg snd n = (u, []) := by
  obtain ⟨t, ht⟩ := Option.ne_none_iff_exists'.mp h
  cases n with
  | zero => rfl
  | succ n =>
    simp only [Sdu.passZero, ht]
    cases playingRequest u snd <;> rfl

theorem passZero_silent {snd : Sounder} (n : Nat) (h : playingRequest u snd = none) :
    u.passZero cfg snd n = (u, []) := by
  cases n with
  | zero => rfl
  | succ n => simp only [Sdu.passZero, h]

theorem passZero_passes {n : Nat} (hq : playingRequest u q.sounder = some q) (ht : (player u q.sounder).timer = none) :
    u.passZero cfg q.sounder (n + 1) = (((u.endPhase cfg q).1.passZero cfg q.sounder n).1,
      (u.endPhase cfg q).2 ++ ((u.endPhase cfg q).1.passZero cfg q.sounder n).2) := by
  simp only [Sdu.passZero, hq, ht]

/-- R160: an induction over the phases that pass: what the end of a phase keeps, they keep. -/
theorem passZero_induct {snd : Sounder} {good : Sdu → Prop}
    (hstep : ∀ u q, q.sounder = snd → playingRequest u snd = some q → good u → good (u.endPhase cfg q).1) (n : Nat) :
    ∀ u, good u → good (u.passZero cfg snd n).1 := by
  induction n with
  | zero => exact fun _ => id
  | succ n ih =>
    intro u hu
    cases hq : playingRequest u snd with
    | none => rwa [passZero_silent _ hq]
    | some q =>
      cases ht : (player u snd).timer with
      | some t => rwa [passZero_timed _ (by simp [ht])]
      | none =>
        obtain rfl := (playingRequest_some hq).2.2
        rw [passZero_passes hq ht]
        exact ih _ (hstep u q rfl hq hu)

theorem settlePhase_at (cfg : Settings) (snd : Sounder) (u : Sdu) : AtSounder snd u (u.settlePhase cfg snd).1 := by
  refine passZero_induct (good := AtSounder snd u) (fun v q hs _ hv => ?_) 64 u (.refl snd u)
  subst hs
  exact hv.trans (endPhase_at cfg v q)

theorem settlePhase_outranked {snd : Sounder} (hok : RequestsOk u) (ho : Outranked u snd) :
    Outranked (u.settlePhase cfg snd).1 snd := by
  refine (passZero_induct (good := fun v => RequestsOk v ∧ Outranked v snd) (fun v q hs hq hv => ?_) 64 u ⟨hok, ho⟩).2
  subst hs
  exact ⟨hv.1.shrinks (v.endPhase_shrinks cfg q), endPhase_outranked hv.1 hq hv.2⟩

end

end Sys2Proof.Machine

namespace Sys2Proof.Machine

/-! ### Every sounder that plays is timed (R159, R160) -/

/-- R160: the sounder, where it plays, has its phase timer running. -/
def TimedAt (u : Sdu) (snd : Sounder) : Prop := (player u snd).playing ≠ none → (player u snd).timer ≠ none

/-- The sounder's player has just entered a phase of the pattern of the request it plays. -/
def Entered (cfg : Settings) (u : Sdu) (q : SoundRequest) (k : Nat) (ph : Phase) : Prop :=
  playingRequest u q.sounder = some q ∧
    ∃ p, player u q.sounder = enterPhase cfg q.sounder u.patterns[q.pattern] k ph p

section
variable {cfg : Settings} {u : Sdu} {q : SoundRequest}

theorem timedAt_of_idle {snd : Sounder} (h : (player u snd).playing = none) : TimedAt u snd := fun hp => absurd h hp

/-! #### How far a pass is from a phase that lasts -/

theorem PassesTo.left {pat : Pattern} {k k' : Nat} {ph ph' : Phase} (h : PassesTo pat k ph k' ph') :
    phasesLeft pat k' ph' < phasesLeft pat k ph := by
  cases h <;> simp only [phasesLeft] <;> omega

/-- A phase that does not last leaves the phase that does to the rest of the pass. -/
theorem PassesTo.runs {pat : Pattern} {k k' : Nat} {ph ph' : Phase} (h : PassesTo pat k ph k' ph')
    (htime : phaseTime (patternStep pat k) ph = 0) (hr : RunsFrom pat k ph) : RunsFrom pat k' ph' := by
  cases h with
  | toOff =>
    obtain ⟨j, hkj, hj, htimes⟩ := hr
    rcases Nat.eq_or_lt_of_le hkj with rfl | hlt
    · exact .inl (htimes.resolve_left (Nat.not_lt.mpr (Nat.le_of_eq htime)))
    · exact .inr ⟨j, hlt, hj, htimes⟩
  | toOn =>
    obtain ⟨j, hkj, hj, htimes⟩ := hr.resolve_left (Nat.not_lt.mpr (Nat.le_of_eq htime))
    exact ⟨j, hkj, hj, htimes⟩

/-- The OFF phase of the last step is the end of the pass. -/
theorem not_runsFrom_last {pat : Pattern} {k : Nat} (hk : pat.steps.length ≤ k)
    (htime : phaseTime (patternStep pat k) .off = 0) : ¬ RunsFrom pat k .off := by
  rintro (h | ⟨j, hkj, hj, -⟩)
  · exact absurd htime (Nat.pos_iff_ne_zero.mp h)
  · omega

theorem phasesLeft_le {pat : Pattern} (h : pat.steps.length ≤ 8) (k : Nat) (ph : Phase) : phasesLeft pat k ph ≤ 18 := by
  cases ph <;> simp only [phasesLeft] <;> omega

theorem phasesLeft_pos (pat : Pattern) (k : Nat) (ph : Phase) : 0 < phasesLeft pat k ph := by
  cases ph <;> simp [phasesLeft]

/-- R159: a pattern that has steps plays in some time. -/
theorem runsFrom_start (hplays : SoundPlays u) (hq : q ∈ u.requests) : RunsFrom u.patterns[q.pattern] 1 .on := by
  obtain ⟨-, hsome, hne⟩ := hplays
  obtain ⟨x, hx, htime⟩ := (hsome q.pattern).resolve_left (hne q hq)
  obtain ⟨i, hi, rfl⟩ := List.getElem_of_mem hx
  have hstep : patternStep u.patterns[q.pattern] (i + 1) = u.patterns[q.pattern].steps[i] := by
    rw [patternStep, Nat.add_sub_cancel, List.getElem?_eq_getElem hi]
    rfl
  exact ⟨i + 1, by omega, hi, by rwa [← hstep] at htime⟩

/-! #### The phases that a sounder enters -/

theorem entered_enter (hq : playingRequest u q.sounder = some q) (k : Nat) (ph : Phase) :
    Entered cfg (u.enter cfg q k ph) q k ph :=
  ⟨(playingRequest_congr (u := u) (v := u.enter cfg q k ph) rfl (enter_playing u k ph)).trans hq, _, player_setPlayer_same _ _ _⟩

theorem entered_begin (hok : RequestsOk u) (hq : q ∈ u.requests) : Entered cfg (u.begin cfg q) q 1 .on :=
  ⟨playingRequest_begin cfg hok hq, _, player_setPlayer_same _ _ _⟩

/-- R160, R168: at the end of a phase its sounder enters the next phase of the pass, or the last phase ended and a
pass begins anew, or it is idle. -/
theorem endPhase_enters (hok : RequestsOk u) (hq : playingRequest u q.sounder = some q) :
    (∃ k ph, PassesTo u.patterns[q.pattern] (player u q.sounder).step (player u q.sounder).phase k ph ∧
      (u.endPhase cfg q).1.patterns = u.patterns ∧ Entered cfg (u.endPhase cfg q).1 q k ph) ∨
    ((player u q.sounder).phase = .off ∧ u.patterns[q.pattern].steps.length ≤ (player u q.sounder).step ∧
      ((player (u.endPhase cfg q).1 q.sounder).playing = none ∨
        ∃ x, x.sounder = q.sounder ∧ Entered cfg (u.endPhase cfg q).1 x 1 .on)) := by
  rcases endPhase_cases cfg u q with ⟨k, ph, hnext, h⟩ | ⟨hoff, hlast, h⟩
  · exact .inl ⟨k, ph, hnext, by rw [h]; rfl, by rw [h]; exact entered_enter hq k ph⟩
  · refine .inr ⟨hoff, hlast, ?_⟩
    rcases h with h | ⟨n, h⟩ | h
    · exact .inr ⟨q, rfl, by rw [h]; exact entered_enter hq 1 .on⟩
    · exact .inr ⟨{ q with repeats := some (n - 1) }, rfl, by
        rw [h]
        exact entered_enter (u := countRepeat u q n) (q := { q with repeats := some (n - 1) })
          (playingRequest_countRepeat n hq) 1 .on⟩
    · rw [h]
      rcases next_cases cfg { u with requests := dropRequest u.requests q.source q.sounder } q.sounder with
        ⟨-, hn⟩ | ⟨x, hx, -, hn⟩
      · exact .inl (by rw [hn, player_setPlayer_same]; rfl)
      · obtain ⟨hmem, hs⟩ := mem_requestsFor.mp hx
        exact .inr ⟨x, hs, by rw [hn]; exact entered_begin (dropRequest_ok hok _ _) hmem⟩

/-- R160: from a phase that a sounder has entered, a phase that lasts comes within this pass, or within the next one,
or the sounder falls idle. -/
theorem passZero_timedAt (n : Nat) : ∀ (u : Sdu) (q : SoundRequest) (k : Nat) (ph : Phase), RequestsOk u → SoundPlays u →
    Entered cfg u q k ph → (RunsFrom u.patterns[q.pattern] k ph ∧ phasesLeft u.patterns[q.pattern] k ph ≤ n ∨
      phasesLeft u.patterns[q.pattern] k ph + 18 ≤ n) → TimedAt (u.passZero cfg q.sounder n).1 q.sounder := by
  induction n with
  | zero =>
    intro u q k ph _ _ _ hn
    have := phasesLeft_pos u.patterns[q.pattern] k ph
    omega
  | succ n ih =>
    intro u q k ph hok hplays hent hn
    obtain ⟨hq, p, hp⟩ := hent
    by_cases htime : phaseTime (patternStep u.patterns[q.pattern] k) ph = 0
    case neg =>
      have ht : (player u q.sounder).timer ≠ none := by
        rw [hp]
        exact (if_neg htime).trans_ne (Option.some_ne_none _)
      rw [passZero_timed _ ht]
      exact fun _ => ht
    case pos =>
      have ht : (player u q.sounder).timer = none := by
        rw [hp]
        exact if_pos htime
      have hstep : (player u q.sounder).step = k := by rw [hp]; rfl
      have hphase : (player u q.sounder).phase = ph := by rw [hp]; rfl
      have hok' : RequestsOk (u.endPhase cfg q).1 := hok.shrinks (u.endPhase_shrinks cfg q)
      have hplays' : SoundPlays (u.endPhase cfg q).1 := (endPhase_at cfg u q).plays hplays
      rw [passZero_passes hq ht]
      have hcases := endPhase_enters (cfg := cfg) hok hq
      rw [hstep, hphase] at hcases
      rcases hcases with ⟨k', ph', hnext, hpat, hent⟩ | ⟨rfl, hlast, hidle | ⟨x, hx, hent⟩⟩
      · refine ih _ q k' ph' hok' hplays' hent ?_
        have hless := hnext.left
        rw [hpat]
        exact hn.imp (fun h => ⟨hnext.runs htime h.1, by omega⟩) fun h => by omega
      · rw [passZero_silent _ (playingRequest_of_idle hidle)]
        exact timedAt_of_idle hidle
      · have hroom : 18 ≤ n := by
          have hfar := hn.resolve_left fun h => not_runsFrom_last hlast htime h.1
          have := phasesLeft_pos u.patterns[q.pattern] k .off
          omega
        have hmem := (playingRequest_some hent.1).2.1
        rw [← hx]
        exact ih _ x 1 .on hok' hplays' hent
          (.inl ⟨runsFrom_start hplays' hmem, (phasesLeft_le (hplays'.1 _) 1 .on).trans hroom⟩)

/-- R160: phases of no time pass at once. -/
theorem settlePhase_timedAt {k : Nat} {ph : Phase} (hok : RequestsOk u) (hplays : SoundPlays u) (h : Entered cfg u q k ph) :
    TimedAt (u.settlePhase cfg q.sounder).1 q.sounder := by
  refine passZero_timedAt 64 u q k ph hok hplays h (.inr ?_)
  have := phasesLeft_le (hplays.1 q.pattern) k ph
  omega

end

end Sys2Proof.Machine

namespace Sys2Proof.Machine

/-! ### The sound unit's law, with or without its timers (R159, R160, R162, R168) -/

/-- R162, and where the law is `live` R159: the part of the law that speaks of the list and the patterns. -/
def ListLaw (live : Prop) (u : Sdu) : Prop := RequestsOk u ∧ (live → SoundPlays u)

/-- R168, and where the law is `live` R160: the part of the law that speaks of one sounder. -/
def SounderLaw (live : Prop) (u : Sdu) (snd : Sounder) : Prop := Outranked u snd ∧ (live → TimedAt u snd)

/-- What every event of the sound unit keeps. -/
def SoundLaw (live : Prop) (u : Sdu) : Prop := ListLaw live u ∧ ∀ snd, SounderLaw live u snd

theorem soundLaw_false {u : Sdu} : SoundLaw False u ↔ SoundOk u := by
  simp only [SoundLaw, ListLaw, SounderLaw, SoundOk, false_imp_iff, and_true]

theorem soundLaw_true {u : Sdu} : SoundLaw True u ↔ SoundOk u ∧ SoundPlays u ∧ PlayersTimed u := by
  simp only [SoundLaw, ListLaw, SounderLaw, SoundOk, PlayersTimed, TimedAt, true_imp_iff, forall_and]
  tauto

section
variable {live : Prop} {cfg : Settings} {u v : Sdu} {snd : Sounder} {q : SoundRequest}

theorem ListLaw.at (h : ListLaw live u) (hat : AtSounder snd u v) (hs : Shrinks u v) : ListLaw live v :=
  ⟨h.1.shrinks hs, fun hl => hat.plays (h.2 hl)⟩

theorem SounderLaw.of_same (h : SounderLaw live u snd) (hr : requestsFor v snd = requestsFor u snd)
    (hp : player v snd = player u snd) : SounderLaw live v snd :=
  ⟨h.1.of_same hr (by rw [hp]), fun hl => by rw [TimedAt, hp]; exact h.2 hl⟩

theorem SounderLaw.at (h : SounderLaw live u snd) {x : Sounder} (hat : AtSounder x u v) (hx : snd ≠ x) :
    SounderLaw live v snd := h.of_same (hat.requests snd hx) (hat.players snd hx)

/-- An event at a sounder keeps the law where it leaves that sounder by it. -/
theorem SoundLaw.of_at (hlist : ListLaw live u) (hother : ∀ x, x ≠ snd → SounderLaw live u x) (hat : AtSounder snd u v)
    (hs : Shrinks u v) (hsnd : SounderLaw live v snd) : SoundLaw live v := by
  refine ⟨hlist.at hat hs, fun x => ?_⟩
  by_cases hx : x = snd
  · exact hx ▸ hsnd
  · exact (hother x hx).at hat hx

/-! #### The sounder that an event leaves playing -/

/-- R160, R168: once a sounder has entered a phase of a request that none outranks, its zero phases pass. -/
theorem settlePhase_law {k : Nat} {ph : Phase} (hlist : ListLaw live u) (ho : Outranked u q.sounder)
    (hent : Entered cfg u q k ph) : SounderLaw live (u.settlePhase cfg q.sounder).1 q.sounder :=
  ⟨settlePhase_outranked hlist.1 ho, fun hl => settlePhase_timedAt hlist.1 (hlist.2 hl) hent⟩

/-- R168: the request that begins has the highest priority. -/
theorem begin_law (hlist : ListLaw live u) (hq : q ∈ u.requests)
    (htop : ∀ x ∈ requestsFor u q.sounder, x.priority ≤ q.priority) :
    SounderLaw live ((u.begin cfg q).settlePhase cfg q.sounder).1 q.sounder :=
  settlePhase_law (hlist.at (begin_at cfg) (.of_eq rfl)) (begin_outranked cfg hlist.1 hq htop)
    (entered_begin hlist.1 hq)

/-- R168: a freed sounder is by the law, whatever it played. -/
theorem free_law (hlist : ListLaw live u) (snd : Sounder) : SounderLaw live (u.free cfg snd).1 snd := by
  rcases next_cases cfg u snd with ⟨hnil, h⟩ | ⟨q, hq, htop, h⟩
  · have hidle : (player (setPlayer u snd (idlePlayer (player u snd))) snd).playing = none := by
      rw [player_setPlayer_same]
      rfl
    rw [Sdu.free, h, Sdu.settlePhase, passZero_silent _ (playingRequest_of_idle hidle)]
    exact ⟨outranked_iff.mpr (.inl ⟨hidle, hnil⟩), fun _ => timedAt_of_idle hidle⟩
  · obtain ⟨hmem, rfl⟩ := mem_requestsFor.mp hq
    rw [Sdu.free, h]
    exact begin_law hlist hmem htop

theorem free_at (cfg : Settings) (snd : Sounder) (u : Sdu) : AtSounder snd u (u.free cfg snd).1 :=
  (next_at cfg).trans (settlePhase_at cfg snd _)

theorem free_keeps_law (hlist : ListLaw live u) (hother : ∀ x, x ≠ snd → SounderLaw live u x) :
    SoundLaw live (u.free cfg snd).1 :=
  .of_at hlist hother (free_at cfg snd u) (u.free_shrinks cfg snd) (free_law hlist snd)

/-! #### The expiry of a phase timer (R160) -/

theorem phaseExpiry_cases (cfg : Settings) (u : Sdu) (snd : Sounder) :
    u.phaseExpiry cfg snd = (u, []) ∨ ∃ q, q.sounder = snd ∧ playingRequest u snd = some q ∧
      u.phaseExpiry cfg snd = (((u.endPhase cfg q).1.settlePhase cfg snd).1,
        (u.endPhase cfg q).2 ++ ((u.endPhase cfg q).1.settlePhase cfg snd).2) := by
  unfold Sdu.phaseExpiry
  cases (player u snd).timer <;> cases hq : playingRequest u snd
  · exact .inl rfl
  · exact .inl rfl
  · exact .inl rfl
  · exact .inr ⟨_, (playingRequest_some hq).2.2, rfl, rfl⟩

theorem phaseExpiry_at (cfg : Settings) (u : Sdu) (snd : Sounder) : AtSounder snd u (u.phaseExpiry cfg snd).1 := by
  rcases phaseExpiry_cases cfg u snd with h | ⟨q, rfl, -, h⟩
  · exact h ▸ .refl snd u
  · exact h ▸ (endPhase_at cfg u q).trans (settlePhase_at cfg q.sounder _)

theorem endPhase_law (hlist : ListLaw live u) (hq : playingRequest u q.sounder = some q) (ho : Outranked u q.sounder) :
    SounderLaw live ((u.endPhase cfg q).1.settlePhase cfg q.sounder).1 q.sounder := by
  have hlist' : ListLaw live (u.endPhase cfg q).1 := hlist.at (endPhase_at cfg u q) (u.endPhase_shrinks cfg q)
  have ho' : Outranked (u.endPhase cfg q).1 q.sounder := endPhase_outranked hlist.1 hq ho
  rcases endPhase_enters (cfg := cfg) hlist.1 hq with ⟨k, ph, -, -, hent⟩ | ⟨-, -, hidle | ⟨x, hx, hent⟩⟩
  · exact settlePhase_law hlist' ho' hent
  · rw [Sdu.settlePhase, passZero_silent _ (playingRequest_of_idle hidle)]
    exact ⟨ho', fun _ => timedAt_of_idle hidle⟩
  · rw [← hx] at ho' ⊢
    exact settlePhase_law hlist' ho' hent

theorem phaseExpiry_law (h : SoundLaw live u) (snd : Sounder) : SoundLaw live (u.phaseExpiry cfg snd).1 := by
  refine .of_at h.1 (fun x _ => h.2 x) (phaseExpiry_at cfg u snd) (u.phaseExpiry_shrinks cfg snd) ?_
  rcases phaseExpiry_cases cfg u snd with he | ⟨q, rfl, hq, he⟩
  · exact he ▸ h.2 snd
  · exact he ▸ endPhase_law h.1 hq (h.2 _).1

/-! #### Requests that leave the list (R162, R168) -/

/-- R162: what is found in a part of the list is what is found in the list, where it is in that part. -/
theorem findRequest_filter {l : List SoundRequest} (h : (l.map fun q => (q.source, q.sounder)).Nodup)
    (good : SoundRequest → Bool) (src : SoundSource) (snd : Sounder) :
    findRequest (l.filter good) src snd = (findRequest l src snd).filter good := by
  have hpart : ((l.filter good).map fun q => (q.source, q.sounder)).Nodup := h.sublist (List.filter_sublist.map _)
  ext q
  rw [Option.filter_eq_some_iff]
  constructor
  · intro hq
    obtain ⟨hmem, rfl, rfl⟩ := findRequest_key hq
    exact ⟨findRequest_of_mem h (List.mem_of_mem_filter hmem), (List.mem_filter.mp hmem).2⟩
  · rintro ⟨hq, hgood⟩
    obtain ⟨hmem, rfl, rfl⟩ := findRequest_key hq
    exact findRequest_of_mem hpart (List.mem_filter.mpr ⟨hmem, hgood⟩)

theorem playingRequest_filter (hok : RequestsOk u) (good : SoundRequest → Bool) (snd : Sounder) :
    playingRequest { u with requests := u.requests.filter good } snd = (playingRequest u snd).filter good := by
  unfold playingRequest
  cases hp : (player u snd).playing with
  | none => simp [show (player { u with requests := u.requests.filter good } snd).playing = none from hp]
  | some src =>
    simp only [show (player { u with requests := u.requests.filter good } snd).playing = some src from hp,
      Option.bind_some]
    exact findRequest_filter hok.2 good src snd

/-- R168: a sounder whose request stays has none above it among those that stay. -/
theorem outranked_filter {good : SoundRequest → Bool} (hok : RequestsOk u) (ho : Outranked u snd)
    (hkeep : ∀ q, playingRequest u snd = some q → good q = true) :
    Outranked { u with requests := u.requests.filter good } snd := by
  have hsub : ∀ x ∈ requestsFor { u with requests := u.requests.filter good } snd, x ∈ requestsFor u snd := fun x hx =>
    mem_requestsFor.mpr ((mem_requestsFor.mp hx).imp_left List.mem_of_mem_filter)
  rw [outranked_iff] at ho ⊢
  refine ho.imp (fun ⟨hidle, hnil⟩ => ⟨hidle, ?_⟩) fun ⟨q, hq, htop⟩ => ⟨q, ?_, fun x hx => htop x (hsub x hx)⟩
  · exact List.eq_nil_iff_forall_not_mem.mpr fun x hx => by simpa [hnil] using hsub x hx
  · rw [playingRequest_filter hok, hq]
    simp [hkeep q hq]

/-- R168: with the list thinned out, a sounder is by the law or it has lost its request. -/
theorem law_or_lost (hok : RequestsOk u) (h : SounderLaw live u snd) (good : SoundRequest → Bool) :
    SounderLaw live { u with requests := u.requests.filter good } snd ∨
      lost { u with requests := u.requests.filter good } snd = true := by
  by_cases hkeep : ∀ q, playingRequest u snd = some q → good q = true
  · exact .inl ⟨outranked_filter hok h.1 hkeep, h.2⟩
  · push Not at hkeep
    obtain ⟨q, hq, hbad⟩ := hkeep
    have hplays : (player { u with requests := u.requests.filter good } snd).playing = some q.source :=
      (playingRequest_some hq).1
    exact .inr (by simp [lost, hplays, playingRequest_filter hok, hq, hbad])

/-- R165: a request that its sounder does not play leaves the list. -/
theorem dropRequest_law (h : SoundLaw live u) {src : SoundSource} {snd : Sounder}
    (hp : (player u snd).playing ≠ some src) :
    SoundLaw live { u with requests := dropRequest u.requests src snd } := by
  refine .of_at h.1 (fun x _ => h.2 x) (dropRequest_at src) (dropRequest_shrinks src snd u)
    ⟨outranked_filter h.1.1 (h.2 snd).1 fun q hq => ?_, (h.2 snd).2⟩
  have hne : q.source ≠ src := fun e => hp (by rw [(playingRequest_some hq).1, e])
  simp [isRequest, hne]

theorem remove_cases (cfg : Settings) (src : SoundSource) (snd : Sounder) (u : Sdu) :
    ((player u snd).playing = some src ∧
      u.remove cfg src snd = ({ u with requests := dropRequest u.requests src snd } : Sdu).free cfg snd) ∨
    ((player u snd).playing ≠ some src ∧
      u.remove cfg src snd = ({ u with requests := dropRequest u.requests src snd }, [])) := by
  unfold Sdu.remove
  by_cases hp : (player u snd).playing = some src
  · exact .inl ⟨hp, if_pos hp⟩
  · exact .inr ⟨hp, if_neg hp⟩

theorem remove_at (cfg : Settings) (src : SoundSource) (snd : Sounder) (u : Sdu) :
    AtSounder snd u (u.remove cfg src snd).1 := by
  rcases remove_cases cfg src snd u with ⟨-, h⟩ | ⟨-, h⟩
  · exact h ▸ (dropRequest_at src).trans (free_at cfg snd _)
  · exact h ▸ dropRequest_at src

theorem remove_law (h : SoundLaw live u) (src : SoundSource) (snd : Sounder) : SoundLaw live (u.remove cfg src snd).1 := by
  rcases remove_cases cfg src snd u with ⟨-, he⟩ | ⟨hp, he⟩
  · rw [he]
    exact free_keeps_law (h.1.at (dropRequest_at src) (dropRequest_shrinks src snd u)) fun x hx =>
      (h.2 x).at (dropRequest_at src) hx
  · exact he ▸ dropRequest_law h hp

theorem hardwareRemove_law (h : SoundLaw live u) (src : SoundSource) (snd : Sounder) :
    SoundLaw live (u.hardwareRemove cfg src snd).1 := by
  unfold Sdu.hardwareRemove
  split
  · exact remove_law h src snd
  · exact h

theorem AtSounder.lost {x : Sounder} (h : AtSounder snd u v) (hx : x ≠ snd) : lost v x = lost u x := by
  rw [Machine.lost, Machine.lost, playingRequest_congr (h.requests x hx) (by rw [h.players x hx]), h.players x hx]

/-- R168, R169: every sounder that has lost its request is handed on. -/
theorem freeLost_law (l : List Sounder) : ∀ u : Sdu, ListLaw live u →
    (∀ x, SounderLaw live u x ∨ x ∈ l ∧ lost u x = true) → SoundLaw live (u.freeLost cfg l).1 := by
  induction l with
  | nil => exact fun u hlist h => ⟨hlist, fun x => (h x).resolve_right fun hx => by cases hx.1⟩
  | cons snd l ih =>
    intro u hlist h
    rw [freeLost_cons]
    split
    next =>
      have hat : AtSounder snd u (u.free cfg snd).1 := free_at cfg snd u
      refine ih _ (hlist.at hat (u.free_shrinks cfg snd)) fun x => ?_
      by_cases hx : x = snd
      · exact .inl (by rw [hx]; exact free_law hlist snd)
      · refine (h x).imp (fun hlaw => hlaw.at hat hx) fun ⟨hmem, hlost⟩ => ⟨(List.mem_cons.mp hmem).resolve_left hx, ?_⟩
        exact (hat.lost hx).trans hlost
    next hkept =>
      refine ih u hlist fun x => (h x).imp_right fun ⟨hmem, hlost⟩ => ⟨(List.mem_cons.mp hmem).resolve_left ?_, hlost⟩
      rintro rfl
      exact hkept hlost

theorem teardown_law (h : SoundLaw live u) (former : Desk) : SoundLaw live (u.teardown cfg former).1 := by
  obtain ⟨⟨hok, hplays⟩, hsnd⟩ := h
  refine freeLost_law allSounders _ ⟨hok.shrinks (.of_filter rfl), fun hl => ?_⟩ fun x =>
    (law_or_lost hok (hsnd x) _).imp_right fun hlost => ⟨by cases x <;> decide, hlost⟩
  obtain ⟨hlen, hsome, hne⟩ := hplays hl
  exact ⟨hlen, hsome, fun q hq => hne q (List.mem_of_mem_filter hq)⟩

/-! #### Requests that join the list (R166, R168) -/

/-- A request joins the list as the youngest. -/
def Sdu.append (u : Sdu) (q : SoundRequest) : Sdu := { u with requests := u.requests ++ [q] }

theorem ListLaw.append (h : ListLaw live u) (hroom : u.requests.length < Config.soundCapacity)
    (hnew : requestKey q ∉ requestKeys u) (hpat : live → u.patterns[q.pattern].steps ≠ []) :
    ListLaw live (u.append q) := by
  refine ⟨h.1.append hroom hnew, fun hl => ?_⟩
  obtain ⟨hlen, hsome, hne⟩ := h.2 hl
  refine ⟨hlen, hsome, fun x hx => ?_⟩
  rcases List.mem_append.mp hx with hx | hx
  · exact hne x hx
  · rw [List.mem_singleton.mp hx]
    exact hpat hl

theorem requestsFor_append_other {x : Sounder} (h : x ≠ q.sounder) : requestsFor (u.append q) x = requestsFor u x := by
  simp [requestsFor, Sdu.append, List.filter_append, Ne.symm h]

theorem requestsFor_append_same : requestsFor (u.append q) q.sounder = requestsFor u q.sounder ++ [q] := by
  simp [requestsFor, Sdu.append, List.filter_append]

/-- A joining request is not the one its sounder plays. -/
theorem playingRequest_append (ho : Outranked u q.sounder) :
    playingRequest (u.append q) q.sounder = playingRequest u q.sounder := by
  rcases outranked_iff.mp ho with ⟨hidle, -⟩ | ⟨p, hp, -⟩
  · rw [playingRequest_of_idle hidle]
    exact playingRequest_of_idle hidle
  · obtain ⟨hplays, -, -⟩ := playingRequest_some hp
    rw [hp]
    rw [playingRequest, hplays, Option.bind_some] at hp
    refine playingRequest_of_find hplays ?_
    rw [findRequest] at hp ⊢
    rw [Sdu.append, List.find?_append, hp, Option.some_or]

/-- R168: what a joining request comes to: it begins at an idle sounder, or before one of lower priority; or it waits. -/
theorem join_cases (cfg : Settings) (ho : Outranked u q.sounder) :
    ((∀ y, playingRequest u q.sounder = some y → y.priority < q.priority) ∧
      u.join cfg q = ((u.append q).begin cfg q).settlePhase cfg q.sounder) ∨
    ∃ y, playingRequest u q.sounder = some y ∧ q.priority ≤ y.priority ∧ u.join cfg q = (u.append q, []) := by
  have hsame := playingRequest_append ho
  unfold Sdu.join
  dsimp only
  rw [show ({ u with requests := u.requests ++ [q] } : Sdu) = u.append q from rfl, hsame]
  cases h : playingRequest u q.sounder with
  | none => exact .inl ⟨nofun, rfl⟩
  | some y =>
    dsimp only
    by_cases hlt : y.priority < q.priority
    · exact .inl ⟨fun z hz => Option.some.inj hz ▸ hlt, if_pos hlt⟩
    · exact .inr ⟨y, rfl, Nat.not_lt.mp hlt, if_neg hlt⟩

theorem join_law (hlist : ListLaw live (u.append q)) (hsnd : ∀ x, SounderLaw live u x) :
    SoundLaw live (u.join cfg q).1 := by
  have hother : ∀ x, x ≠ q.sounder → SounderLaw live (u.append q) x := fun x hx =>
    (hsnd x).of_same (requestsFor_append_other hx) rfl
  have hle : ∀ n, (∀ x ∈ requestsFor u q.sounder, x.priority ≤ n) → q.priority ≤ n →
      ∀ x ∈ requestsFor (u.append q) q.sounder, x.priority ≤ n := by
    intro n hn hq x hx
    rw [requestsFor_append_same] at hx
    rcases List.mem_append.mp hx with hx | hx
    · exact hn x hx
    · exact List.mem_singleton.mp hx ▸ hq
  have ho : Outranked u q.sounder := (hsnd q.sounder).1
  rcases join_cases cfg ho with ⟨hlow, hjoin⟩ | ⟨y, hy, hhigh, hjoin⟩
  · have htop : ∀ x ∈ requestsFor u q.sounder, x.priority ≤ q.priority := by
      rcases outranked_iff.mp ho with ⟨-, hnil⟩ | ⟨y, hy, htop⟩
      · simp [hnil]
      · exact fun x hx => (htop x hx).trans (hlow y hy).le
    rw [hjoin]
    exact .of_at hlist hother ((begin_at cfg).trans (settlePhase_at cfg _ _))
      ((Shrinks.of_eq rfl).trans (Sdu.settlePhase_shrinks cfg _ _))
      (begin_law hlist (by simp [Sdu.append]) (hle _ htop le_rfl))
  · rw [hjoin]
    refine .of_at hlist hother (.refl q.sounder _) (.of_eq rfl)
      ⟨outranked_iff.mpr (.inr ⟨y, (playingRequest_append ho).trans hy, hle _ (fun x hx => ?_) hhigh⟩),
        (hsnd q.sounder).2⟩
    rw [Outranked, hy] at ho
    obtain ⟨hmem, hs⟩ := mem_requestsFor.mp hx
    exact ho x hmem hs

end

end Sys2Proof.Machine

namespace Sys2Proof.Machine

/-! ### Offers, and the events made of them (R163 to R169) -/

section
variable {live : Prop} {cfg : Settings} {u : Sdu} {q : SoundRequest}

/-- R166 step 1: the list with a new request in the place of its source's old one. -/
theorem listLaw_replaced (h : ListLaw live u) (hold : (findRequest u.requests q.source q.sounder).isSome = true)
    (hpat : live → u.patterns[q.pattern].steps ≠ []) :
    ListLaw live (Sdu.append { u with requests := dropRequest u.requests q.source q.sounder } q) := by
  obtain ⟨x, hx⟩ := Option.isSome_iff_exists.mp hold
  obtain ⟨hmem, hsrc, hsnd⟩ := findRequest_key hx
  have hless := dropRequest_length_lt hmem
  rw [hsrc, hsnd] at hless
  exact (h.at (dropRequest_at _) (dropRequest_shrinks _ _ u)).append (hless.trans_le h.1.1)
    (key_notMem_dropRequest q.source q.sounder u) hpat

theorem replace_cases (cfg : Settings) (q : SoundRequest) (u : Sdu) :
    ((player u q.sounder).playing = some q.source ∧ u.replace cfg q =
      (Sdu.append { u with requests := dropRequest u.requests q.source q.sounder } q).free cfg q.sounder) ∨
    ((player u q.sounder).playing ≠ some q.source ∧ u.replace cfg q =
      ({ u with requests := dropRequest u.requests q.source q.sounder } : Sdu).join cfg q) := by
  unfold Sdu.replace
  by_cases hp : (player u q.sounder).playing = some q.source
  · exact .inl ⟨hp, if_pos hp⟩
  · exact .inr ⟨hp, if_neg hp⟩

theorem replace_law (h : SoundLaw live u) (hold : (findRequest u.requests q.source q.sounder).isSome = true)
    (hpat : live → u.patterns[q.pattern].steps ≠ []) : SoundLaw live (u.replace cfg q).1 := by
  have hlist := listLaw_replaced h.1 hold hpat
  rcases replace_cases cfg q u with ⟨-, he⟩ | ⟨hp, he⟩
  · rw [he]
    refine free_keeps_law hlist fun x hx => ?_
    exact ((h.2 x).at (dropRequest_at _) hx).of_same (requestsFor_append_other hx) rfl
  · rw [he]
    exact join_law hlist (dropRequest_law h hp).2

/-- R166 step 3: what the eviction of a request of the list leaves has room for one that the list does not hold. -/
theorem listLaw_evicted (h : ListLaw live u) {v : SoundRequest} (hv : v ∈ u.requests)
    (hnew : findRequest u.requests q.source q.sounder = none) (hpat : live → u.patterns[q.pattern].steps ≠ []) :
    ListLaw live (Sdu.append (u.remove cfg v.source v.sounder).1 q) := by
  have hat := remove_at cfg v.source v.sounder u
  have hsub := u.remove_shrinks cfg v.source v.sounder
  have hroom : (u.remove cfg v.source v.sounder).1.requests.length < Config.soundCapacity := by
    have hle : (u.remove cfg v.source v.sounder).1.requests.length ≤ (dropRequest u.requests v.source v.sounder).length := by
      simpa [requestKeys] using (u.remove_shrinks_drop cfg v.source v.sounder).length_le
    exact hle.trans_lt ((dropRequest_length_lt hv).trans_le h.1.1)
  refine (h.at hat hsub).append hroom (fun hm => findRequest_eq_none.mp hnew (hsub.subset hm)) fun hl => ?_
  rw [hat.patterns]
  exact hpat hl

/-- R166: the ways of a request into the list, in their order. -/
theorem offer_cases {r : Sdu × List Instr} (h : u.offer cfg q = some r) :
    ((findRequest u.requests q.source q.sounder).isSome = true ∧ r = u.replace cfg q) ∨
    (findRequest u.requests q.source q.sounder = none ∧ u.requests.length < Config.soundCapacity ∧ r = u.join cfg q) ∨
    (findRequest u.requests q.source q.sounder = none ∧ ∃ v, evictee u.requests q.priority = some v ∧
      r.1 = (Sdu.join cfg q { (u.remove cfg v.source v.sounder).1 with
        lastEvent := some ⟨.evicted, v.source, v.sounder⟩ }).1) := by
  unfold Sdu.offer at h
  split at h
  next hold => exact .inl ⟨hold, (Option.some.inj h).symm⟩
  next hnew =>
    have hnew : findRequest u.requests q.source q.sounder = none := by simpa using hnew
    split at h
    next hroom => exact .inr (.inl ⟨hnew, hroom, (Option.some.inj h).symm⟩)
    next =>
      split at h
      next v hv => exact .inr (.inr ⟨hnew, v, hv, by rw [← Option.some.inj h]⟩)
      next => cases h

/-- R166, R168: a request that is taken leaves the unit by its law. -/
theorem offer_law {r : Sdu × List Instr} (h : SoundLaw live u) (hpat : live → u.patterns[q.pattern].steps ≠ [])
    (hr : u.offer cfg q = some r) : SoundLaw live r.1 := by
  rcases offer_cases hr with ⟨hold, rfl⟩ | ⟨hnew, hroom, rfl⟩ | ⟨hnew, v, hv, he⟩
  · exact replace_law h hold hpat
  · exact join_law (h.1.append hroom (findRequest_eq_none.mp hnew) hpat) h.2
  · rw [he]
    exact join_law (listLaw_evicted h.1 (evictee_mem hv) hnew hpat) (remove_law h v.source v.sounder).2

theorem hardwareAdd_law (h : SoundLaw live u) (src : SoundSource) (snd : Sounder) (pattern : Fin 16) :
    SoundLaw live (u.hardwareAdd cfg src snd pattern).1 := by
  unfold Sdu.hardwareAdd
  split
  next => exact h
  next hpat =>
    split
    next r hr => exact offer_law (r := r) h (fun _ hnil => hpat (List.isEmpty_iff.mpr hnil)) hr
    next => exact h

theorem addAll_law (l : List SoundOffer) : ∀ u : Sdu, SoundLaw live u → SoundLaw live (u.addAll cfg l).1 := by
  induction l with
  | nil => exact fun _ => id
  | cons o l ih => exact fun u h => ih _ (hardwareAdd_law h o.1 o.2.1 o.2.2)

theorem recordDirect_law (h : SoundLaw live u) (k : DirectSound) (value : Bool) :
    SoundLaw live (u.recordDirect k value) := by cases k <;> exact h

theorem direct_law (h : SoundLaw live u) (k : DirectSound) (value : Bool) : SoundLaw live (u.direct cfg k value).1 := by
  have hrec : SoundLaw live (u.recordDirect k value) := recordDirect_law h k value
  unfold Sdu.direct
  dsimp only
  split
  · exact hardwareAdd_law hrec _ _ _
  · exact hardwareRemove_law hrec _ _

theorem lockdown_law (h : SoundLaw live u) (view : LockState) : SoundLaw live (u.lockdown cfg view).1 := by
  have hview : SoundLaw live { u with lockView := view } := h
  cases view with
  | held => exact addAll_law _ _ hview
  | clear => exact hardwareRemove_law (hardwareRemove_law hview _ _) _ _

/-- R161: the strike is no part of the law. -/
theorem strikeEnd_law (h : SoundLaw live u) : SoundLaw live u.strikeEnd := by
  refine .of_at h.1 (fun x _ => h.2 x) (setPlayer_at _) (.of_eq rfl) ⟨(h.2 .bell).1.of_same rfl ?_, fun hl => ?_⟩
  · rw [Sdu.strikeEnd, player_setPlayer_same]
  · have ht := (h.2 .bell).2 hl
    rwa [TimedAt, Sdu.strikeEnd, player_setPlayer_same]

/-- R169: with the list empty and every player idle nothing is left to break the law. -/
theorem reconfigure_law (h : SoundLaw live u) : SoundLaw live u.reconfigure := by
  have hidle : ∀ snd, (player u.reconfigure snd).playing = none := fun snd => by
    simp [player, Sdu.reconfigure, idlePlayer]
  refine ⟨⟨u.reconfigure_ok, fun hl => ?_⟩, fun snd =>
    ⟨outranked_of_idle (hidle snd) nofun, fun _ => timedAt_of_idle (hidle snd)⟩⟩
  obtain ⟨hlen, hsome, -⟩ := h.1.2 hl
  exact ⟨hlen, hsome, nofun⟩

end

end Sys2Proof.Machine

namespace Sys2Proof.Machine

/-! ### What is aside of the sound unit -/

/-- The sound unit and the mode stay as they were. -/
def Aside (s t : State) : Prop := t.sdu = s.sdu ∧ t.rst.mode = s.rst.mode

theorem Aside.refl (s : State) : Aside s s := ⟨rfl, rfl⟩

theorem Aside.trans {s t u : State} (h : Aside s t) (g : Aside t u) : Aside s u :=
  ⟨g.1.trans h.1, g.2.trans h.2⟩

theorem foldl_aside {α : Type} {f : State → α → State} (h : ∀ s x, Aside s (f s x)) (l : List α) :
    ∀ s, Aside s (l.foldl f s) := by
  induction l with
  | nil => exact Aside.refl
  | cons x l ih => exact fun s => (h s x).trans (ih _)

section
variable {s : State}

/-! #### Events of the other units -/

theorem State.takeCondition_aside (c : Condition) (v : Bool) : Aside s (s.takeCondition c v) := by
  unfold State.takeCondition
  split <;> exact ⟨rfl, rfl⟩

theorem State.rawChange_aside (n : Fin 32) (v : Bool) : Aside s (s.rawChange n v) := by
  unfold State.rawChange
  split
  · exact .refl s
  · dsimp only
    split
    · split
      · exact ⟨rfl, rfl⟩
      · split <;> exact ⟨rfl, rfl⟩
    all_goals exact ⟨rfl, rfl⟩

theorem State.attemptSelection_aside : Aside s s.attemptSelection := by
  unfold State.attemptSelection
  split
  · split <;> exact ⟨rfl, rfl⟩
  · exact .refl s

theorem State.openWindow_aside : Aside s s.openWindow :=
  Aside.trans (t := (s.putRtu _ _).putTlu _ _) ⟨rfl, rfl⟩ State.attemptSelection_aside

theorem State.deliver_aside (r : Option Reception) : Aside s (s.deliver r) := by
  unfold State.deliver
  split <;> exact ⟨rfl, rfl⟩

theorem State.hear_aside (heard : List Bool) : Aside s (s.hear heard) :=
  foldl_aside (fun s _ => Aside.trans (t := s.putTlu _ _) ⟨rfl, rfl⟩ (State.deliver_aside _)) heard s

theorem State.loopSample_aside (away : Bool) : Aside s (s.loopSample away) := by
  unfold State.loopSample
  dsimp only
  split <;> exact ⟨rfl, rfl⟩

theorem State.listen_aside (heard : List Bool) : Aside s (s.listen heard) :=
  foldl_aside (fun _ => State.loopSample_aside) heard s

theorem State.replyTimerExpiry_aside : Aside s s.replyTimerExpiry := by
  unfold State.replyTimerExpiry
  split <;> exact ⟨rfl, rfl⟩

theorem State.notifyEvent_aside (entry beacon : Nat) : Aside s (s.notifyEvent entry beacon) := by
  unfold State.notifyEvent
  split <;> exact ⟨rfl, rfl⟩

theorem State.takeMoving_aside (u : MotionTaker) : Aside s (s.takeMoving u) := by
  cases u with
  | lmu => exact State.takeCondition_aside _ _
  | _ => exact ⟨rfl, rfl⟩

theorem State.takeStandstill_aside (u : MotionTaker) : Aside s (s.takeStandstill u) := by
  cases u with
  | lmu => exact State.takeCondition_aside _ _
  | _ => exact ⟨rfl, rfl⟩

theorem State.teardownChange_aside (byCommand changed : Bool) (r : Record) :
    Aside s (s.teardownChange byCommand changed r) := by
  unfold State.teardownChange
  split
  · split <;> exact ⟨rfl, rfl⟩
  · exact .refl s

theorem State.teardownAt_aside (former : Desk) (byCommand : Bool) {u : TeardownTaker} (hu : u ≠ .sdu) :
    Aside s (s.teardownAt former byCommand u) := by
  cases u with
  | tdu =>
    exact ((Aside.trans (t := (s.tduEvent _ _).rewrite _) ⟨rfl, rfl⟩ (State.teardownChange_aside _ _ _)).trans
      (State.teardownChange_aside _ _ _)).trans (State.teardownChange_aside _ _ _)
  | rtu => exact Aside.trans (t := s.rtuEvent _ _) ⟨rfl, rfl⟩ (State.teardownChange_aside _ _ _)
  | sru => exact Aside.trans (t := (s.sruEvent _ _).rewrite _) ⟨rfl, rfl⟩ (State.teardownChange_aside _ _ _)
  | sdu => exact absurd rfl hu
  | lcu => exact ⟨rfl, rfl⟩

theorem State.tluLockdown_aside (view : LockState) : Aside s (s.tluLockdown view) := by
  unfold State.tluLockdown
  dsimp only
  split
  · exact Aside.trans (t := s.putTlu _ _) ⟨rfl, rfl⟩ State.attemptSelection_aside
  · exact ⟨rfl, rfl⟩
  · exact ⟨rfl, rfl⟩

theorem State.takeLockdown_aside (view : LockState) {u : LockTaker} (hu : u ≠ .sdu) :
    Aside s (s.takeLockdown view u) := by
  cases u with
  | tdu => exact ⟨rfl, rfl⟩
  | lmu => exact State.takeCondition_aside _ _
  | tlu => exact State.tluLockdown_aside view
  | sdu => exact absurd rfl hu

/-! #### Rows of the other units -/

theorem execDebounceTimerExpiry_aside (line : Fin 32) : Aside s (s.after (execDebounceTimerExpiry line s)) := by
  unfold execDebounceTimerExpiry
  dsimp only
  split <;> exact ⟨rfl, rfl⟩

theorem execOnDelayTimerExpiry_aside (cell : Fin 16) : Aside s (s.after (execOnDelayTimerExpiry cell s)) := by
  unfold execOnDelayTimerExpiry
  dsimp only
  split <;> exact ⟨rfl, rfl⟩

theorem execGuardTimerExpiry_aside (j : Nat) : Aside s (s.after (execGuardTimerExpiry j s)) := by
  unfold execGuardTimerExpiry
  dsimp only
  split <;> exact ⟨rfl, rfl⟩

theorem execTelegramEnd_aside : Aside s (s.after (execTelegramEnd s)) := by
  unfold execTelegramEnd
  dsimp only
  split <;> exact ⟨rfl, rfl⟩

theorem execGapTimerExpiry_aside : Aside s (s.after (execGapTimerExpiry s)) := by
  unfold execGapTimerExpiry
  dsimp only
  split
  · exact Aside.trans (t := (s.take _).putTlu _ _) ⟨rfl, rfl⟩ State.attemptSelection_aside
  · exact ⟨rfl, rfl⟩

theorem execPollEnd_aside : Aside s (s.after (execPollEnd s)) := by
  unfold execPollEnd
  dsimp only
  split <;> exact ⟨rfl, rfl⟩

theorem execBadReply_aside (heard : List Bool) : Aside s (s.after (execBadReply heard s)) := by
  unfold execBadReply
  dsimp only
  split
  · exact State.replyTimerExpiry_aside (s := s.take _)
  · exact State.listen_aside (s := s.take _) _

theorem execPortTransaction_aside (p : Port) (frame : PortFrame) :
    Aside s (s.after (execPortTransaction p frame s)) := by
  unfold execPortTransaction
  dsimp only [State.after]
  split
  · refine ⟨rfl, ?_⟩
    unfold Rst.arrives
    split <;> rfl
  · exact ⟨rfl, rfl⟩

end

end Sys2Proof.Machine

namespace Sys2Proof.Machine

/-! ### What every row keeps of the sound unit (R159, R160, R162, R168, R169) -/

/-- The sound unit's law at the state; where it is `live` the list is empty in CONFIGURING. -/
def LawAt (live : Prop) (s : State) : Prop :=
  SoundLaw live s.sdu ∧ (live → s.rst.mode = .configuring → s.sdu.requests = [])

theorem lawAt_false {s : State} : LawAt False s ↔ SoundOk s.sdu := by
  simp only [LawAt, soundLaw_false, false_imp_iff, and_true]

theorem lawAt_true {s : State} : LawAt True s ↔ SoundRuns s := by
  simp only [LawAt, soundLaw_true, SoundRuns, true_imp_iff, and_assoc]

/-- `t` keeps of the sound unit what `s` meets. -/
def Rings (live : Prop) (s t : State) : Prop := LawAt live s → LawAt live t

theorem Rings.refl {live : Prop} (s : State) : Rings live s s := id

theorem Rings.trans {live : Prop} {s t u : State} (h : Rings live s t) (g : Rings live t u) : Rings live s u := g ∘ h

section
variable {live : Prop} {s t : State}

theorem Aside.rings (h : Aside s t) : Rings live s t := by
  simp only [Rings, LawAt, h.1, h.2]
  exact id

/-- In SERVICE the unit's law is all there is. -/
theorem Rings.of_service (hm : t.rst.mode = .service) (h : SoundLaw live s.sdu → SoundLaw live t.sdu) : Rings live s t :=
  fun hs => ⟨h hs.1, fun _ hc => by rw [hm] at hc; cases hc⟩

/-- An event by which no request joins keeps an empty list empty. -/
theorem Rings.of_shrinks (hm : t.rst.mode = s.rst.mode) (hr : Shrinks s.sdu t.sdu)
    (h : SoundLaw live s.sdu → SoundLaw live t.sdu) : Rings live s t := by
  refine fun hs => ⟨h hs.1, fun hl hc => ?_⟩
  have hnil := hs.2 hl (hm ▸ hc)
  have hkeys : requestKeys t.sdu = [] := by simpa [Shrinks, requestKeys, hnil] using hr
  simpa [requestKeys] using hkeys

theorem State.sduEvent_rings {r : Sdu × List Instr} (hr : Shrinks s.sdu r.1)
    (h : SoundLaw live s.sdu → SoundLaw live r.1) (reads : StoreWord → Bool) : Rings live s (s.sduEvent reads r) :=
  .of_shrinks rfl hr h

/-! #### The sound unit's rows -/

theorem execHardwareSoundAdd_rings (src : SoundSource) (snd : Sounder) (pattern : Fin 16) :
    Rings live s (s.after (execHardwareSoundAdd src snd pattern s)) := by
  unfold execHardwareSoundAdd
  dsimp only
  split
  · exact Aside.rings ⟨rfl, rfl⟩
  next hm => exact .of_service hm fun h => hardwareAdd_law h src snd pattern

theorem execHardwareSoundRemove_rings (src : SoundSource) (snd : Sounder) :
    Rings live s (s.after (execHardwareSoundRemove src snd s)) := by
  unfold execHardwareSoundRemove
  dsimp only
  split
  · exact Aside.rings ⟨rfl, rfl⟩
  next hm => exact .of_service hm fun h => hardwareRemove_law h src snd

theorem execDirectSoundPermitEvent_rings (k : DirectSound) (value : Bool) :
    Rings live s (s.after (execDirectSoundPermitEvent k value s)) := by
  unfold execDirectSoundPermitEvent
  dsimp only
  split
  · exact .of_shrinks rfl (.of_eq (s.sdu.recordDirect_requests k value)) fun h => recordDirect_law h k value
  next hm => exact .of_service hm fun h => direct_law h k value

theorem execPhaseTimerExpiry_rings (snd : Sounder) : Rings live s (s.after (execPhaseTimerExpiry snd s)) := by
  unfold execPhaseTimerExpiry
  dsimp only
  split
  · exact .of_shrinks rfl (s.sdu.phaseExpiry_shrinks _ snd) fun h => phaseExpiry_law h snd
  · exact Aside.rings ⟨rfl, rfl⟩

theorem execStrikeEnd_rings : Rings live s (s.after (execStrikeEnd s)) := .of_shrinks rfl (.of_eq rfl) strikeEnd_law

theorem State.teardownAt_rings (former : Desk) (byCommand : Bool) (u : TeardownTaker) :
    Rings live s (s.teardownAt former byCommand u) := by
  by_cases hu : u = .sdu
  · subst hu
    exact (State.sduEvent_rings (s.sdu.teardown_shrinks s.settings former) (fun h => teardown_law h former) _).trans
      (State.teardownChange_aside _ _ _).rings
  · exact (State.teardownAt_aside former byCommand hu).rings

theorem State.takeLockdown_rings (view : LockState) (u : LockTaker) : Rings live s (s.takeLockdown view u) := by
  by_cases hu : u = .sdu
  · subst hu
    change Rings live s (s.sduLockdown view)
    unfold State.sduLockdown
    split
    · exact .of_shrinks rfl (.of_eq rfl) id
    next hm => exact .of_service hm fun h => lockdown_law h view
  · exact (State.takeLockdown_aside view hu).rings

/-- R188: the patterns of R159, an empty list, and every player idle. -/
theorem soundLaw_reset : SoundLaw live Sdu.reset := by
  have hidle : ∀ snd, (player Sdu.reset snd).playing = none := fun snd => by cases snd <;> rfl
  exact ⟨⟨⟨Nat.zero_le _, List.nodup_nil⟩, fun _ => ⟨by decide, by decide, nofun⟩⟩, fun snd =>
    ⟨outranked_of_idle (hidle snd) nofun, fun _ => timedAt_of_idle (hidle snd)⟩⟩

theorem execPowerOn_rings : Rings live s (s.after (execPowerOn s)) := fun _ => ⟨soundLaw_reset, fun _ _ => rfl⟩

/-! #### Every row, but for the requests at the ports -/

/-- A row is a request at a port, or an event that keeps the law. -/
theorem row_cases (live : Prop) (s : State) (c : Instr) :
    ((∃ p r, exec c s = .next (s.request p r)) ∧ s.takeEvent c = s) ∨ Rings live s (s.after (exec c s)) := by
  cases c with
  | powerOn => exact .inr execPowerOn_rings
  | portTransaction p frame => exact .inr (execPortTransaction_aside p frame).rings
  | structuralChangeReport r => exact .inr (Aside.rings ⟨rfl, rfl⟩)
  | rawLevelChange line level => exact .inr (State.rawChange_aside (s := s.take _) line level).rings
  | debounceTimerExpiry line => exact .inr (execDebounceTimerExpiry_aside line).rings
  | onDelayTimerExpiry cell => exact .inr (execOnDelayTimerExpiry_aside cell).rings
  | conditionChange c value => exact .inr (State.takeCondition_aside (s := s.take _) c value).rings
  | keyPermitEvent d value => exact .inr (Aside.rings ⟨rfl, rfl⟩)
  | vigilancePedalEvent d value => exact .inr (Aside.rings ⟨rfl, rfl⟩)
  | tractionPermitEvent value => exact .inr (Aside.rings ⟨rfl, rfl⟩)
  | atStopEvent value => exact .inr (Aside.rings ⟨rfl, rfl⟩)
  | directSoundPermitEvent k value => exact .inr (execDirectSoundPermitEvent_rings k value)
  | emergencyStopEvent value => exact .inr (Aside.rings ⟨rfl, rfl⟩)
  | tachPulse => exact .inr (Aside.rings ⟨rfl, rfl⟩)
  | standstillTimerExpiry => exact .inr (Aside.rings ⟨rfl, rfl⟩)
  | movingReport u => exact .inr (State.takeMoving_aside (s := s.take _) u).rings
  | standstillReport u => exact .inr (State.takeStandstill_aside (s := s.take _) u).rings
  | deskStateChange new => exact .inr (Aside.rings ⟨rfl, rfl⟩)
  | noDeskTeardown u former byCommand => exact .inr (State.teardownAt_rings (s := s.take _) former byCommand u)
  | leadingEndPublished e => exact .inr (Aside.rings ⟨rfl, rfl⟩)
  | frameTimerExpiry => exact .inr (Aside.rings ⟨rfl, rfl⟩)
  | statusFrame octets => exact .inr (Aside.rings ⟨rfl, rfl⟩)
  | staleTimerExpiry => exact .inr (Aside.rings ⟨rfl, rfl⟩)
  | graceTimerExpiry => exact .inr (Aside.rings ⟨rfl, rfl⟩)
  | pointGuardEntryChange active value => exact .inr (Aside.rings ⟨rfl, rfl⟩)
  | beaconTelegram heard => exact .inr (State.hear_aside (s := s.take _) heard).rings
  | pointStateTelegram heard => exact .inr (State.hear_aside (s := s.take _) heard).rings
  | trackRxError heard => exact .inr (State.hear_aside (s := s.take _) heard).rings
  | armRoute junction => exact .inr (Aside.rings ⟨rfl, rfl⟩)
  | clearance junction => exact .inr (Aside.rings ⟨rfl, rfl⟩)
  | stopZoneEnter platform mandatory => exact .inr (Aside.rings ⟨rfl, rfl⟩)
  | stopZoneLeave platform => exact .inr (Aside.rings ⟨rfl, rfl⟩)
  | notifyAction entry beacon =>
    exact .inr (Aside.trans (State.notifyEvent_aside entry beacon) ⟨rfl, rfl⟩).rings
  | windowOpen => exact .inr (State.openWindow_aside (s := s.take _)).rings
  | windowClose => exact .inr (Aside.rings ⟨rfl, rfl⟩)
  | guardTimerExpiry junction => exact .inr (execGuardTimerExpiry_aside junction).rings
  | lateDecisionReport platform => exact .inr (Aside.rings ⟨rfl, rfl⟩)
  | owedReport => exact .inr (State.attemptSelection_aside (s := s.take _)).rings
  | telegramEnd => exact .inr execTelegramEnd_aside.rings
  | gapTimerExpiry => exact .inr execGapTimerExpiry_aside.rings
  | pollEnd => exact .inr execPollEnd_aside.rings
  | goodReply heard => exact .inr (State.listen_aside (s := s.take _) heard).rings
  | badReply heard => exact .inr (execBadReply_aside heard).rings
  | unsolicitedCharacter => exact .inr (Aside.rings ⟨rfl, rfl⟩)
  | hardwareSoundAdd src snd pattern => exact .inr (execHardwareSoundAdd_rings src snd pattern)
  | hardwareSoundRemove src snd => exact .inr (execHardwareSoundRemove_rings src snd)
  | phaseTimerExpiry snd => exact .inr (execPhaseTimerExpiry_rings snd)
  | strikeEnd => exact .inr execStrikeEnd_rings
  | severeFault kind source context recoverable effort => exact .inr (Aside.rings ⟨rfl, rfl⟩)
  | lockdownViewChange u view => exact .inr (State.takeLockdown_rings (s := s.take _) view u)
  | noticeRaise c => exact .inr (Aside.rings ⟨rfl, rfl⟩)
  | receiverRecoveringBit carrier => exact .inr (Aside.rings ⟨rfl, rfl⟩)
  | _ => exact .inl ⟨⟨_, _, rfl⟩, rfl⟩

/-- Before a request an event is taken by its row, or stays. -/
theorem takeEvent_cases (s : State) (c : Instr) : s.takeEvent c = s ∨ s.takeEvent c = s.after (exec c s) := by
  unfold State.takeEvent
  split
  case h_27 => exact .inl rfl
  all_goals exact .inr rfl

theorem State.takeEvent_rings (s : State) (c : Instr) : Rings live s (s.takeEvent c) := by
  rcases row_cases live s c with ⟨-, h⟩ | h
  · rw [h]
    exact .refl s
  · rcases takeEvent_cases s c with he | he
    · rw [he]
      exact .refl s
    · rwa [he]

theorem State.takeAll_rings (l : List Instr) : ∀ s : State, Rings live s (s.takeAll l) := by
  induction l with
  | nil => exact Rings.refl
  | cons c l ih => exact fun s => (s.takeEvent_rings c).trans (ih _)

theorem State.completeTeardown_rings (s : State) : Rings live s s.completeTeardown :=
  (((State.takeAll_rings _ _).trans (State.takeAll_rings _ _)).trans (State.takeAll_rings _ _)).trans
    (State.takeAll_rings _ _)

end

end Sys2Proof.Machine

namespace Sys2Proof.Machine

/-! ### What a request keeps of the sound unit -/

section
variable {live : Prop} {s : State}

/-! #### WRITEs -/

/-- R159: a table in the place of the patterns, where no request names a pattern. -/
theorem SoundLaw.with_patterns {u : Sdu} {t : Table Pattern 16} (h : SoundLaw live u) (hempty : live → u.requests = [])
    (hlen : live → ∀ i : Fin 16, t[i].steps.length ≤ 8)
    (hsome : ∀ i : Fin 16, t[i].steps = [] ∨ ∃ x ∈ t[i].steps, 0 < x.on ∨ 0 < x.off) :
    SoundLaw live { u with patterns := t } := by
  refine ⟨⟨h.1.1, fun hl => ⟨hlen hl, hsome, fun q hq => ?_⟩⟩, h.2⟩
  rw [show u.requests = [] from hempty hl] at hq
  cases hq

/-- R159: the pattern table that a WRITE asks for has no pattern of more than eight steps where the old one has none. -/
theorem patternsWrite_length {old t : Table Pattern 16} {index : Byte} {contents : List Byte}
    (h : TableWrite putPattern Pattern.ok old t index contents) (hold : ∀ i : Fin 16, old[i].steps.length ≤ 8)
    (i : Fin 16) : t[i].steps.length ≤ 8 := by
  have hok : ∀ p : Pattern, p.ok = true → p.steps.length ≤ 8 := fun p hp => by
    simp only [Pattern.ok, Bool.and_eq_true, decide_eq_true_eq] at hp
    exact hp.1.1
  rcases h with ⟨j, e, -, -, he, rfl⟩ | ⟨-, -, hall⟩
  · by_cases hij : j.val = i.val
    · rw [Fin.getElem_fin, Vector.getElem_set, if_pos hij]
      exact hok e he
    · rw [Fin.getElem_fin, Vector.getElem_set, if_neg hij]
      exact hold i
  · exact hok _ (hall i)

theorem patterns_play_of_check {t : Table Pattern 16} (h : ¬ t.toList.any playsInNoTime = true) (i : Fin 16) :
    t[i].steps = [] ∨ ∃ x ∈ t[i].steps, 0 < x.on ∨ 0 < x.off := by
  by_contra hno
  push Not at hno
  exact h (any_playsInNoTime.mpr ⟨i, hno.1, fun x hx => by simpa using hno.2 x hx⟩)

/-- R159: a PATTERNS write is taken in CONFIGURING, where the list is empty. -/
theorem patternsWriteAnswer_rings (hm : s.rst.mode = .configuring) (index : Byte) (contents : List Byte) :
    Rings live s (patternsWriteAnswer index contents s).state := by
  unfold patternsWriteAnswer
  split
  · exact .refl s
  next t ht =>
    split
    · exact .refl s
    next hno =>
      have hwrite := (writeTable_eq_some getPattern_exact (by decide)).mp ht
      exact fun h => ⟨h.1.with_patterns (fun hl => h.2 hl hm) (fun hl => patternsWrite_length hwrite (h.1.1.2 hl).1)
        (patterns_play_of_check hno), h.2⟩

theorem demandWriteAnswer_aside (d : Desk) (index : Byte) (contents : List Byte) :
    Aside s (demandWriteAnswer d index contents s).state := by
  unfold demandWriteAnswer
  split
  · exact .refl s
  · dsimp only
    split <;> exact ⟨rfl, rfl⟩

theorem writeAnswer_rings {r : Record} (hm : modeAdmits s.rst.mode r = true) (index : Byte) (contents : List Byte) :
    Rings live s (writeAnswer index contents s r).state := by
  cases r with
  | demandA => exact (demandWriteAnswer_aside _ _ _).rings
  | demandB => exact (demandWriteAnswer_aside _ _ _).rings
  | vehicle =>
    unfold writeAnswer vehicleWriteAnswer
    dsimp only
    split <;> exact Aside.rings ⟨rfl, rfl⟩
  | settings =>
    unfold writeAnswer settingsWriteAnswer
    dsimp only
    split <;> exact Aside.rings ⟨rfl, rfl⟩
  | lines =>
    unfold writeAnswer linesWriteAnswer
    dsimp only
    split
    · exact .refl s
    · split <;> exact Aside.rings ⟨rfl, rfl⟩
  | cells =>
    unfold writeAnswer cellsWriteAnswer
    dsimp only
    split
    · exact .refl s
    · split <;> exact Aside.rings ⟨rfl, rfl⟩
  | permits =>
    unfold writeAnswer permitsWriteAnswer
    dsimp only
    split <;> exact Aside.rings ⟨rfl, rfl⟩
  | locations =>
    unfold writeAnswer locationsWriteAnswer
    dsimp only
    split <;> exact Aside.rings ⟨rfl, rfl⟩
  | patterns => exact patternsWriteAnswer_rings (eq_of_beq (a := Mode.configuring) hm).symm _ _
  | _ => exact .refl s

/-! #### The sound unit's commands (R164, R165) -/

theorem soundStartAnswer_rings (hm : s.rst.mode = .service) (p : Port) (args : List Byte) :
    Rings live s (soundStartAnswer p args s).state := by
  unfold soundStartAnswer
  split
  · exact .refl s
  · dsimp only
    split_ifs with hmay hbad hempty
    · exact .refl s
    · exact Aside.rings ⟨rfl, rfl⟩
    · exact .refl s
    · split
      next r hr =>
        exact .of_service hm fun h => offer_law (r := r) h (fun _ hnil => hempty (List.isEmpty_iff.mpr hnil)) hr
      next => exact .refl s

theorem soundStopAnswer_rings (p : Port) (args : List Byte) : Rings live s (soundStopAnswer p args s).state := by
  unfold soundStopAnswer
  split
  · exact .refl s
  next snd _ =>
    dsimp only
    split_ifs
    · exact Aside.rings ⟨rfl, rfl⟩
    · exact .of_shrinks rfl (s.sdu.remove_shrinks _ _ _) fun h => remove_law h _ snd
    · exact .refl s

/-! #### CONFIG_COMMIT and RECONFIGURE (R169) -/

/-- R189: the sound unit's part of a commit comes last, in SERVICE. -/
theorem State.commit_offers (s : State) : ∃ v, Aside (s.setMode .service) v ∧ s.commit = v.offerSounds := by
  refine ⟨_, ?_, rfl⟩
  exact Aside.trans ⟨rfl, rfl⟩ State.attemptSelection_aside

theorem State.commit_rings : Rings live s s.commit := by
  obtain ⟨v, ⟨hsdu, hmode⟩, hcommit⟩ := s.commit_offers
  rw [hcommit]
  refine .of_service hmode fun h => ?_
  rw [← show v.sdu = s.sdu from hsdu] at h
  exact addAll_law _ _ h

theorem configCommitAnswer_rings (args : List Byte) : Rings live s (configCommitAnswer args s).state := by
  unfold configCommitAnswer
  split
  · exact .refl s
  · split_ifs
    · exact Aside.rings ⟨rfl, rfl⟩
    · exact .refl s
    · exact .refl s
    · exact Aside.rings ⟨rfl, rfl⟩
    · exact State.commit_rings

theorem State.reconfigureRtu_aside : Aside s s.reconfigureRtu := by
  unfold State.reconfigureRtu State.endGuard
  split
  · exact Aside.trans (t := (s.putRtu _ _).entryEvent _ _ _) ⟨rfl, rfl⟩ (State.takeCondition_aside _ _)
  · exact ⟨rfl, rfl⟩

theorem State.reconfigureSru_aside : Aside s s.reconfigureSru := by
  unfold State.reconfigureSru
  dsimp only
  split
  · exact Aside.trans (t := (s.sruEvent _ _).rewrite _) ⟨rfl, rfl⟩ (State.takeCondition_aside _ _)
  · exact ⟨rfl, rfl⟩

/-- R190 steps 1 to 4 are the other units'. -/
def State.reconfigureOthers (s : State) : State :=
  ({ s with rst := { s.rst with slots := ⟨none, none, none⟩ } } : State).reconfigureRtu.reconfigureLcu.reconfigureSru

theorem State.reconfigureOthers_aside : Aside s s.reconfigureOthers := by
  have hslots : Aside s { s with rst := { s.rst with slots := ⟨none, none, none⟩ } } := ⟨rfl, rfl⟩
  have hlcu : ∀ t : State, Aside t t.reconfigureLcu := fun _ => ⟨rfl, rfl⟩
  exact ((hslots.trans State.reconfigureRtu_aside).trans (hlcu _)).trans State.reconfigureSru_aside

/-- R169, R190 step 5: the list is emptied and the players idled as CONFIGURING is entered. -/
theorem State.reconfigureParts_rings : Rings live s s.reconfigureParts := by
  let v := s.reconfigureOthers
  have hempty : Rings live v (((v.putSdu v.sdu.reconfigure []).rewrite playersWritten).setMode .configuring) := fun h =>
    ⟨reconfigure_law h.1, fun _ _ => rfl⟩
  have hlast := State.takeCondition_aside .serviceMode false
    (s := ((v.putSdu v.sdu.reconfigure []).rewrite playersWritten).setMode .configuring)
  exact (State.reconfigureOthers_aside.rings.trans hempty).trans
    (Aside.trans (u := s.reconfigureParts) hlast ⟨rfl, rfl⟩).rings

theorem reconfigureAnswer_rings (args : List Byte) : Rings live s (reconfigureAnswer args s).state := by
  unfold reconfigureAnswer
  split
  · exact .refl s
  · split_ifs
    · exact Aside.rings ⟨rfl, rfl⟩
    · exact (State.takeAll_rings _ _).trans State.reconfigureParts_rings
    · exact .refl s

/-! #### The other commands -/

theorem deskClaimAnswer_aside (p : Port) (args : List Byte) : Aside s (deskClaimAnswer p args s).state := by
  unfold deskClaimAnswer
  split
  · split_ifs <;> exact ⟨rfl, rfl⟩
  · exact .refl s
  · exact .refl s

theorem deskReleaseAnswer_aside (p : Port) (args : List Byte) : Aside s (deskReleaseAnswer p args s).state := by
  unfold deskReleaseAnswer
  split
  · split_ifs <;> exact ⟨rfl, rfl⟩
  · exact .refl s
  · exact .refl s

theorem deskForceReleaseAnswer_aside (args : List Byte) : Aside s (deskForceReleaseAnswer args s).state := by
  unfold deskForceReleaseAnswer
  split
  · exact .refl s
  · split_ifs <;> exact ⟨rfl, rfl⟩

theorem supervisorCeilingAnswer_aside (args : List Byte) : Aside s (supervisorCeilingAnswer args s).state := by
  unfold supervisorCeilingAnswer
  split
  · exact .refl s
  · split <;> exact ⟨rfl, rfl⟩

theorem State.routeCommand_aside (l : List SettingName) (r : RouteResult) : Aside s (s.routeCommand l r).state := by
  unfold State.routeCommand
  split <;> exact ⟨rfl, rfl⟩

theorem routeInsertAnswer_aside (p : Port) (args : List Byte) : Aside s (routeInsertAnswer p args s).state := by
  unfold routeInsertAnswer
  split
  · exact State.routeCommand_aside _ _
  · exact .refl s

theorem routeSetCodeAnswer_aside (args : List Byte) : Aside s (routeSetCodeAnswer args s).state := by
  unfold routeSetCodeAnswer
  split
  · exact State.routeCommand_aside _ _
  · exact .refl s

theorem routeCancelAnswer_aside (args : List Byte) : Aside s (routeCancelAnswer args s).state := by
  unfold routeCancelAnswer
  split
  · exact State.routeCommand_aside _ _
  · exact .refl s

theorem routeOverrideAnswer_aside (args : List Byte) : Aside s (routeOverrideAnswer args s).state := by
  unfold routeOverrideAnswer
  split
  · exact State.routeCommand_aside _ _
  · exact .refl s

theorem planSyncAnswer_aside (args : List Byte) : Aside s (planSyncAnswer args s).state := by
  unfold planSyncAnswer
  split
  · exact State.routeCommand_aside _ _
  · exact .refl s

theorem stopSetAnswer_aside (args : List Byte) : Aside s (stopSetAnswer args s).state := by
  unfold stopSetAnswer
  split
  · split_ifs <;> exact ⟨rfl, rfl⟩
  · exact .refl s

theorem stopClearAnswer_aside (args : List Byte) : Aside s (stopClearAnswer args s).state := by
  unfold stopClearAnswer
  split
  · split <;> exact ⟨rfl, rfl⟩
  · exact .refl s

theorem faultAckAnswer_aside (args : List Byte) : Aside s (faultAckAnswer args s).state := by
  unfold faultAckAnswer
  split
  · exact .refl s
  · split_ifs <;> exact ⟨rfl, rfl⟩

theorem lockdownReleaseAnswer_aside (args : List Byte) : Aside s (lockdownReleaseAnswer args s).state := by
  unfold lockdownReleaseAnswer
  split
  · exact .refl s
  · split_ifs <;> exact ⟨rfl, rfl⟩

theorem noticeClearAnswer_aside (p : Port) (args : List Byte) : Aside s (noticeClearAnswer p args s).state := by
  unfold noticeClearAnswer
  split
  · exact .refl s
  · split <;> exact ⟨rfl, rfl⟩

theorem noticeEnableAnswer_aside (p : Port) (args : List Byte) : Aside s (noticeEnableAnswer p args s).state := by
  unfold noticeEnableAnswer
  split
  · exact .refl s
  · split <;> exact ⟨rfl, rfl⟩

theorem commandAnswer_rings {c : CommandName} (hm : modeAdmits s.rst.mode (commandTarget c) = true) (p : Port)
    (args : List Byte) : Rings live s (commandAnswer p args s c).state := by
  cases c with
  | deskClaim => exact (deskClaimAnswer_aside _ _).rings
  | deskRelease => exact (deskReleaseAnswer_aside _ _).rings
  | deskForceRelease => exact (deskForceReleaseAnswer_aside _).rings
  | supervisorCeiling => exact (supervisorCeilingAnswer_aside _).rings
  | routeInsert => exact (routeInsertAnswer_aside _ _).rings
  | routeSetCode => exact (routeSetCodeAnswer_aside _).rings
  | routeCancel => exact (routeCancelAnswer_aside _).rings
  | routeOverride => exact (routeOverrideAnswer_aside _).rings
  | planSync => exact (planSyncAnswer_aside _).rings
  | stopSet => exact (stopSetAnswer_aside _).rings
  | stopClear => exact (stopClearAnswer_aside _).rings
  | soundStart =>
    exact soundStartAnswer_rings (eq_of_beq (a := Mode.service) hm).symm _ _
  | soundStop => exact soundStopAnswer_rings _ _
  | faultAck => exact (faultAckAnswer_aside _).rings
  | lockdownRelease => exact (lockdownReleaseAnswer_aside _).rings
  | noticeClear => exact (noticeClearAnswer_aside _ _).rings
  | noticeEnable => exact (noticeEnableAnswer_aside _ _).rings
  | configCommit => exact configCommitAnswer_rings _
  | reconfigure => exact reconfigureAnswer_rings _

/-! #### A request served whole -/

theorem State.consume_aside (p : Port) (cond : Bool) (v : Verdict) : Aside s (s.consume p cond v) := by
  unfold State.consume
  split <;> exact ⟨rfl, rfl⟩

theorem State.cancelOthers_aside (p : Port) (changed : Bool) (r : Record) : Aside s (s.cancelOthers p changed r) := by
  unfold State.cancelOthers
  split <;> exact ⟨rfl, rfl⟩

/-- R6: the owner answers only where the mode admits the request. -/
theorem State.serveChecked_rings (p : Port) (cond : Bool) (r : Record) {modeOk : Bool} (portOk : Bool)
    {owner : State → Answer} (h : modeOk = true → Rings live s (owner s).state) :
    Rings live s (s.serveChecked p cond r modeOk portOk owner).1 := by
  refine Rings.trans ?_ ((State.cancelOthers_aside p _ r).trans (State.consume_aside p cond _)).rings
  split_ifs with hslot hmode hport
  iterate 3 exact .refl s
  exact h (by simpa using hmode)

theorem State.afterRead_aside (p : Port) (r : Record) (index : Byte) : Aside s (s.afterRead p r index) := by
  cases r with
  | sound =>
    unfold State.afterRead
    dsimp only
    split <;> exact ⟨rfl, rfl⟩
  | _ => exact ⟨rfl, rfl⟩

theorem State.serveRead_aside (p : Port) (reserve : Bool) (target index : Byte) :
    Aside s (s.serveRead p reserve target index).1 := by
  unfold State.serveRead
  split
  · exact .refl s
  · split
    · exact .refl s
    · split
      · exact .refl s
      · split
        · exact ⟨rfl, rfl⟩
        · dsimp only
          split
          · exact Aside.trans (State.afterRead_aside _ _ _) ⟨rfl, rfl⟩
          · exact State.afterRead_aside _ _ _

theorem State.answerRequest_rings (p : Port) (r : Request) : Rings live s (s.answerRequest p r).1 := by
  cases r with
  | null => exact .refl s
  | read target index => exact (State.serveRead_aside _ _ _ _).rings
  | readReserve target index => exact (State.serveRead_aside _ _ _ _).rings
  | write cond target index contents =>
    unfold State.answerRequest
    dsimp only
    split
    · exact (State.consume_aside _ _ _).rings
    · exact State.serveChecked_rings _ _ _ _ fun hm => writeAnswer_rings hm _ _
  | command cond code args =>
    unfold State.answerRequest
    dsimp only
    split
    · exact (State.consume_aside _ _ _).rings
    · exact State.serveChecked_rings _ _ _ _ fun hm => commandAnswer_rings hm _ _

theorem State.serve_rings (p : Port) (r : Request) : Rings live s (s.serve p r) := by
  have hwork : ∀ t : State, Aside t (t.engineWork p r) := fun _ => ⟨rfl, rfl⟩
  have hrespond : ∀ (t : State) (resp : Response), Aside t (t.respond p resp) := fun _ _ => ⟨rfl, rfl⟩
  exact ((s.completeTeardown_rings.trans (hwork _).rings).trans (State.answerRequest_rings p r)).trans
    (hrespond _ _).rings

theorem State.request_rings (p : Port) (r : Request) : Rings live s (s.request p r) := by
  have hserve : ∀ (t : State) (now : Prop) [Decidable now], Aside s t → Rings live s (if now then t.serve p r else t) := by
    intro t now _ ht
    split
    · exact ht.rings.trans (State.serve_rings p r)
    · exact ht.rings
  unfold State.request
  dsimp only
  apply hserve
  split <;> exact ⟨rfl, rfl⟩

theorem State.serveChoice_rings : Rings live s s.serveChoice := by
  unfold State.serveChoice
  split
  · split
    · exact State.serve_rings _ _
    · exact .refl s
  · exact .refl s

/-! #### A step -/

theorem exec_rings {t : State} {c : Instr} (h : exec c s = .next t) : Rings live s t := by
  rcases row_cases live s c with ⟨⟨p, r, he⟩, -⟩ | hr
  · cases he.symm.trans h
    exact State.request_rings p r
  · rwa [h] at hr

/-- A step is the command at the front of the queue, the oldest event handed on, or the request chosen. -/
theorem step_rings {t : State} (h : step s = .next t) : Rings live s t := by
  unfold step at h
  split at h
  next c rest _ => exact Rings.trans (t := { s with pending := rest }) (Aside.rings ⟨rfl, rfl⟩) (exec_rings h)
  next =>
    unfold idle at h
    split at h
    · exact exec_rings h
    · cases h
      exact State.serveChoice_rings

end

/-- Settles O49: one law, once without the timers and once with them, is kept by every event of the sound unit, and
every other event leaves the unit and the mode alone. -/
theorem everySounderPlaysAHighestRequestAtEveryStep : Obligations.EverySounderPlaysAHighestRequestAtEveryStep := by
  unfold Obligations.EverySounderPlaysAHighestRequestAtEveryStep
  exact ⟨fun _ _ hs h => lawAt_false.mp (step_rings h (lawAt_false.mpr hs)),
    fun _ _ hs h => lawAt_true.mp (step_rings h (lawAt_true.mpr hs))⟩

end Sys2Proof.Machine

namespace Sys2Proof.Machine

/-! ### The arbiter's choice as the rule says it (R168) -/

theorem find?_eq_some_iff_firstWith {α : Type} {l : List α} {good : α → Prop} {f : α → Bool} {x : α}
    (hf : ∀ y ∈ l, f y = true ↔ good y) : l.find? f = some x ↔ FirstWith l good x := by
  rw [List.find?_eq_some_iff_append]
  constructor
  · rintro ⟨hx, before, after, rfl, hb⟩
    exact ⟨before, after, rfl, fun y hy hgood => by simpa [(hf y (by simp [hy])).mpr hgood] using hb y hy,
      (hf x (by simp)).mp hx⟩
  · rintro ⟨before, after, rfl, hb, hx⟩
    exact ⟨(hf x (by simp)).mpr hx, before, after, rfl, fun y hy => by
      simpa using fun hy' => hb y hy ((hf y (by simp [hy])).mp hy')⟩

theorem eq_topPriority_iff {l : List SoundRequest} {x : SoundRequest} (hx : x ∈ l) :
    x.priority = topPriority l ↔ ∀ y ∈ l, y.priority ≤ x.priority := by
  constructor
  · exact fun h y hy => h ▸ topPriority_le hy
  · intro h
    obtain ⟨z, hz, htop⟩ := topPriority_attained (List.ne_nil_of_mem hx)
    exact le_antisymm (topPriority_le hx) (htop ▸ h z hz)

theorem chooseNext_oldest (last : Option SoundSource) (l : List SoundRequest) :
    chooseNext .oldestFirst last l = l.find? fun q => q.priority == topPriority l := List.head?_filter

theorem chooseNext_rotate (last : Option SoundSource) (l : List SoundRequest) : chooseNext .rotate last l =
    (l.find? fun q => q.priority == topPriority l && some q.source != last).or
      (l.find? fun q => q.priority == topPriority l) := by
  have hfind : (l.filter fun q => q.priority == topPriority l).find? (fun q => some q.source != last) =
      l.find? fun q => q.priority == topPriority l && some q.source != last := by
    simp only [List.find?_filter, Bool.decide_and, Bool.decide_eq_true]
  have hhead : (l.filter fun q => q.priority == topPriority l).head? = l.find? fun q => q.priority == topPriority l :=
    List.head?_filter
  rw [← hfind, ← hhead]
  unfold chooseNext
  dsimp only
  cases (l.filter fun q => q.priority == topPriority l).find? fun q => some q.source != last <;> rfl

/-- R168: without turns the oldest of the highest priority. -/
theorem chooseNext_oldest_iff {last : Option SoundSource} {l : List SoundRequest} {q : SoundRequest} :
    chooseNext .oldestFirst last l = some q ↔ FirstWith l (fun x => ∀ y ∈ l, y.priority ≤ x.priority) q := by
  rw [chooseNext_oldest]
  exact find?_eq_some_iff_firstWith fun y hy => beq_iff_eq.trans (eq_topPriority_iff hy)

/-- R168: in turns the oldest of the highest priority whose source was not the last to sound, where there is one. -/
theorem chooseNext_rotate_iff {last : Option SoundSource} {l : List SoundRequest} {q : SoundRequest} :
    let turn := fun (x : SoundRequest) => (∀ y ∈ l, y.priority ≤ x.priority) ∧ last ≠ some x.source
    chooseNext .rotate last l = some q ↔ FirstWith l turn q ∨
      ((∀ x ∈ l, ¬ turn x) ∧ FirstWith l (fun x => ∀ y ∈ l, y.priority ≤ x.priority) q) := by
  intro turn
  have hturn : ∀ y ∈ l, (y.priority == topPriority l && some y.source != last) = true ↔ turn y := fun y hy => by
    simp only [turn, Bool.and_eq_true, beq_iff_eq, bne_iff_ne, ne_eq, eq_topPriority_iff hy, eq_comm (a := last)]
  have hnone : (l.find? fun y => y.priority == topPriority l && some y.source != last) = none ↔ ∀ x ∈ l, ¬ turn x := by
    rw [List.find?_eq_none]
    exact forall₂_congr fun x hx => not_congr (hturn x hx)
  rw [chooseNext_rotate, Option.or_eq_some_iff, hnone, find?_eq_some_iff_firstWith hturn, ← chooseNext_oldest last,
    chooseNext_oldest_iff]

/-! ### The player of a request that begins (R160, R161) -/

theorem strikeOf_eq (cfg : Settings) (snd : Sounder) (ph : Phase) (time : Nat) : strikeOf cfg snd ph time =
    if snd = .bell ∧ ph = .on ∧ time ≠ 0 then some (min cfg.strikeWidth time) else none := by
  cases snd <;> cases ph <;> simp [strikeOf]

theorem patternStep_one (pat : Pattern) : (patternStep pat 1).on = (pat.steps[0]?.map (·.on)).getD 0 := by
  unfold patternStep
  cases pat.steps[0]? <;> rfl

section
variable {cfg : Settings} {u : Sdu} {q : SoundRequest}

theorem begin_player (cfg : Settings) (q : SoundRequest) (u : Sdu) :
    let on := (u.patterns[q.pattern].steps[0]?.map (·.on)).getD 0
    player (u.begin cfg q) q.sounder = ⟨some q.source, 1, .on, if on = 0 then none else some on, some q.source,
      if q.sounder = .bell ∧ on ≠ 0 then some (min cfg.strikeWidth on) else none⟩ := by
  simp only [Sdu.begin, player_setPlayer_same, enterPhase, phaseTime, patternStep_one, strikeOf_eq, true_and]

/-- R160: a request whose first phase lasts stays in it. -/
theorem begin_settled (hon : (u.patterns[q.pattern].steps[0]?.map (·.on)).getD 0 ≠ 0) :
    (u.begin cfg q).settlePhase cfg q.sounder = (u.begin cfg q, []) := by
  refine passZero_timed 64 ?_
  rw [begin_player]
  exact (if_neg hon).trans_ne (Option.some_ne_none _)

/-! ### Offers with patterns that play (R166) -/

/-- R168: with patterns that play, a joining request changes its sounder's player at most. -/
theorem join_eq (hlist : ListLaw True (u.append q)) (ho : Outranked u q.sounder) :
    ∃ p, u.join cfg q = (setPlayer (u.append q) q.sounder p, []) := by
  rcases join_cases cfg ho with ⟨-, h⟩ | ⟨-, -, -, h⟩
  · have hfind : findRequest (u.append q).requests q.source q.sounder = some q :=
      findRequest_of_mem hlist.1.2 (by simp [Sdu.append])
    obtain ⟨p, hp, -⟩ := begin_settles (cfg := cfg) (hlist.2 trivial) hfind
    exact ⟨p, h.trans hp⟩
  · exact ⟨player (u.append q) q.sounder, by rw [h, setPlayer_player]⟩

theorem replace_eq (h : SoundOk u) (hlist : ListLaw True u)
    (hold : (findRequest u.requests q.source q.sounder).isSome = true) (hpat : u.patterns[q.pattern].steps ≠ []) :
    ∃ p, u.replace cfg q = (setPlayer (Sdu.append { u with requests := dropRequest u.requests q.source q.sounder } q)
      q.sounder p, []) := by
  have hlist' := listLaw_replaced hlist hold fun _ => hpat
  rcases replace_cases cfg q u with ⟨-, he⟩ | ⟨hp, he⟩
  · obtain ⟨p, hfree, -⟩ := free_eq cfg hlist'.1 (hlist'.2 trivial) q.sounder
    exact ⟨p, he.trans hfree⟩
  · obtain ⟨p, hjoin⟩ := join_eq (cfg := cfg) hlist' ((dropRequest_law (soundLaw_false.mpr h) hp).2 q.sounder).1
    exact ⟨p, he.trans hjoin⟩

/-- R165, R168: with patterns that play, a removal changes its sounder's player at most. -/
theorem remove_eq (hlist : ListLaw True u) (src : SoundSource) (snd : Sounder) :
    ∃ p, u.remove cfg src snd = (setPlayer { u with requests := dropRequest u.requests src snd } snd p, []) := by
  have hlist' : ListLaw True { u with requests := dropRequest u.requests src snd } :=
    hlist.at (dropRequest_at src) (dropRequest_shrinks src snd u)
  rcases remove_cases cfg src snd u with ⟨-, h⟩ | ⟨-, h⟩
  · obtain ⟨p, hfree, -⟩ := free_eq cfg hlist'.1 (hlist'.2 trivial) snd
    exact ⟨p, h.trans hfree⟩
  · exact ⟨player { u with requests := dropRequest u.requests src snd } snd, by rw [h, setPlayer_player]⟩

end

/-! #### The request that is evicted (R166 step 3) -/

theorem foldr_min_eq {l : List SoundRequest} {n : Nat} {v : SoundRequest} (hv : v ∈ l) (hn : v.priority ≤ n)
    (hall : ∀ x ∈ l, v.priority ≤ x.priority) : l.foldr (fun q m => min q.priority m) n = v.priority := by
  have hle : ∀ l : List SoundRequest, v ∈ l → l.foldr (fun q m => min q.priority m) n ≤ v.priority := by
    intro l
    induction l with
    | nil => nofun
    | cons x l ih =>
      intro hv
      rcases List.mem_cons.mp hv with rfl | hv
      · exact Nat.min_le_left _ _
      · exact (Nat.min_le_right _ _).trans (ih hv)
  have hge : ∀ l : List SoundRequest, (∀ x ∈ l, v.priority ≤ x.priority) →
      v.priority ≤ l.foldr (fun q m => min q.priority m) n := by
    intro l
    induction l with
    | nil => exact fun _ => hn
    | cons x l ih =>
      exact fun h => le_min (h x List.mem_cons_self) (ih fun y hy => h y (List.mem_cons_of_mem _ hy))
  exact le_antisymm (hle l hv) (hge l hall)

theorem evictee_of_evicted {l : List SoundRequest} {priority : Nat} {v : SoundRequest} (h : Evicted l priority v) :
    evictee l priority = some v := by
  obtain ⟨hbelow, hlow, older, younger, rfl, hyoung⟩ := h
  have hmin : ((older ++ v :: younger).filter fun q => decide (q.priority < priority)).foldr
      (fun q m => min q.priority m) priority = v.priority :=
    foldr_min_eq (by simp [hbelow]) hbelow.le fun x hx => hlow x (List.mem_of_mem_filter hx)
  have hnone : ((younger.filter fun q => decide (q.priority < priority)).filter fun q => q.priority == v.priority) = [] := by
    refine List.filter_eq_nil_iff.mpr fun x hx => ?_
    have := hyoung x (List.mem_of_mem_filter hx)
    simp only [beq_iff_eq]
    omega
  simp only [evictee, hmin]
  rw [List.filter_append, List.filter_append, List.filter_cons_of_pos (by simpa using hbelow),
    List.filter_cons_of_pos (by simp), hnone]
  simp

theorem evictee_none {l : List SoundRequest} {priority : Nat} (h : ∀ x ∈ l, priority ≤ x.priority) :
    evictee l priority = none := by
  have hnil : (l.filter fun q => decide (q.priority < priority)) = [] :=
    List.filter_eq_nil_iff.mpr fun x hx => by simpa using h x hx
  simp [evictee, hnil]

theorem holds_iff {l : List SoundRequest} {src : SoundSource} {snd : Sounder} :
    Holds l src snd ↔ (findRequest l src snd).isSome = true := by
  simp [Holds, findRequest]

section
variable {cfg : Settings} {u : Sdu} {q : SoundRequest}

theorem offer_replace (h : Holds u.requests q.source q.sounder) : u.offer cfg q = some (u.replace cfg q) :=
  if_pos (holds_iff.mp h)

theorem offer_new (h : ¬ Holds u.requests q.source q.sounder) : findRequest u.requests q.source q.sounder = none := by
  simpa [holds_iff] using h

theorem offer_join (h : ¬ Holds u.requests q.source q.sounder) (hroom : u.requests.length < 12) :
    u.offer cfg q = some (u.join cfg q) := by
  simp only [Sdu.offer, offer_new h, Option.isSome_none, Bool.false_eq_true, if_false]
  exact if_pos hroom

theorem offer_full (h : ¬ Holds u.requests q.source q.sounder) (hfull : u.requests.length = 12) : u.offer cfg q =
    match evictee u.requests q.priority with
    | some v =>
      let r := u.remove cfg v.source v.sounder
      let t := { r.1 with lastEvent := some ⟨.evicted, v.source, v.sounder⟩ }.join cfg q
      some (t.1, r.2 ++ t.2 ++ [.noticeRaise .soundDropped])
    | none => none := by
  simp only [Sdu.offer, offer_new h, Option.isSome_none, Bool.false_eq_true, if_false]
  exact if_neg (by rw [hfull]; decide)

end

end Sys2Proof.Machine

namespace Sys2Proof.Machine

/-! ### Offers as the rules say them (R166, R168) -/

section
variable {cfg : Settings} {u : Sdu} {q : SoundRequest}

theorem soundOk_of_offer {r : Sdu × List Instr} (h : SoundOk u) (hr : u.offer cfg q = some r) : SoundOk r.1 :=
  soundLaw_false.mp (offer_law (soundLaw_false.mpr h) nofun hr)

/-- R166 step 1. -/
theorem offer_of_holds (h : SoundOk u) (hplays : SoundPlays u) (hpat : u.patterns[q.pattern].steps ≠ [])
    (hold : Holds u.requests q.source q.sounder) : ∃ p, u.offer cfg q =
      some (setPlayer { u with requests := without u.requests q.source q.sounder ++ [q] } q.sounder p, []) := by
  obtain ⟨p, hp⟩ := replace_eq (cfg := cfg) h ⟨h.1, fun _ => hplays⟩ (holds_iff.mp hold) hpat
  exact ⟨p, by rw [offer_replace hold, hp]; rfl⟩

/-- R162, R166: a list with room and without the request takes it. -/
theorem listLaw_joined (h : SoundOk u) (hplays : SoundPlays u) (hpat : u.patterns[q.pattern].steps ≠ [])
    (hnew : ¬ Holds u.requests q.source q.sounder) (hroom : u.requests.length < 12) : ListLaw True (u.append q) :=
  ListLaw.append ⟨h.1, fun _ => hplays⟩ hroom (findRequest_eq_none.mp (offer_new hnew)) fun _ => hpat

/-- R166 step 3: the evicted request leaves, then the new one joins. -/
theorem offer_of_evicted (h : SoundOk u) (hplays : SoundPlays u) (hpat : u.patterns[q.pattern].steps ≠ [])
    (hnew : ¬ Holds u.requests q.source q.sounder) (hfull : u.requests.length = 12) {v : SoundRequest}
    (hv : Evicted u.requests q.priority v) : ∃ p p', u.offer cfg q =
      some (setPlayer (setPlayer { u with
          requests := without u.requests v.source v.sounder ++ [q]
          lastEvent := some ⟨.evicted, v.source, v.sounder⟩ } v.sounder p) q.sounder p',
        [.noticeRaise .soundDropped]) := by
  have hlist : ListLaw True u := ⟨h.1, fun _ => hplays⟩
  have hevictee := evictee_of_evicted hv
  obtain ⟨p, hp⟩ := remove_eq (cfg := cfg) hlist v.source v.sounder
  have hlist' : ListLaw True (Sdu.append (u.remove cfg v.source v.sounder).1 q) :=
    listLaw_evicted hlist (evictee_mem hevictee) (offer_new hnew) fun _ => hpat
  have hlaw : SoundLaw False (u.remove cfg v.source v.sounder).1 := remove_law (soundLaw_false.mpr h) _ _
  rw [hp] at hlist' hlaw
  obtain ⟨p', hp'⟩ := join_eq (cfg := cfg) (q := q) (u := { setPlayer { u with
    requests := dropRequest u.requests v.source v.sounder } v.sounder p with
      lastEvent := some ⟨.evicted, v.source, v.sounder⟩ }) hlist' (hlaw.2 q.sounder).1
  exact ⟨p, p', by simp only [offer_full hnew hfull, hevictee, hp, hp']; rfl⟩

/-- R166 step 4. -/
theorem offer_of_none_below (hnew : ¬ Holds u.requests q.source q.sounder) (hfull : u.requests.length = 12)
    (hno : ∀ x ∈ u.requests, q.priority ≤ x.priority) : u.offer cfg q = none := by
  rw [offer_full hnew hfull, evictee_none hno]

/-- R166: no offer touches the patterns. -/
theorem offer_patterns {r : Sdu × List Instr} (h : u.offer cfg q = some r) : r.1.patterns = u.patterns := by
  have hjoin : ∀ w : Sdu, (w.join cfg q).1.patterns = w.patterns := by
    intro w
    unfold Sdu.join
    dsimp only
    split
    · exact (settlePhase_at cfg q.sounder _).patterns
    · split
      · exact (settlePhase_at cfg q.sounder _).patterns
      · rfl
  rcases offer_cases h with ⟨-, rfl⟩ | ⟨-, -, rfl⟩ | ⟨-, v, -, he⟩
  · rcases replace_cases cfg q u with ⟨-, he⟩ | ⟨-, he⟩
    · exact he ▸ (free_at cfg q.sounder _).patterns
    · exact he ▸ hjoin _
  · exact hjoin u
  · exact he ▸ (hjoin _).trans (remove_at cfg v.source v.sounder u).patterns

end

/-- Settles O44. -/
theorem offeredRequestsReplaceJoinOrEvict : Obligations.OfferedRequestsReplaceJoinOrEvict := by
  unfold Obligations.OfferedRequestsReplaceJoinOrEvict
  refine ⟨fun cfg q u h hplays hpat => ⟨fun r hr => ⟨soundOk_of_offer h hr, offer_patterns hr⟩, fun hold => ?_,
    fun hnew => ⟨fun hroom => ?_, fun hfull => ⟨fun v hv => ?_, offer_of_none_below hnew hfull⟩⟩⟩,
    fun last l q => ⟨chooseNext_oldest_iff, chooseNext_rotate_iff⟩,
    fun cfg u => ⟨fun q => ⟨rfl, fun y hy => player_setPlayer_other u q.sounder _ hy, begin_player cfg q u, begin_settled⟩,
      fun snd => ⟨fun q => next_of_some, next_of_nil cfg⟩⟩⟩
  · obtain ⟨p, hp⟩ := offer_of_holds (cfg := cfg) h hplays hpat hold
    exact ⟨_, hp, rfl, rfl, rfl, fun x hx => player_setPlayer_other _ _ _ hx⟩
  · obtain ⟨p, hp⟩ := join_eq (cfg := cfg) (listLaw_joined h hplays hpat hnew hroom) (h.2 q.sounder)
    refine ⟨_, offer_join hnew hroom, by rw [hp]; rfl, by rw [hp]; rfl, by rw [hp], fun x hx => ?_, fun y hy hle => ?_,
      fun hlow => ?_⟩
    · rw [hp]
      exact player_setPlayer_other _ _ _ hx
    · rcases join_cases cfg (h.2 q.sounder) with ⟨hlow, -⟩ | ⟨-, -, -, hjoin⟩
      · exact absurd (hlow y hy) (Nat.not_lt.mpr hle)
      · rw [hjoin]
        rfl
    · rcases join_cases cfg (h.2 q.sounder) with ⟨-, hjoin⟩ | ⟨y, hy, hle, -⟩
      · rw [hjoin]
        rfl
      · exact absurd (hlow y hy) (Nat.not_lt.mpr hle)
  · obtain ⟨p, p', hp⟩ := offer_of_evicted (cfg := cfg) h hplays hpat hnew hfull hv
    refine ⟨_, hp, rfl, rfl, rfl, fun x hx hxv => ?_⟩
    exact (player_setPlayer_other _ _ _ hx).trans (player_setPlayer_other _ _ _ hxv)

end Sys2Proof.Machine

namespace Sys2Proof.Machine

/-! ### The sound unit's commands (R164, R165) -/

theorem State.sound_of_bad_nil {s : State} (h : s.bad = []) (x : Sdu) (out : List Instr) :
    s.sound x out = { s with sdu := x, handed := s.handed ++ out } := by
  rw [State.sound_eq, driveFaults_of_bad_nil h, List.append_nil, h, List.filter_nil]

/-- R164 check 2: the port's authority as the rule says it. -/
theorem mayUse_iff {desk : DeskState} {p : Port} {snd : Sounder} : mayUse desk p snd = true ↔ MayPlay desk p snd := by
  have hdesk : ∀ d : Desk, (snd == deskBuzzer d || ((snd == .horn || snd == .bell) && deskHolder desk == some d)) = true ↔
      snd = deskBuzzer d ∨ ((snd = .horn ∨ snd = .bell) ∧ deskHolder desk = some d) := fun d => by
    simp only [Bool.or_eq_true, Bool.and_eq_true, beq_iff_eq]
  have hport : ∀ d e : Desk, deskPort d = deskPort e ↔ e = d := fun d e => by cases d <;> cases e <;> decide
  cases p with
  | supervisor => exact iff_of_true rfl (.inl rfl)
  | deskA =>
    refine (hdesk .a).trans ⟨fun h => .inr ⟨.a, rfl, h⟩, ?_⟩
    rintro (h | ⟨d, hd, h⟩)
    · cases h
    · exact (hport .a d).mp hd ▸ h
  | deskB =>
    refine (hdesk .b).trans ⟨fun h => .inr ⟨.b, rfl, h⟩, ?_⟩
    rintro (h | ⟨d, hd, h⟩)
    · cases h
    · exact (hport .b d).mp hd ▸ h

theorem portRequest_eq (p : Port) (a : StartArgs) : portRequest p a = portCall p a := rfl

section
variable {x : State} {p : Port} {args : List Byte} {a : StartArgs} {snd : Sounder}

theorem readAll_startArgs (hok : a.ok = true) (hc : Carries args (putStartArgs a)) :
    readAll getStartArgs args = some a := (getStartArgs_exact.readAll_iff args a).mpr ⟨hok, hc⟩

theorem soundStartAnswer_notAuthorised (hread : readAll getStartArgs args = some a)
    (hmay : ¬ MayPlay x.dau.state p a.sounder) : soundStartAnswer p args x = .refuse x .notAuthorised := by
  have hno : mayUse x.dau.state p a.sounder = false := by rwa [← mayUse_iff, Bool.not_eq_true] at hmay
  simp only [soundStartAnswer, hread, hno, Bool.not_false, if_true]

theorem soundStartAnswer_badPattern (hb : x.bad = []) (hread : readAll getStartArgs args = some a)
    (hmay : MayPlay x.dau.state p a.sounder) (hnil : x.sdu.patterns[a.pattern].steps = []) :
    soundStartAnswer p args x = .refuse x .badPattern := by
  have hempty : x.sdu.patterns[a.pattern].steps.isEmpty = true := List.isEmpty_iff.mpr hnil
  simp only [soundStartAnswer, hread, mayUse_iff.mpr hmay, meetsBad_of_bad_nil hb, hempty, Bool.not_true,
    Bool.false_eq_true, if_false, if_true]

theorem soundStartAnswer_listFull (hb : x.bad = []) (hread : readAll getStartArgs args = some a)
    (hmay : MayPlay x.dau.state p a.sounder) (hpat : x.sdu.patterns[a.pattern].steps ≠ [])
    (hfull : x.sdu.offer x.settings (portCall p a) = none) : soundStartAnswer p args x = .refuse x .listFull := by
  have hempty : x.sdu.patterns[a.pattern].steps.isEmpty = false := List.isEmpty_eq_false_iff.mpr hpat
  simp only [soundStartAnswer, hread, mayUse_iff.mpr hmay, meetsBad_of_bad_nil hb, hempty, portRequest_eq, hfull,
    Bool.not_true, Bool.false_eq_true, if_false]

theorem soundStartAnswer_taken (hb : x.bad = []) (hread : readAll getStartArgs args = some a)
    (hmay : MayPlay x.dau.state p a.sounder) (hpat : x.sdu.patterns[a.pattern].steps ≠ [])
    {r : Sdu × List Instr} (hr : x.sdu.offer x.settings (portCall p a) = some r) :
    soundStartAnswer p args x = ⟨{ x with sdu := r.1, handed := x.handed ++ r.2 }, .done [], true⟩ := by
  have hempty : x.sdu.patterns[a.pattern].steps.isEmpty = false := List.isEmpty_eq_false_iff.mpr hpat
  simp only [soundStartAnswer, hread, mayUse_iff.mpr hmay, meetsBad_of_bad_nil hb, hempty, portRequest_eq, hr,
    State.sound_of_bad_nil hb, Bool.not_true, Bool.false_eq_true, if_false]

theorem readAll_sounder (hc : Carries args (putEnum allSounders snd)) : readAll (getEnum allSounders) args = some snd :=
  ((getEnum_exact (all := allSounders)).readAll_iff args snd).mpr ⟨by cases snd <;> decide, hc⟩

theorem soundStopAnswer_none (hb : x.bad = []) (hread : readAll (getEnum allSounders) args = some snd)
    (hno : ¬ Holds x.sdu.requests (portSource p) snd) : soundStopAnswer p args x = ⟨x, .done [], false⟩ := by
  have hfind : findRequest x.sdu.requests (portSource p) snd = none := by simpa [holds_iff] using hno
  simp [soundStopAnswer, hread, meetsBad_of_bad_nil hb, hfind]

theorem soundStopAnswer_taken (hb : x.bad = []) (hread : readAll (getEnum allSounders) args = some snd)
    (hold : Holds x.sdu.requests (portSource p) snd) {v : Sdu}
    (hv : x.sdu.remove x.settings (portSource p) snd = (v, [])) :
    soundStopAnswer p args x = ⟨{ x with sdu := v }, .done [], true⟩ := by
  simp [soundStopAnswer, hread, meetsBad_of_bad_nil hb, holds_iff.mp hold, hv, State.sound_of_bad_nil hb]

end

/-- Settles O45: the answer of each check in turn, carried through the request. -/
theorem soundStartChecksInOrderAndOffers : Obligations.SoundStartChecksInOrderAndOffers := by
  unfold Obligations.SoundStartChecksInOrderAndOffers
  intro p cond a args s hb hok hc hreach
  have hread := readAll_startArgs hok hc
  refine ⟨fun hmay => ?_, fun hmay => ⟨fun hnil => ?_, fun hpat => ⟨fun hfull => ?_, fun r hr => ?_⟩⟩⟩
  · exact congrArg Host.Outcome.next ((State.request_command_answer hreach
      (soundStartAnswer_notAuthorised (x := s.background p _) hread hmay)).trans (Answer.finish_refuse _ _ _ _ _ _))
  · exact congrArg Host.Outcome.next ((State.request_command_answer hreach
      (soundStartAnswer_badPattern (x := s.background p _) hb hread hmay hnil)).trans (Answer.finish_refuse _ _ _ _ _ _))
  · exact congrArg Host.Outcome.next ((State.request_command_answer hreach
      (soundStartAnswer_listFull (x := s.background p _) hb hread hmay hpat hfull)).trans
      (Answer.finish_refuse _ _ _ _ _ _))
  · refine congrArg Host.Outcome.next ((State.request_command_answer hreach
      (soundStartAnswer_taken (x := s.background p _) hb hread hmay hpat hr)).trans ?_)
    exact (Answer.finish_done_kept (q := .command cond (commandCode .soundStart) args) (by rfl) (by rfl)).trans rfl

/-! ### Removals (R165, R167, R168) -/

/-- R165, R168: what a removal leaves of a unit by its law: the request is off the list, its sounder handed on where it
played that request and left as it is where it did not, and nothing is handed to another unit. -/
theorem remove_spec (cfg : Settings) {u : Sdu} (h : SoundOk u) (hplays : SoundPlays u) (src : SoundSource)
    (snd : Sounder) : ∃ v, u.remove cfg src snd = (v, []) ∧
      v = { u with requests := without u.requests src snd, players := v.players } ∧
      (∀ x, x ≠ snd → player v x = player u x) ∧ SoundOk v ∧
      ((player u snd).playing = some src → v = ((({ u with requests := without u.requests src snd } : Sdu).next cfg
        snd).settlePhase cfg snd).1) ∧
      ((player u snd).playing ≠ some src → v.players = u.players) := by
  have hlaw : SoundLaw False (u.remove cfg src snd).1 := remove_law (soundLaw_false.mpr h) src snd
  obtain ⟨p, hp⟩ := remove_eq (cfg := cfg) ⟨h.1, fun _ => hplays⟩ src snd
  rw [hp] at hlaw
  refine ⟨_, hp, rfl, fun x hx => player_setPlayer_other _ _ _ hx, soundLaw_false.mp hlaw, fun hplay => ?_,
    fun hplay => ?_⟩
  · rcases remove_cases cfg src snd u with ⟨-, he⟩ | ⟨hno, -⟩
    · exact congrArg Prod.fst (hp.symm.trans he)
    · exact absurd hplay hno
  · rcases remove_cases cfg src snd u with ⟨hyes, -⟩ | ⟨-, he⟩
    · exact absurd hyes hplay
    · exact congrArg (fun r => r.1.players) (hp.symm.trans he)

theorem hardwareRemove_none {cfg : Settings} {u : Sdu} {src : SoundSource} {snd : Sounder}
    (h : ¬ Holds u.requests src snd) : u.hardwareRemove cfg src snd = (u, []) := by
  have hfind : findRequest u.requests src snd = none := by simpa [holds_iff] using h
  simp [Sdu.hardwareRemove, hfind]

theorem hardwareRemove_held {cfg : Settings} {u : Sdu} {src : SoundSource} {snd : Sounder}
    (h : Holds u.requests src snd) : u.hardwareRemove cfg src snd =
      ((u.remove cfg src snd).1, .structuralChangeReport .sound :: (u.remove cfg src snd).2) :=
  if_pos (holds_iff.mp h)

/-! #### Rows of the sound unit with no bad word -/

section
variable {s : State}

/-- A row that is an event of the sound unit. -/
theorem State.take_sduEvent_of_bad_nil (h : s.bad = []) (c : Instr) (reads : StoreWord → Bool) (r : Sdu × List Instr) :
    (s.take c).sduEvent reads r = { s with sdu := r.1, handed := s.handed.erase c ++ r.2 } :=
  State.sduEvent_of_bad_nil (s := s.take c) h reads r

theorem State.take_sduEvent_rewrite_of_bad_nil (h : s.bad = []) (c : Instr) (reads written : StoreWord → Bool)
    (r : Sdu × List Instr) : ((s.take c).sduEvent reads r).rewrite written =
      { s with sdu := r.1, handed := s.handed.erase c ++ r.2 } := by
  rw [State.take_sduEvent_of_bad_nil h]
  exact State.rewrite_of_bad_nil { s with sdu := r.1, handed := s.handed.erase c ++ r.2 } h written

theorem State.take_putSdu_of_bad_nil (h : s.bad = []) (c : Instr) (x : Sdu) :
    (s.take c).putSdu x [] = { s with sdu := x, handed := s.handed.erase c ++ [] } := by
  rw [State.putSdu, show (s.take c).bad = [] from h, List.filter_nil, ← h]
  rfl

theorem exec_hardwareSoundRemove_configuring (hm : s.rst.mode = .configuring) (src : SoundSource) (snd : Sounder) :
    exec (.hardwareSoundRemove src snd) s = .next (s.take (.hardwareSoundRemove src snd)) := by
  simp only [exec, execHardwareSoundRemove, State.take_rst, hm]

theorem exec_hardwareSoundRemove_service (hb : s.bad = []) (hm : s.rst.mode = .service) (src : SoundSource)
    (snd : Sounder) : exec (.hardwareSoundRemove src snd) s = .next { s with
      sdu := (s.sdu.hardwareRemove s.settings src snd).1
      handed := s.handed.erase (.hardwareSoundRemove src snd) ++ (s.sdu.hardwareRemove s.settings src snd).2 } := by
  simp only [exec, execHardwareSoundRemove, State.take_rst, hm]
  exact congrArg Host.Outcome.next (State.take_sduEvent_of_bad_nil hb _ _ _)

end

/-- Settles O46: both removals are `Sdu.remove`, whose effect `remove_spec` states. -/
theorem removalsTakeTheSourcesRequestOffItsSounder : Obligations.RemovalsTakeTheSourcesRequestOffItsSounder := by
  unfold Obligations.RemovalsTakeTheSourcesRequestOffItsSounder
  intro s hb hok hplays goesOn
  refine ⟨fun p cond snd args hc hreach => ⟨fun hno => ?_, fun hold => ?_⟩, fun src snd => ⟨fun h => ?_, fun hm hold => ?_⟩⟩
  · refine congrArg Host.Outcome.next ((State.request_command_answer hreach
      (soundStopAnswer_none (x := s.background p _) hb (readAll_sounder hc) hno)).trans ?_)
    exact (Answer.finish_done_kept (q := .command cond (commandCode .soundStop) args) (by rfl) (by rfl)).trans rfl
  · obtain ⟨v, hv, hspec⟩ := remove_spec s.settings hok hplays (portSource p) snd
    refine ⟨v, congrArg Host.Outcome.next ((State.request_command_answer hreach
      (soundStopAnswer_taken (x := s.background p _) hb (readAll_sounder hc) hold hv)).trans ?_), hspec⟩
    exact (Answer.finish_done_kept (q := .command cond (commandCode .soundStop) args) (by rfl) (by rfl)).trans rfl
  · cases hm : s.rst.mode with
    | configuring => exact exec_hardwareSoundRemove_configuring hm src snd
    | service =>
      have hno : ¬ Holds s.sdu.requests src snd := h.resolve_left (by rw [hm]; nofun)
      rw [exec_hardwareSoundRemove_service hb hm, hardwareRemove_none hno, List.append_nil]
      rfl
  · obtain ⟨v, hv, hspec⟩ := remove_spec s.settings hok hplays src snd
    refine ⟨v, ?_, hspec⟩
    rw [exec_hardwareSoundRemove_service hb hm, hardwareRemove_held hold, hv]

end Sys2Proof.Machine

namespace Sys2Proof.Machine

/-! ### Hardware adds, direct permits and the lockdown state (R163, R167, R169) -/

/-- R163: a hardware source's priority and repeats as the rule says them. -/
theorem hardwareRequest_eq (u : Sdu) (src : SoundSource) (snd : Sounder) (pattern : Fin 16) :
    hardwareRequest u src snd pattern = hardwareCall u src snd pattern := by
  have hprio : hardwarePriority src = fixedPriority src := by cases src <;> rfl
  have hrep : (if src = .matrix then none else repeatsOf u.patterns[pattern].repeats) =
      if src = .matrix ∨ u.patterns[pattern].repeats = 0 then none else some u.patterns[pattern].repeats := by
    by_cases hsrc : src = .matrix
    · rw [if_pos hsrc, if_pos (.inl hsrc)]
    · simp only [hsrc, false_or]
      rfl
  rw [hardwareRequest, hardwareCall, hprio, hrep]

section
variable {cfg : Settings} {u : Sdu} {src : SoundSource} {snd : Sounder} {pattern : Fin 16}

theorem hardwareAdd_empty (h : u.patterns[pattern].steps = []) : u.hardwareAdd cfg src snd pattern =
    ({ u with lastEvent := some ⟨.emptyPattern, src, snd⟩ }, [.noticeRaise .soundDropped]) :=
  if_pos (List.isEmpty_iff.mpr h)

theorem hardwareAdd_offered (h : u.patterns[pattern].steps ≠ []) {r : Sdu × List Instr}
    (hr : u.offer cfg (hardwareCall u src snd pattern) = some r) :
    u.hardwareAdd cfg src snd pattern = (r.1, .structuralChangeReport .sound :: r.2) := by
  simp only [Sdu.hardwareAdd, List.isEmpty_eq_false_iff.mpr h, Bool.false_eq_true, if_false, hardwareRequest_eq, hr]

theorem hardwareAdd_dropped (h : u.patterns[pattern].steps ≠ [])
    (hr : u.offer cfg (hardwareCall u src snd pattern) = none) : u.hardwareAdd cfg src snd pattern =
      ({ u with lastEvent := some ⟨.dropped, src, snd⟩ },
        [.structuralChangeReport .sound, .noticeRaise .soundDropped]) := by
  simp only [Sdu.hardwareAdd, List.isEmpty_eq_false_iff.mpr h, Bool.false_eq_true, if_false, hardwareRequest_eq, hr]

end

section
variable {s : State}

theorem exec_hardwareSoundAdd_configuring (hm : s.rst.mode = .configuring) (src : SoundSource) (snd : Sounder)
    (pattern : Fin 16) :
    exec (.hardwareSoundAdd src snd pattern) s = .next (s.take (.hardwareSoundAdd src snd pattern)) := by
  simp only [exec, execHardwareSoundAdd, State.take_rst, hm]

theorem exec_hardwareSoundAdd_service (hb : s.bad = []) (hm : s.rst.mode = .service) (src : SoundSource) (snd : Sounder)
    (pattern : Fin 16) : exec (.hardwareSoundAdd src snd pattern) s = .next { s with
      sdu := (s.sdu.hardwareAdd s.settings src snd pattern).1
      handed := s.handed.erase (.hardwareSoundAdd src snd pattern) ++
        (s.sdu.hardwareAdd s.settings src snd pattern).2 } := by
  simp only [exec, execHardwareSoundAdd, State.take_rst, hm]
  exact congrArg Host.Outcome.next (State.take_sduEvent_rewrite_of_bad_nil hb _ _ _ _)

theorem exec_directSoundPermitEvent_configuring (hb : s.bad = []) (hm : s.rst.mode = .configuring) (k : DirectSound)
    (value : Bool) : exec (.directSoundPermitEvent k value) s = .next { s with
      sdu := s.sdu.recordDirect k value
      handed := s.handed.erase (.directSoundPermitEvent k value) ++ [] } := by
  simp only [exec, execDirectSoundPermitEvent, State.take_rst, hm]
  exact congrArg Host.Outcome.next (State.take_putSdu_of_bad_nil hb _ _)

theorem exec_directSoundPermitEvent_service (hb : s.bad = []) (hm : s.rst.mode = .service) (k : DirectSound)
    (value : Bool) : exec (.directSoundPermitEvent k value) s = .next { s with
      sdu := (s.sdu.direct s.settings k value).1
      handed := s.handed.erase (.directSoundPermitEvent k value) ++ (s.sdu.direct s.settings k value).2 } := by
  simp only [exec, execDirectSoundPermitEvent, State.take_rst, hm]
  exact congrArg Host.Outcome.next (State.take_sduEvent_rewrite_of_bad_nil hb _ _ _ _)

theorem exec_sduLockdown (s : State) (view : LockState) :
    exec (.lockdownViewChange .sdu view) s = .next ((s.take (.lockdownViewChange .sdu view)).sduLockdown view) := rfl

theorem exec_sduLockdown_configuring (hb : s.bad = []) (hm : s.rst.mode = .configuring) (view : LockState) :
    exec (.lockdownViewChange .sdu view) s = .next { s with
      sdu := { s.sdu with lockView := view }
      handed := s.handed.erase (.lockdownViewChange .sdu view) ++ [] } := by
  simp only [exec_sduLockdown, State.sduLockdown, State.take_rst, hm]
  exact congrArg Host.Outcome.next (State.take_putSdu_of_bad_nil hb _ _)

theorem exec_sduLockdown_service (hb : s.bad = []) (hm : s.rst.mode = .service) (view : LockState) :
    exec (.lockdownViewChange .sdu view) s = .next { s with
      sdu := (s.sdu.lockdown s.settings view).1
      handed := s.handed.erase (.lockdownViewChange .sdu view) ++ (s.sdu.lockdown s.settings view).2 } := by
  simp only [exec_sduLockdown, State.sduLockdown, State.take_rst, hm]
  exact congrArg Host.Outcome.next (State.take_sduEvent_rewrite_of_bad_nil hb _ _ _ _)

end

/-- R167: the two LOCKDOWN requests, BUZZER_A first. -/
theorem lockdown_held (cfg : Settings) (u : Sdu) :
    let a := ({ u with lockView := .held } : Sdu).hardwareAdd cfg .lockdown .buzzerA cfg.uses.lockdown
    let b := a.1.hardwareAdd cfg .lockdown .buzzerB cfg.uses.lockdown
    u.lockdown cfg .held = (b.1, a.2 ++ b.2) := by
  intro a b
  simp only [Sdu.lockdown, lockdownOffers, Sdu.addAll_cons, Sdu.addAll_nil, List.append_nil]
  rfl

/-- Settles O47: the rows in each mode, and the three outcomes of an add. -/
theorem hardwareSourcesAddTheirRequests : Obligations.HardwareSourcesAddTheirRequests := by
  unfold Obligations.HardwareSourcesAddTheirRequests
  intro s hb out cfg
  refine ⟨fun src snd pattern => ⟨fun hm => exec_hardwareSoundAdd_configuring hm src snd pattern,
      fun hm => exec_hardwareSoundAdd_service hb hm src snd pattern⟩,
    fun u src snd pattern => ⟨hardwareAdd_empty, fun hpat => ⟨fun r => hardwareAdd_offered hpat,
      hardwareAdd_dropped hpat⟩⟩,
    fun value => ⟨fun hm => ⟨exec_directSoundPermitEvent_configuring hb hm .horn value,
      exec_directSoundPermitEvent_configuring hb hm .bell value⟩,
      fun hm => ⟨exec_directSoundPermitEvent_service hb hm .horn value,
        exec_directSoundPermitEvent_service hb hm .bell value⟩⟩,
    fun view => ⟨fun hm => exec_sduLockdown_configuring hb hm view, fun hm hview => ?_, fun hm hview => ?_⟩⟩
  · subst hview
    rw [exec_sduLockdown_service hb hm, lockdown_held]
  · subst hview
    exact exec_sduLockdown_service hb hm .clear

/-! ### The expiry of a phase timer (R160, R161) -/

section
variable {cfg : Settings} {u : Sdu} {q : SoundRequest}

/-- R160, R161: the player as it enters a phase that lasts. -/
theorem enter_eq {k : Nat} {ph : Phase} (h : 0 < phaseTime (patternStep u.patterns[q.pattern] k) ph) :
    u.enter cfg q k ph = setPlayer u q.sounder { player u q.sounder with
      step := k
      phase := ph
      timer := some (phaseTime (patternStep u.patterns[q.pattern] k) ph)
      strike := if q.sounder = .bell ∧ ph = .on then
        some (min cfg.strikeWidth (phaseTime (patternStep u.patterns[q.pattern] k) ph)) else none } := by
  have hne : phaseTime (patternStep u.patterns[q.pattern] k) ph ≠ 0 := Nat.pos_iff_ne_zero.mp h
  simp only [Sdu.enter, enterPhase, strikeOf_eq, ne_eq, hne, not_false_eq_true, and_true, if_false]

/-- R160: a phase that lasts stays. -/
theorem enter_settled {k : Nat} {ph : Phase} (h : 0 < phaseTime (patternStep u.patterns[q.pattern] k) ph) :
    (u.enter cfg q k ph).settlePhase cfg q.sounder = (u.enter cfg q k ph, []) := by
  refine passZero_timed 64 ?_
  rw [enter_eq h, player_setPlayer_same]
  exact Option.some_ne_none _

theorem phaseExpiry_playing (ht : (player u q.sounder).timer ≠ none) (hq : playingRequest u q.sounder = some q) :
    u.phaseExpiry cfg q.sounder = (((u.endPhase cfg q).1.settlePhase cfg q.sounder).1,
      (u.endPhase cfg q).2 ++ ((u.endPhase cfg q).1.settlePhase cfg q.sounder).2) := by
  obtain ⟨t, ht⟩ := Option.ne_none_iff_exists'.mp ht
  simp only [Sdu.phaseExpiry, ht, hq]

/-- R160: a phase that lasts follows. -/
theorem phaseExpiry_enters {v : Sdu} {k : Nat} {ph : Phase} (ht : (player u q.sounder).timer ≠ none)
    (hq : playingRequest u q.sounder = some q) (hend : u.endPhase cfg q = (v.enter cfg q k ph, []))
    (htime : 0 < phaseTime (patternStep v.patterns[q.pattern] k) ph) :
    u.phaseExpiry cfg q.sounder = (v.enter cfg q k ph, []) := by
  rw [phaseExpiry_playing ht hq, hend, enter_settled htime]
  rfl

/-- R160: the request finishes, and its sounder is handed on. -/
theorem phaseExpiry_finishes {n : Nat} (hlist : ListLaw True u) (ht : (player u q.sounder).timer ≠ none)
    (hq : playingRequest u q.sounder = some q) (hoff : (player u q.sounder).phase = .off)
    (hlast : u.patterns[q.pattern].steps.length ≤ (player u q.sounder).step) (hr : q.repeats = some n) (hn : n ≤ 1) :
    ∃ p, u.phaseExpiry cfg q.sounder =
      (setPlayer { u with requests := without u.requests q.source q.sounder } q.sounder p,
        [.structuralChangeReport .sound]) := by
  have hlist' : ListLaw True { u with requests := dropRequest u.requests q.source q.sounder } :=
    hlist.at (dropRequest_at q.source) (dropRequest_shrinks _ _ u)
  obtain ⟨p, hp, -⟩ := free_eq cfg hlist'.1 (hlist'.2 trivial) q.sounder
  refine ⟨p, ?_⟩
  rw [phaseExpiry_playing ht hq, endPhase_finish hoff hlast hr hn]
  rw [Sdu.free] at hp
  simp only [hp, List.append_nil]
  rfl

/-- R160: the fall of the repeats as the rule says it. -/
theorem countRepeat_eq_map (u : Sdu) (q : SoundRequest) (n : Nat) : countRepeat u q n =
    { u with requests := u.requests.map fun x =>
        if x.source = q.source ∧ x.sounder = q.sounder then { x with repeats := some (n - 1) } else x } := by
  have hcount : counted q n = fun x =>
      if x.source = q.source ∧ x.sounder = q.sounder then { x with repeats := some (n - 1) } else x := by
    funext x
    simp only [counted, isRequest, Bool.and_eq_true, beq_iff_eq]
  rw [countRepeat_eq, hcount]

end

section
variable {s : State}

theorem exec_phaseTimerExpiry_stopped {snd : Sounder} (ht : (player s.sdu snd).timer = none) :
    exec (.phaseTimerExpiry snd) s = .next (s.take (.phaseTimerExpiry snd)) := by
  simp only [exec, execPhaseTimerExpiry, State.take_sdu, ht]

theorem exec_phaseTimerExpiry_running {snd : Sounder} (hb : s.bad = []) (ht : (player s.sdu snd).timer ≠ none) :
    exec (.phaseTimerExpiry snd) s = .next { s with
      sdu := (s.sdu.phaseExpiry s.settings snd).1
      handed := s.handed.erase (.phaseTimerExpiry snd) ++ (s.sdu.phaseExpiry s.settings snd).2 } := by
  obtain ⟨t, ht⟩ := Option.ne_none_iff_exists'.mp ht
  simp only [exec, execPhaseTimerExpiry, State.take_sdu, ht]
  exact congrArg Host.Outcome.next (State.take_sduEvent_rewrite_of_bad_nil hb _ _ _ _)

/-- R160: the row where a phase that lasts follows. -/
theorem exec_phaseTimerExpiry_enters {v : Sdu} {q : SoundRequest} {k : Nat} {ph : Phase} (hb : s.bad = [])
    (ht : (player s.sdu q.sounder).timer ≠ none) (hq : playingRequest s.sdu q.sounder = some q)
    (hend : s.sdu.endPhase s.settings q = (v.enter s.settings q k ph, []))
    (htime : 0 < phaseTime (patternStep v.patterns[q.pattern] k) ph) :
    exec (.phaseTimerExpiry q.sounder) s = .next { s with
      sdu := setPlayer v q.sounder { player v q.sounder with
        step := k
        phase := ph
        timer := some (phaseTime (patternStep v.patterns[q.pattern] k) ph)
        strike := if q.sounder = .bell ∧ ph = .on then
          some (min s.settings.strikeWidth (phaseTime (patternStep v.patterns[q.pattern] k) ph)) else none }
      handed := s.handed.erase (.phaseTimerExpiry q.sounder) } := by
  rw [exec_phaseTimerExpiry_running hb ht, phaseExpiry_enters ht hq hend htime, List.append_nil, enter_eq htime]

theorem exec_strikeEnd_of_bad_nil (hb : s.bad = []) : exec .strikeEnd s = .next { s with
    sdu := s.sdu.strikeEnd
    handed := s.handed.erase .strikeEnd } := by
  refine congrArg Host.Outcome.next ((State.sound_of_bad_nil (s := s.take .strikeEnd) hb _ _).trans ?_)
  rw [List.append_nil]
  rfl

end

/-- Settles O48: the end of a phase has one equation per row of its table; the phase it enters, where it lasts, stays. -/
theorem phaseExpiryGoesOnAsItsTableSays : Obligations.PhaseExpiryGoesOnAsItsTableSays := by
  unfold Obligations.PhaseExpiryGoesOnAsItsTableSays
  intro snd s hb hok hplays htimed c p
  refine ⟨exec_phaseTimerExpiry_stopped, fun q ht hq => ?_, exec_strikeEnd_of_bad_nil hb⟩
  obtain rfl := (playingRequest_some hq).2.2
  intro steps time enters
  have hlaw : SoundLaw True s.sdu := soundLaw_true.mpr ⟨hok, hplays, htimed⟩
  refine ⟨?_, fun hon htime => ?_, fun hoff hk htime => ?_, fun hoff hlast => ⟨fun hr htime => ?_,
    fun n hr hn htime => ?_, fun n hr hn => ?_⟩⟩
  · have hat := phaseExpiry_at s.settings s.sdu q.sounder
    obtain ⟨hok', -, htimed'⟩ := soundLaw_true.mp (phaseExpiry_law (cfg := s.settings) hlaw q.sounder)
    exact ⟨_, _, exec_phaseTimerExpiry_running hb ht, htimed', hok', hat.patterns, hat.lastEvent, hat.players⟩
  · exact exec_phaseTimerExpiry_enters hb ht hq (endPhase_on hon) htime
  · exact exec_phaseTimerExpiry_enters hb ht hq (endPhase_off hoff hk) htime
  · exact exec_phaseTimerExpiry_enters hb ht hq (endPhase_again hoff hlast hr) htime
  · have hend := endPhase_repeat (cfg := s.settings) hoff hlast hr hn
    rw [countRepeat_eq_map] at hend
    exact exec_phaseTimerExpiry_enters hb ht hq hend htime
  · obtain ⟨p', hp⟩ := phaseExpiry_finishes (cfg := s.settings) hlaw.1 ht hq hoff hlast hr hn
    have hexec := exec_phaseTimerExpiry_running hb ht
    rw [hp] at hexec
    exact ⟨_, hexec, rfl⟩

end Sys2Proof.Machine

namespace Sys2Proof.Machine

/-! ### Notice lines (R183) -/

/-- R191: every bit of a notice set stands for some cause. -/
theorem place_of_cause : ∀ i < 16, causePriority (Cause.ofNat i) - 1 = i := by decide

/-- R191: a set of causes is empty when no cause stands in it. -/
theorem set_eq_zero_iff (v : BitVec 16) : v = 0 ↔ ∀ c, inSet v c = false := by
  constructor
  · rintro rfl c
    exact BitVec.getLsbD_zero
  · intro hnone
    refine BitVec.eq_of_getLsbD_eq fun i hi => ?_
    have hbit : v.getLsbD (causePriority (Cause.ofNat i) - 1) = false := hnone _
    rw [place_of_cause i hi] at hbit
    exact hbit.trans BitVec.getLsbD_zero.symm

/-- R183, R191: a port's line is asserted exactly when some cause stands both in its pending and in its enabled set. -/
theorem noticeLine_iff (n : NoticeSets) :
    noticeLine n = true ↔ ∃ c, inSet n.pending c = true ∧ inSet n.enabled c = true := by
  have hcommon (c : Cause) : inSet (n.pending &&& n.enabled) c = (inSet n.pending c && inSet n.enabled c) :=
    BitVec.getLsbD_and
  rw [noticeLine, bne_iff_ne, ne_eq, set_eq_zero_iff, not_forall]
  simp only [hcommon, Bool.not_eq_false, Bool.and_eq_true]

/-- R180, R183: a raise asserts the line of every port that has the cause enabled, and changes no other. -/
theorem noticeLine_raiseIn (c : Cause) (n : NoticeSets) :
    noticeLine (raiseIn c n) = (noticeLine n || inSet n.enabled c) := by
  rw [Bool.eq_iff_iff, Bool.or_eq_true, noticeLine_iff, noticeLine_iff]
  have hpending (x : Cause) := (inSet_raiseIn c x n).1
  have henabled : (raiseIn c n).enabled = n.enabled := rfl
  simp only [hpending, henabled, or_and_right, exists_or, exists_eq_left, or_comm]

/-- R183: with no cause enabled a port's line is deasserted. -/
theorem noticeLine_of_none_enabled {n : NoticeSets} (h : n.enabled = 0) : noticeLine n = false := by
  rw [noticeLine, h, bne_eq_false_iff_eq]
  exact BitVec.and_zero

theorem exec_noticeRaise_notices {c : Cause} {s t : State} (h : exec (.noticeRaise c) s = .next t) (p : Port) :
    t.fnu.notices.get p = raiseIn c (s.fnu.notices.get p) := by
  obtain rfl : (s.take (.noticeRaise c)).takeNotice c = t := Host.Outcome.next.inj h
  simp only [State.takeNotice, State.rewrite_fnu, State.putFnu_fnu, State.take_fnu, Fnu.raise, PerPort.get_map]

/-- R172, R183: power-on leaves no cause enabled at any port. -/
theorem reset_enabled (p : Port) : (State.reset.fnu.notices.get p).enabled = 0 := by cases p <;> rfl

/-- Settles O54: the line is a question about causes, which a raise changes only at a cause it finds enabled. -/
theorem noticeLineFollowsAPendingEnabledCause : Obligations.NoticeLineFollowsAPendingEnabledCause := by
  unfold Obligations.NoticeLineFollowsAPendingEnabledCause
  refine ⟨noticeLine_iff, fun c s t hexec hc p => ?_, fun p => ?_⟩
  · obtain ⟨-, hdisabled⟩ := hc p
    rw [exec_noticeRaise_notices hexec, noticeLine_raiseIn, hdisabled, Bool.or_false]
  · exact ⟨reset_enabled p, noticeLine_of_none_enabled (reset_enabled p)⟩

end Sys2Proof.Machine

namespace Sys2Proof.Machine

/-! ### What a port frame must be, and what it carries (R186, R191) -/

/-- R186: a frame that none of the four failures meets. -/
def FrameOk (frame : List Byte) : Prop :=
  frame.length = 6 + 8 * (frame.getD 4 0).toNat ∧ (frame.getD 4 0).toNat ≤ 64 ∧ (frame.getD 0 0).toNat ≤ 4
    ∧ crc8 frame.dropLast = frame.getLastD 0

/-- R2, R191: the request that the octets of a checked frame carry. -/
def carriedRequest (kind flags target index : Byte) (payload : List Byte) : Request :=
  match kind.toNat with
  | 0 => .null
  | 1 => .read target index
  | 2 => .readReserve target index
  | 3 => .write (flags.getLsbD 0) target index payload
  | _ => .command (flags.getLsbD 0) target payload

section
variable {kind flags target index len : Byte} {rest : List Byte}

theorem parseFrame_of_frameOk (hok : FrameOk (kind :: flags :: target :: index :: len :: rest)) :
    parseFrame (kind :: flags :: target :: index :: len :: rest)
      = some (carriedRequest kind flags target index rest.dropLast) := by
  refine (if_pos hok).trans ?_
  unfold carriedRequest
  generalize kind.toNat = k
  match k with
  | 0 | 1 | 2 | 3 | _ + 4 => rfl

theorem parseFrame_of_not_frameOk (hbad : ¬ FrameOk (kind :: flags :: target :: index :: len :: rest)) :
    parseFrame (kind :: flags :: target :: index :: len :: rest) = none := if_neg hbad

end

theorem FrameOk.five_le_length {frame : List Byte} (h : FrameOk frame) : 5 ≤ frame.length := by
  obtain ⟨hlength, -⟩ := h
  omega

/-- R186: the checks alone decide; a frame too short to hold a length field fails by its number of octets. -/
theorem parseFrame_eq_none_iff (frame : List Byte) : parseFrame frame = none ↔ ¬ FrameOk frame := by
  match frame with
  | kind :: flags :: target :: index :: len :: rest =>
    refine ⟨fun hnone hok => ?_, parseFrame_of_not_frameOk⟩
    cases (parseFrame_of_frameOk hok).symm.trans hnone
  | [] | [_] | [_, _] | [_, _, _] | [_, _, _, _] =>
    exact iff_of_true rfl fun hok => absurd hok.five_le_length (by simp)

theorem not_frameOk_iff {frame : List Byte} : ¬ FrameOk frame ↔
    (frame.length ≠ 6 + 8 * (frame.getD 4 0).toNat ∨ 64 < (frame.getD 4 0).toNat
      ∨ 4 < (frame.getD 0 0).toNat ∨ crc8 frame.dropLast ≠ frame.getLastD 0) := by
  simp only [FrameOk, not_and_or, Nat.not_le, ne_eq]

/-- R191: five octets, the payload's blocks of eight, and the CRC make a frame that passes. -/
theorem frameOk_layout {kind flags target index : Byte} {n : Nat} {payload : List Byte} (hkind : kind.toNat ≤ 4)
    (hn : n ≤ 64) (hpayload : payload.length = 8 * n) :
    FrameOk (kind :: flags :: target :: index :: BitVec.ofNat 8 n :: (payload ++
      [crc8 (kind :: flags :: target :: index :: BitVec.ofNat 8 n :: payload)])) := by
  have hlen : (BitVec.ofNat 8 n).toNat = n := by
    rw [BitVec.toNat_ofNat, Nat.mod_eq_of_lt (by omega)]
  refine ⟨?_, by simpa [hlen] using hn, hkind, ?_⟩
  · simp [hlen, hpayload]
    omega
  · simp only [← List.cons_append, List.dropLast_concat, List.getLastD_concat]

theorem parseFrame_layout {kind flags target index : Byte} {n : Nat} {payload : List Byte} (hkind : kind.toNat ≤ 4)
    (hn : n ≤ 64) (hpayload : payload.length = 8 * n) :
    parseFrame (kind :: flags :: target :: index :: BitVec.ofNat 8 n :: (payload ++
      [crc8 (kind :: flags :: target :: index :: BitVec.ofNat 8 n :: payload)]))
        = some (carriedRequest kind flags target index payload) := by
  rw [parseFrame_of_frameOk (frameOk_layout hkind hn hpayload), List.dropLast_concat]

/-! ### A transaction at a port's slots (R185, R187) -/

section
variable {x : PortSlots} {frame : List Byte} {r : Request}

theorem PortSlots.transact_of_waiting (hw : x.waiting = some r) :
    x.transact frame = { x with returned := some (responseFrame ⟨.portBusy, .none, []⟩) } := by
  simp only [PortSlots.transact, hw]

theorem PortSlots.transact_of_request (hw : x.waiting = none) (hf : parseFrame frame = some r) :
    x.transact frame = ⟨some r, x.response, some (responseFrame x.response)⟩ := by
  simp only [PortSlots.transact, hw, hf]

theorem PortSlots.transact_of_bad (hw : x.waiting = none) (hf : parseFrame frame = none) :
    x.transact frame = ⟨none, ⟨.badFrame, .none, []⟩, some (responseFrame x.response)⟩ := by
  simp only [PortSlots.transact, hw, hf]

end

/-- R17: an arrival at a port moves the pass-over count and the service it counts for, and nothing else. -/
theorem Rst.arrives_moves (x : Rst) (p : Port) :
    ∃ (count : Nat) (last : Option Port), x.arrives p = { x with passOver := count, served := last } := by
  rw [Rst.arrives_eq]
  split
  · exact ⟨_, _, rfl⟩
  · exact ⟨x.passOver, x.served, rfl⟩

section
variable {p : Port} {inService : Bool} {frame : List Byte} {s : State}

theorem exec_portTransaction :
    exec (.portTransaction p ⟨frame, inService⟩) s = execPortTransaction p ⟨frame, inService⟩ s := rfl

/-- R185, R187: a transaction whose frame does not become the waiting request changes its port's slots alone. -/
theorem exec_portTransaction_of_not_taken (h : frameTaken s p frame = false) :
    exec (.portTransaction p ⟨frame, inService⟩) s = .next (s.atPort p (PortSlots.transact frame)) := by
  simp [exec_portTransaction, execPortTransaction, h]

/-- R17, R187: beside its port's slots, a transaction may move the pass-over count. -/
theorem exec_portTransaction_moves : ∃ (count : Nat) (last : Option Port),
    exec (.portTransaction p ⟨frame, inService⟩) s = .next { s.atPort p (PortSlots.transact frame) with
      rst := { s.rst with passOver := count, served := last } } := by
  obtain ⟨count, last, harrives⟩ := s.rst.arrives_moves p
  rw [exec_portTransaction, execPortTransaction]
  dsimp only
  split
  · exact ⟨count, last, by rw [State.atPort_rst, harrives]⟩
  · exact ⟨s.rst.passOver, s.rst.served, rfl⟩

end

/-- Settles O5: the four failures are the negation of the checks, and each outcome of a transaction is one case of
`PortSlots.transact`. -/
theorem framesAreCheckedAndTransactionsTaken : Obligations.FramesAreCheckedAndTransactionsTaken := by
  unfold Obligations.FramesAreCheckedAndTransactionsTaken
  refine ⟨⟨fun frame => (parseFrame_eq_none_iff frame).trans not_frameOk_iff,
    fun kind flags target index n payload hkind hn hpayload => parseFrame_layout hkind hn hpayload⟩,
    fun p inService frame s => ⟨fun r hw => ?_, fun hw r hf => ?_, fun hw hf => ?_⟩⟩
  · have hnot : frameTaken s p frame = false := by simp [frameTaken, hw]
    rw [exec_portTransaction_of_not_taken hnot, State.atPort, PortSlots.transact_of_waiting hw]
  · obtain ⟨count, last, hexec⟩ := exec_portTransaction_moves (p := p) (inService := inService) (frame := frame) (s := s)
    refine ⟨count, last, ?_⟩
    rw [hexec, State.atPort, PortSlots.transact_of_request hw hf]
  · have hnot : frameTaken s p frame = false := by simp [frameTaken, hf]
    rw [exec_portTransaction_of_not_taken hnot, State.atPort, PortSlots.transact_of_bad hw hf]

end Sys2Proof.Machine

namespace Sys2Proof.Machine

/-! ### The state after power-on (R188) -/

theorem exec_powerOn (s : State) : exec .powerOn s = .next { State.reset with
    lmu := { State.reset.lmu with raw := s.lmu.raw }, draws := s.draws, pending := s.pending } := rfl

/-- R185: every request slot EMPTY, every response slot as though a NULL had been served. -/
theorem reset_slots (p : Port) : State.reset.pif.get p = ⟨none, ⟨.done, .none, []⟩, none⟩ := by cases p <;> rfl

/-- R59, R60: the LINK entry is the lowest of those active. -/
theorem lowestCeiling_reset : lowestCeiling State.reset.tdu.ceilings = -60 := by decide

/-- Settles O4. -/
theorem powerOnPutsEveryUnitInItsPowerOnState : Obligations.PowerOnPutsEveryUnitInItsPowerOnState := by
  unfold Obligations.PowerOnPutsEveryUnitInItsPowerOnState
  have hrst : State.reset.rst = ⟨⟨none, none, none⟩, 0, .configuring, ⟨1, 1⟩, none⟩ := rfl
  have hdau : State.reset.dau = ⟨.noDesk, .none, ⟨false, false⟩, .none, .standstill⟩ := rfl
  have hlines (p : Port) : noticeLine (State.reset.fnu.notices.get p) = false :=
    noticeLine_of_none_enabled (reset_enabled p)
  exact ⟨exec_powerOn, hrst, hdau, reset_slots, rfl, lowestCeiling_reset, rfl, rfl, rfl, rfl, rfl, rfl, rfl, rfl, rfl,
    rfl, rfl, rfl, rfl, rfl, rfl, rfl, rfl, rfl, hlines⟩

/-! ### The invariants after power-on -/

/-- R9: every reservation slot is empty. -/
theorem slotsReservable_reset : SlotsReservable State.reset := fun p r h => by
  have hempty : State.reset.rst.slots.get p = none := by cases p <;> rfl
  simp [hempty] at h

theorem kept_reset : Kept State.reset :=
  ⟨slotsReservable_reset, Nat.zero_le _, ⟨Nat.zero_le _, List.nodup_nil⟩, ⟨Nat.zero_le _, Nat.zero_le _⟩,
    ⟨Nat.zero_le _, List.nodup_nil⟩, rfl⟩

/-- R37, R40: every line is UNUSED. -/
theorem not_twoTachs_reset : ¬ TwoTachs MatrixTables.reset.lines := by
  rw [← twoTachs_iff]
  decide

/-- R41, R46: every cell is OFF and reads the constant. -/
theorem not_cyclic_reset : ¬ Cyclic MatrixTables.reset.cells := by
  rw [← hasCycle_iff_cyclic]
  decide

theorem coherent_reset : Coherent State.reset :=
  ⟨⟨not_cyclic_reset, not_cyclic_reset, not_twoTachs_reset, not_twoTachs_reset⟩, ⟨List.nodup_nil, nofun⟩,
    List.nodup_nil, fun _ => rfl⟩

theorem tractionOk_reset : TractionOk State.reset := tractionOk_iff.mpr ⟨settingsOk_reset, tduOk_reset⟩

/-- No command waits and none is handed on. -/
theorem guardValuesOk_reset : GuardValuesOk State.reset := guardValuesOk_iff.mpr ⟨guardsOk_nil, guardsOk_nil⟩

theorem soundRuns_reset : SoundRuns State.reset := lawAt_true.mp ⟨soundLaw_reset, fun _ _ => rfl⟩

/-- Settles O60. -/
theorem invariantsHoldAfterPowerOn : Obligations.InvariantsHoldAfterPowerOn := by
  unfold Obligations.InvariantsHoldAfterPowerOn
  obtain ⟨hsound, hplays, htimed, -⟩ := soundRuns_reset
  exact ⟨kept_reset, coherent_reset, tractionOk_reset, guardValuesOk_reset, hsound, hplays, htimed, soundRuns_reset⟩

end Sys2Proof.Machine

namespace Sys2Proof.Machine

/-! ### The queue of commands at a step (log 2) -/

theorem step_of_pending_cons {s : State} {c : Instr} {rest : List Instr} (h : s.pending = c :: rest) :
    step s = exec c { s with pending := rest } := by
  simp only [step, h]

/-- Settles O1: a step runs the front of any queue that is not empty. -/
theorem stepRunsTheFrontCommand : Obligations.StepRunsTheFrontCommand := fun _ _ _ => step_of_pending_cons rfl

end Sys2Proof.Machine

namespace Sys2Proof.Machine

/-! ### No event of a unit touches the queue of commands -/

theorem foldl_pending {α : Type} {f : State → α → State} (h : ∀ s x, (f s x).pending = s.pending)
    (l : List α) : ∀ s, (l.foldl f s).pending = s.pending := by
  induction l with
  | nil => exact fun _ => rfl
  | cons x l ih => exact fun s => (ih _).trans (h s x)

section
variable (s : State)

@[simp] theorem State.tduEvent_pending (reads : StoreWord → Bool) (r : Tdu × List Instr) :
    (s.tduEvent reads r).pending = s.pending := rfl

@[simp] theorem State.rtuEvent_pending (reads : StoreWord → Bool) (r : Rtu × List Instr) :
    (s.rtuEvent reads r).pending = s.pending := rfl

@[simp] theorem State.sruEvent_pending (reads : StoreWord → Bool) (r : Sru × List Instr) :
    (s.sruEvent reads r).pending = s.pending := rfl

@[simp] theorem State.sduEvent_pending (reads : StoreWord → Bool) (r : Sdu × List Instr) :
    (s.sduEvent reads r).pending = s.pending := rfl

@[simp] theorem State.settleFrom_pending (l : Lmu) : (s.settleFrom l).pending = s.pending := rfl

@[simp] theorem State.takeCondition_pending (c : Condition) (v : Bool) :
    (s.takeCondition c v).pending = s.pending := by
  unfold State.takeCondition
  split <;> rfl

@[simp] theorem State.rawChange_pending (n : Fin 32) (v : Bool) : (s.rawChange n v).pending = s.pending := by
  unfold State.rawChange
  split
  · rfl
  · dsimp only
    split
    · split
      · rfl
      · split <;> rfl
    all_goals rfl

@[simp] theorem State.attemptSelection_pending : s.attemptSelection.pending = s.pending := by
  unfold State.attemptSelection
  split
  · split <;> rfl
  · rfl

@[simp] theorem State.openWindow_pending : s.openWindow.pending = s.pending := State.attemptSelection_pending _

@[simp] theorem State.deliver_pending (r : Option Reception) : (s.deliver r).pending = s.pending := by
  unfold State.deliver
  split <;> rfl

theorem State.sample_pending (carrier : Bool) : (s.sample carrier).pending = s.pending := State.deliver_pending _ _

@[simp] theorem State.hear_pending (heard : List Bool) : (s.hear heard).pending = s.pending :=
  foldl_pending State.sample_pending heard s

theorem State.loopSample_pending (away : Bool) : (s.loopSample away).pending = s.pending := by
  unfold State.loopSample
  dsimp only
  split <;> rfl

@[simp] theorem State.listen_pending (heard : List Bool) : (s.listen heard).pending = s.pending :=
  foldl_pending State.loopSample_pending heard s

@[simp] theorem State.replyTimerExpiry_pending : s.replyTimerExpiry.pending = s.pending := by
  unfold State.replyTimerExpiry
  split <;> rfl

@[simp] theorem State.notifyEvent_pending (entry beacon : Nat) : (s.notifyEvent entry beacon).pending = s.pending := by
  unfold State.notifyEvent
  split <;> rfl

@[simp] theorem State.takeMoving_pending (u : MotionTaker) : (s.takeMoving u).pending = s.pending := by
  cases u with
  | lmu => exact s.takeCondition_pending _ _
  | _ => rfl

@[simp] theorem State.takeStandstill_pending (u : MotionTaker) : (s.takeStandstill u).pending = s.pending := by
  cases u with
  | lmu => exact s.takeCondition_pending _ _
  | _ => rfl

@[simp] theorem State.teardownChange_pending (byCommand changed : Bool) (r : Record) :
    (s.teardownChange byCommand changed r).pending = s.pending := by
  unfold State.teardownChange
  split
  · split <;> rfl
  · rfl

@[simp] theorem State.teardownAt_pending (former : Desk) (byCommand : Bool) (u : TeardownTaker) :
    (s.teardownAt former byCommand u).pending = s.pending := by
  cases u with
  | tdu => simp [State.teardownAt, State.teardownTdu]
  | rtu => simp [State.teardownAt, State.teardownRtu]
  | sru => simp [State.teardownAt, State.teardownSru]
  | sdu => simp [State.teardownAt, State.teardownSdu]
  | lcu => rfl

theorem State.tluLockdown_pending (view : LockState) : (s.tluLockdown view).pending = s.pending := by
  unfold State.tluLockdown
  dsimp only
  split
  · exact State.attemptSelection_pending _
  · rfl
  · rfl

theorem State.sduLockdown_pending (view : LockState) : (s.sduLockdown view).pending = s.pending := by
  unfold State.sduLockdown
  split <;> rfl

@[simp] theorem State.takeLockdown_pending (view : LockState) (u : LockTaker) :
    (s.takeLockdown view u).pending = s.pending := by
  cases u with
  | tdu => rfl
  | lmu => exact s.takeCondition_pending _ _
  | tlu => exact s.tluLockdown_pending view
  | sdu => exact s.sduLockdown_pending view

end

end Sys2Proof.Machine

namespace Sys2Proof.Machine

/-! ### Rows that answer a next state with the queue as it was (log 28) -/

/-- The outcome of a command at `s` is a next state, with the queue that `s` has. -/
def KeepsQueue (s : State) (o : Host.Outcome State Fault Refusal) : Prop := ∃ t, o = .next t ∧ t.pending = s.pending

section
variable {s : State}

theorem keepsQueue_next {t : State} (h : t.pending = s.pending) : KeepsQueue s (.next t) := ⟨t, rfl, h⟩

theorem KeepsQueue.after_pending {o : Host.Outcome State Fault Refusal} (h : KeepsQueue s o) :
    (s.after o).pending = s.pending := by
  obtain ⟨t, rfl, ht⟩ := h
  exact ht

theorem execDebounceTimerExpiry_keepsQueue (line : Fin 32) : KeepsQueue s (execDebounceTimerExpiry line s) := by
  unfold execDebounceTimerExpiry
  dsimp only
  split <;> exact keepsQueue_next rfl

theorem execOnDelayTimerExpiry_keepsQueue (cell : Fin 16) : KeepsQueue s (execOnDelayTimerExpiry cell s) := by
  unfold execOnDelayTimerExpiry
  dsimp only
  split <;> exact keepsQueue_next rfl

theorem execGuardTimerExpiry_keepsQueue (j : Nat) : KeepsQueue s (execGuardTimerExpiry j s) := by
  unfold execGuardTimerExpiry
  dsimp only
  split <;> exact keepsQueue_next rfl

theorem execTelegramEnd_keepsQueue : KeepsQueue s (execTelegramEnd s) := by
  unfold execTelegramEnd
  dsimp only
  split <;> exact keepsQueue_next rfl

theorem execGapTimerExpiry_keepsQueue : KeepsQueue s (execGapTimerExpiry s) := by
  unfold execGapTimerExpiry
  dsimp only
  split
  · exact keepsQueue_next (State.attemptSelection_pending _)
  · exact keepsQueue_next rfl

theorem execPollEnd_keepsQueue : KeepsQueue s (execPollEnd s) := by
  unfold execPollEnd
  dsimp only
  split <;> exact keepsQueue_next rfl

theorem execBadReply_keepsQueue (heard : List Bool) : KeepsQueue s (execBadReply heard s) := by
  unfold execBadReply
  dsimp only
  split
  · exact keepsQueue_next (State.replyTimerExpiry_pending _)
  · exact keepsQueue_next (State.listen_pending _ _)

theorem execHardwareSoundAdd_keepsQueue (src : SoundSource) (snd : Sounder) (pattern : Fin 16) :
    KeepsQueue s (execHardwareSoundAdd src snd pattern s) := by
  unfold execHardwareSoundAdd
  dsimp only
  split <;> exact keepsQueue_next rfl

theorem execHardwareSoundRemove_keepsQueue (src : SoundSource) (snd : Sounder) :
    KeepsQueue s (execHardwareSoundRemove src snd s) := by
  unfold execHardwareSoundRemove
  dsimp only
  split <;> exact keepsQueue_next rfl

theorem execDirectSoundPermitEvent_keepsQueue (k : DirectSound) (value : Bool) :
    KeepsQueue s (execDirectSoundPermitEvent k value s) := by
  unfold execDirectSoundPermitEvent
  dsimp only
  split <;> exact keepsQueue_next rfl

theorem execPhaseTimerExpiry_keepsQueue (snd : Sounder) : KeepsQueue s (execPhaseTimerExpiry snd s) := by
  unfold execPhaseTimerExpiry
  dsimp only
  split <;> exact keepsQueue_next rfl

theorem execPortTransaction_keepsQueue (p : Port) (frame : PortFrame) : KeepsQueue s (execPortTransaction p frame s) := by
  refine keepsQueue_next ?_
  split <;> rfl

/-- A row is a request at a port, which is no event a unit takes before one, or it answers a next state with the
same queue. -/
theorem row_request_or_keepsQueue (s : State) (c : Instr) :
    ((∃ p r, exec c s = .next (s.request p r)) ∧ s.takeEvent c = s) ∨ KeepsQueue s (exec c s) := by
  cases c with
  | powerOn => exact .inr (keepsQueue_next rfl)
  | portTransaction p frame => exact .inr (execPortTransaction_keepsQueue p frame)
  | structuralChangeReport r => exact .inr (keepsQueue_next rfl)
  | rawLevelChange line level => exact .inr (keepsQueue_next (State.rawChange_pending _ line level))
  | debounceTimerExpiry line => exact .inr (execDebounceTimerExpiry_keepsQueue line)
  | onDelayTimerExpiry cell => exact .inr (execOnDelayTimerExpiry_keepsQueue cell)
  | conditionChange c value => exact .inr (keepsQueue_next (State.takeCondition_pending _ c value))
  | keyPermitEvent d value => exact .inr (keepsQueue_next rfl)
  | vigilancePedalEvent d value => exact .inr (keepsQueue_next rfl)
  | tractionPermitEvent value => exact .inr (keepsQueue_next rfl)
  | atStopEvent value => exact .inr (keepsQueue_next rfl)
  | directSoundPermitEvent k value => exact .inr (execDirectSoundPermitEvent_keepsQueue k value)
  | emergencyStopEvent value => exact .inr (keepsQueue_next rfl)
  | tachPulse => exact .inr (keepsQueue_next rfl)
  | standstillTimerExpiry => exact .inr (keepsQueue_next rfl)
  | movingReport u => exact .inr (keepsQueue_next (State.takeMoving_pending _ u))
  | standstillReport u => exact .inr (keepsQueue_next (State.takeStandstill_pending _ u))
  | deskStateChange new => exact .inr (keepsQueue_next rfl)
  | noDeskTeardown u former byCommand =>
    exact .inr (keepsQueue_next (State.teardownAt_pending (s.take _) former byCommand u))
  | leadingEndPublished e => exact .inr (keepsQueue_next rfl)
  | frameTimerExpiry => exact .inr (keepsQueue_next rfl)
  | statusFrame octets => exact .inr (keepsQueue_next rfl)
  | staleTimerExpiry => exact .inr (keepsQueue_next rfl)
  | graceTimerExpiry => exact .inr (keepsQueue_next rfl)
  | pointGuardEntryChange active value => exact .inr (keepsQueue_next rfl)
  | beaconTelegram heard => exact .inr (keepsQueue_next (State.hear_pending _ heard))
  | pointStateTelegram heard => exact .inr (keepsQueue_next (State.hear_pending _ heard))
  | trackRxError heard => exact .inr (keepsQueue_next (State.hear_pending _ heard))
  | armRoute junction => exact .inr (keepsQueue_next rfl)
  | clearance junction => exact .inr (keepsQueue_next rfl)
  | stopZoneEnter platform mandatory => exact .inr (keepsQueue_next rfl)
  | stopZoneLeave platform => exact .inr (keepsQueue_next rfl)
  | notifyAction entry beacon => exact .inr (keepsQueue_next (State.notifyEvent_pending s entry beacon))
  | windowOpen => exact .inr (keepsQueue_next (State.openWindow_pending _))
  | windowClose => exact .inr (keepsQueue_next rfl)
  | guardTimerExpiry junction => exact .inr (execGuardTimerExpiry_keepsQueue junction)
  | lateDecisionReport platform => exact .inr (keepsQueue_next rfl)
  | owedReport => exact .inr (keepsQueue_next (State.attemptSelection_pending _))
  | telegramEnd => exact .inr execTelegramEnd_keepsQueue
  | gapTimerExpiry => exact .inr execGapTimerExpiry_keepsQueue
  | pollEnd => exact .inr execPollEnd_keepsQueue
  | goodReply heard => exact .inr (keepsQueue_next (State.listen_pending _ heard))
  | badReply heard => exact .inr (execBadReply_keepsQueue heard)
  | unsolicitedCharacter => exact .inr (keepsQueue_next rfl)
  | hardwareSoundAdd src snd pattern => exact .inr (execHardwareSoundAdd_keepsQueue src snd pattern)
  | hardwareSoundRemove src snd => exact .inr (execHardwareSoundRemove_keepsQueue src snd)
  | phaseTimerExpiry snd => exact .inr (execPhaseTimerExpiry_keepsQueue snd)
  | strikeEnd => exact .inr (keepsQueue_next rfl)
  | severeFault kind source context recoverable effort => exact .inr (keepsQueue_next rfl)
  | lockdownViewChange u view => exact .inr (keepsQueue_next (State.takeLockdown_pending _ view u))
  | noticeRaise c => exact .inr (keepsQueue_next rfl)
  | receiverRecoveringBit carrier => exact .inr (keepsQueue_next rfl)
  | _ => exact .inl ⟨⟨_, _, rfl⟩, rfl⟩

theorem State.takeEvent_pending (s : State) (c : Instr) : (s.takeEvent c).pending = s.pending := by
  rcases row_request_or_keepsQueue s c with ⟨-, hstays⟩ | hrow
  · rw [hstays]
  · rcases takeEvent_cases s c with he | he <;> rw [he]
    exact hrow.after_pending

@[simp] theorem State.takeAll_pending (s : State) (l : List Instr) : (s.takeAll l).pending = s.pending :=
  foldl_pending State.takeEvent_pending l s

@[simp] theorem State.completeTeardown_pending (s : State) : s.completeTeardown.pending = s.pending := by
  simp [State.completeTeardown, State.takeDeskEvents, State.takeShares]

end

end Sys2Proof.Machine

namespace Sys2Proof.Machine

/-! ### No answer of an owner touches the queue of commands -/

section
variable (s : State)

/-! #### WRITEs -/

theorem demandWriteAnswer_pending (d : Desk) (index : Byte) (contents : List Byte) :
    (demandWriteAnswer d index contents s).state.pending = s.pending := by
  unfold demandWriteAnswer
  split
  · rfl
  · dsimp only
    split <;> rfl

theorem vehicleWriteAnswer_pending (index : Byte) (contents : List Byte) :
    (vehicleWriteAnswer index contents s).state.pending = s.pending := by
  unfold vehicleWriteAnswer
  split <;> rfl

theorem settingsWriteAnswer_pending (index : Byte) (contents : List Byte) :
    (settingsWriteAnswer index contents s).state.pending = s.pending := by
  unfold settingsWriteAnswer
  split <;> rfl

theorem linesWriteAnswer_pending (index : Byte) (contents : List Byte) :
    (linesWriteAnswer index contents s).state.pending = s.pending := by
  unfold linesWriteAnswer
  split
  · rfl
  · split <;> rfl

theorem cellsWriteAnswer_pending (index : Byte) (contents : List Byte) :
    (cellsWriteAnswer index contents s).state.pending = s.pending := by
  unfold cellsWriteAnswer
  split
  · rfl
  · split <;> rfl

theorem permitsWriteAnswer_pending (index : Byte) (contents : List Byte) :
    (permitsWriteAnswer index contents s).state.pending = s.pending := by
  unfold permitsWriteAnswer
  split <;> rfl

theorem locationsWriteAnswer_pending (index : Byte) (contents : List Byte) :
    (locationsWriteAnswer index contents s).state.pending = s.pending := by
  unfold locationsWriteAnswer
  split <;> rfl

theorem patternsWriteAnswer_pending (index : Byte) (contents : List Byte) :
    (patternsWriteAnswer index contents s).state.pending = s.pending := by
  unfold patternsWriteAnswer
  split
  · rfl
  · split <;> rfl

theorem writeAnswer_pending (index : Byte) (contents : List Byte) (r : Record) :
    (writeAnswer index contents s r).state.pending = s.pending := by
  cases r with
  | demandA => exact demandWriteAnswer_pending _ _ _ _
  | demandB => exact demandWriteAnswer_pending _ _ _ _
  | vehicle => exact vehicleWriteAnswer_pending _ _ _
  | lines => exact linesWriteAnswer_pending _ _ _
  | cells => exact cellsWriteAnswer_pending _ _ _
  | permits => exact permitsWriteAnswer_pending _ _ _
  | locations => exact locationsWriteAnswer_pending _ _ _
  | patterns => exact patternsWriteAnswer_pending _ _ _
  | settings => exact settingsWriteAnswer_pending _ _ _
  | _ => rfl

/-! #### CONFIG_COMMIT and RECONFIGURE (R189, R190) -/

theorem State.commit_pending : s.commit.pending = s.pending := by
  simp [State.commit]

theorem State.endGuard_pending (plan : List PlanEntry) : (s.endGuard plan).pending = s.pending := by
  unfold State.endGuard
  split
  · exact State.takeCondition_pending _ _ _
  · rfl

theorem State.reconfigureRtu_pending : s.reconfigureRtu.pending = s.pending := State.endGuard_pending _ _

theorem State.reconfigureSru_pending : s.reconfigureSru.pending = s.pending := by
  unfold State.reconfigureSru
  dsimp only
  split
  · exact State.takeCondition_pending _ _ _
  · rfl

theorem State.reconfigureParts_pending : s.reconfigureParts.pending = s.pending := by
  simp [State.reconfigureParts, State.reconfigureSru_pending, State.reconfigureLcu, State.reconfigureRtu_pending]

theorem State.reconfigure_pending : s.reconfigure.pending = s.pending :=
  (State.reconfigureParts_pending _).trans (s.takeAll_pending _)

/-! #### Commands -/

theorem deskClaimAnswer_pending (p : Port) (args : List Byte) :
    (deskClaimAnswer p args s).state.pending = s.pending := by
  unfold deskClaimAnswer
  split
  · split_ifs <;> rfl
  all_goals rfl

theorem deskReleaseAnswer_pending (p : Port) (args : List Byte) :
    (deskReleaseAnswer p args s).state.pending = s.pending := by
  unfold deskReleaseAnswer
  split
  · split_ifs <;> rfl
  all_goals rfl

theorem deskForceReleaseAnswer_pending (args : List Byte) :
    (deskForceReleaseAnswer args s).state.pending = s.pending := by
  unfold deskForceReleaseAnswer
  split
  · rfl
  · split_ifs <;> rfl

theorem supervisorCeilingAnswer_pending (args : List Byte) :
    (supervisorCeilingAnswer args s).state.pending = s.pending := by
  unfold supervisorCeilingAnswer
  split
  · rfl
  · split <;> rfl

theorem State.routeCommand_pending (l : List SettingName) (r : RouteResult) :
    (s.routeCommand l r).state.pending = s.pending := by
  unfold State.routeCommand
  split <;> rfl

theorem routeInsertAnswer_pending (p : Port) (args : List Byte) :
    (routeInsertAnswer p args s).state.pending = s.pending := by
  unfold routeInsertAnswer
  split
  · exact s.routeCommand_pending _ _
  · rfl

theorem routeSetCodeAnswer_pending (args : List Byte) : (routeSetCodeAnswer args s).state.pending = s.pending := by
  unfold routeSetCodeAnswer
  split
  · exact s.routeCommand_pending _ _
  · rfl

theorem routeCancelAnswer_pending (args : List Byte) : (routeCancelAnswer args s).state.pending = s.pending := by
  unfold routeCancelAnswer
  split
  · exact s.routeCommand_pending _ _
  · rfl

theorem routeOverrideAnswer_pending (args : List Byte) : (routeOverrideAnswer args s).state.pending = s.pending := by
  unfold routeOverrideAnswer
  split
  · exact s.routeCommand_pending _ _
  · rfl

theorem planSyncAnswer_pending (args : List Byte) : (planSyncAnswer args s).state.pending = s.pending := by
  unfold planSyncAnswer
  split
  · exact s.routeCommand_pending _ _
  · rfl

theorem stopSetAnswer_pending (args : List Byte) : (stopSetAnswer args s).state.pending = s.pending := by
  unfold stopSetAnswer
  split
  · split_ifs <;> rfl
  · rfl

theorem stopClearAnswer_pending (args : List Byte) : (stopClearAnswer args s).state.pending = s.pending := by
  unfold stopClearAnswer
  split
  · split <;> rfl
  · rfl

theorem soundStartAnswer_pending (p : Port) (args : List Byte) :
    (soundStartAnswer p args s).state.pending = s.pending := by
  unfold soundStartAnswer
  split
  · rfl
  · dsimp only
    split_ifs
    iterate 3 rfl
    split <;> rfl

theorem soundStopAnswer_pending (p : Port) (args : List Byte) :
    (soundStopAnswer p args s).state.pending = s.pending := by
  unfold soundStopAnswer
  split
  · rfl
  · dsimp only
    split_ifs <;> rfl

theorem faultAckAnswer_pending (args : List Byte) : (faultAckAnswer args s).state.pending = s.pending := by
  unfold faultAckAnswer
  split
  · rfl
  · split_ifs <;> rfl

theorem lockdownReleaseAnswer_pending (args : List Byte) :
    (lockdownReleaseAnswer args s).state.pending = s.pending := by
  unfold lockdownReleaseAnswer
  split
  · rfl
  · split_ifs <;> rfl

theorem noticeClearAnswer_pending (p : Port) (args : List Byte) :
    (noticeClearAnswer p args s).state.pending = s.pending := by
  unfold noticeClearAnswer
  split
  · rfl
  · split <;> rfl

theorem noticeEnableAnswer_pending (p : Port) (args : List Byte) :
    (noticeEnableAnswer p args s).state.pending = s.pending := by
  unfold noticeEnableAnswer
  split
  · rfl
  · split <;> rfl

theorem configCommitAnswer_pending (args : List Byte) : (configCommitAnswer args s).state.pending = s.pending := by
  unfold configCommitAnswer
  split
  · rfl
  · split_ifs
    iterate 4 rfl
    exact s.commit_pending

theorem reconfigureAnswer_pending (args : List Byte) : (reconfigureAnswer args s).state.pending = s.pending := by
  unfold reconfigureAnswer
  split
  · rfl
  · split_ifs
    · rfl
    · exact s.reconfigure_pending
    · rfl

theorem commandAnswer_pending (p : Port) (args : List Byte) (c : CommandName) :
    (commandAnswer p args s c).state.pending = s.pending := by
  cases c with
  | deskClaim => exact deskClaimAnswer_pending _ _ _
  | deskRelease => exact deskReleaseAnswer_pending _ _ _
  | deskForceRelease => exact deskForceReleaseAnswer_pending _ _
  | supervisorCeiling => exact supervisorCeilingAnswer_pending _ _
  | routeInsert => exact routeInsertAnswer_pending _ _ _
  | routeSetCode => exact routeSetCodeAnswer_pending _ _
  | routeCancel => exact routeCancelAnswer_pending _ _
  | routeOverride => exact routeOverrideAnswer_pending _ _
  | planSync => exact planSyncAnswer_pending _ _
  | stopSet => exact stopSetAnswer_pending _ _
  | stopClear => exact stopClearAnswer_pending _ _
  | soundStart => exact soundStartAnswer_pending _ _ _
  | soundStop => exact soundStopAnswer_pending _ _ _
  | faultAck => exact faultAckAnswer_pending _ _
  | lockdownRelease => exact lockdownReleaseAnswer_pending _ _
  | noticeClear => exact noticeClearAnswer_pending _ _ _
  | noticeEnable => exact noticeEnableAnswer_pending _ _ _
  | configCommit => exact configCommitAnswer_pending _ _
  | reconfigure => exact reconfigureAnswer_pending _ _

end

end Sys2Proof.Machine

namespace Sys2Proof.Machine

/-! ### No request that is served touches the queue of commands -/

section
variable (s : State)

@[simp] theorem State.consume_pending (p : Port) (cond : Bool) (v : Verdict) :
    (s.consume p cond v).pending = s.pending := by
  unfold State.consume
  split <;> rfl

@[simp] theorem State.cancelOthers_pending (p : Port) (changed : Bool) (r : Record) :
    (s.cancelOthers p changed r).pending = s.pending := by
  unfold State.cancelOthers
  split <;> rfl

/-- R6: a check that fails refuses at the state as it is, and only then the owner answers. -/
theorem State.serveChecked_pending (p : Port) (cond : Bool) (r : Record) (modeOk portOk : Bool)
    {owner : State → Answer} (h : (owner s).state.pending = s.pending) :
    (s.serveChecked p cond r modeOk portOk owner).1.pending = s.pending := by
  simp only [State.serveChecked, State.consume_pending, State.cancelOthers_pending]
  split_ifs
  iterate 3 rfl
  exact h

@[simp] theorem State.afterRead_pending (p : Port) (r : Record) (index : Byte) :
    (s.afterRead p r index).pending = s.pending := by
  cases r with
  | sound =>
    unfold State.afterRead
    dsimp only
    split <;> rfl
  | _ => rfl

theorem State.serveRead_pending (p : Port) (reserve : Bool) (target index : Byte) :
    (s.serveRead p reserve target index).1.pending = s.pending := by
  unfold State.serveRead
  split
  · rfl
  · split
    · rfl
    · split
      · rfl
      · split
        · rfl
        · dsimp only
          split <;> exact s.afterRead_pending _ _ _

theorem State.answerRequest_pending (p : Port) (r : Request) : (s.answerRequest p r).1.pending = s.pending := by
  cases r with
  | null => rfl
  | read target index => exact s.serveRead_pending _ _ _ _
  | readReserve target index => exact s.serveRead_pending _ _ _ _
  | write cond target index contents =>
    unfold State.answerRequest
    dsimp only
    split
    · exact s.consume_pending _ _ _
    · exact s.serveChecked_pending _ _ _ _ _ (writeAnswer_pending _ _ _ _)
  | command cond code args =>
    unfold State.answerRequest
    dsimp only
    split
    · exact s.consume_pending _ _ _
    · exact s.serveChecked_pending _ _ _ _ _ (commandAnswer_pending _ _ _ _)

theorem State.serve_pending (p : Port) (r : Request) : (s.serve p r).pending = s.pending := by
  simp [State.serve, State.respond, State.answerRequest_pending]

theorem State.request_pending (p : Port) (r : Request) : (s.request p r).pending = s.pending := by
  have hjoins (t : State) (now : Prop) [Decidable now] (ht : t.pending = s.pending) :
      (if now then t.serve p r else t).pending = s.pending := by
    split
    · exact (t.serve_pending p r).trans ht
    · exact ht
  unfold State.request
  dsimp only
  apply hjoins
  split <;> rfl

end

/-! ### Every command -/

theorem exec_keepsQueue (c : Instr) (s : State) : KeepsQueue s (exec c s) := by
  rcases row_request_or_keepsQueue s c with ⟨⟨p, r, hrequest⟩, -⟩ | hrow
  · rw [hrequest]
    exact keepsQueue_next (s.request_pending p r)
  · exact hrow

/-- Settles O3: a row is an event of a unit, or a request at a port, which is made of such events and an owner's
answer. -/
theorem everyCommandAnswersANextStateAndKeepsTheQueue :
    Obligations.EveryCommandAnswersANextStateAndKeepsTheQueue := by
  unfold Obligations.EveryCommandAnswersANextStateAndKeepsTheQueue
  exact exec_keepsQueue

end Sys2Proof.Machine
